-- ==== Sys2Proof/Word.lean ====
section
/-! DEFINITION. The words of the DX-48's two serial lines: bytes and two-byte fields. Everything the manual counts or
measures is a Nat or an Int with a stated range; a bit vector stands only for what travels as bits. -/

namespace Sys2Proof

/-- A byte of the link port or of the door line. -/
abbrev Byte := BitVec 8

/-- A two-byte field of a request (R201: little-endian on the link). -/
abbrev Half := BitVec 16

end Sys2Proof
end

