-- ==== Sys2Proof/Config.lean ====
section
/-! DEFINITION. The sizes and limits the manual fixes for every DX-48: places in lists and queues, wire codes of the three
reply kinds, periods that no request can change. The manual leaves no implementation choice of a value to a part, so no
constant here is opaque. -/

namespace Sys2Proof.Config

/-- Requests the input holding area holds (R187). -/
def holdingPlaces : Nat := 4
/-- Replies the reply list holds (R190). -/
def replyPlaces : Nat := 8
/-- Notices the notice queue holds (R193). -/
def noticePlaces : Nat := 32
/-- Entries the outbound queue of the door line holds (R85). -/
def outboundPlaces : Nat := 16
/-- Entries the priority list of the measurement unit holds (R50). -/
def priorityPlaces : Nat := 8
/-- Consecutive no-answers at which an entry leaves the outbound queue (R75). -/
def noAnswerLimit : Nat := 3
/-- Quarter-second marks in a compensation period (R5). -/
def marksPerPeriod : Nat := 1024
/-- Crystal ticks in a second (R1). -/
def ticksPerSecond : Nat := 32768
/-- Crystal ticks in a quarter of a second (R4). -/
def ticksPerQuarter : Nat := 8192
/-- Minutes in a week (R2). -/
def minutesPerWeek : Nat := 10080
/-- Minutes in a day (R2). -/
def minutesPerDay : Nat := 1440
/-- Switch points of the output chain (R180). -/
def chainPoints : Nat := 64
/-- Microseconds from one move of the output chain to the next (R180). -/
def chainMicros : Nat := 10
/-- Seconds between expiries of the probe timer (R97). -/
def probePeriod : Nat := 30
/-- Seconds between probes of a DEAD line (R78). -/
def deadProbePeriod : Nat := 1
/-- Seconds from a start to each zone's first evaluation (R133). -/
def firstEvaluation : Nat := 1
/-- Kind byte of a DONE reply. -/
def doneKind : Byte := 0x80
/-- Kind byte of a REFUSED reply. -/
def refusedKind : Byte := 0x81
/-- Kind byte of a notice frame. -/
def noticeKind : Byte := 0x82
/-- The begin byte of a link frame (R185). -/
def beginByte : Byte := 0xA5

end Sys2Proof.Config
end

