-- ==== Sys2Proof/Syntax.lean ====
section
/-! DEFINITION. The commands of the DX-48: one constructor per row of spec/opcode_table.json.

Three sorts of row stand in the table. A REQUEST row (SET_CLOCK, CHAN_WRITE …) carries the request's tag and its fields as
they stand on the wire, each in the width R201 gives it; enumeration fields are the raw byte, so that the owner's own
checks can refuse them. An EVENT row of the outside world (a byte on LRX, a frame on the door line, a timer's expiry, a
crystal cycle) carries what the outside decides. An EVENT row inside the part (ZONE_EVALUATION, GROUP_DEMAND_COMPUTE,
ALLOCATION_PASS …) is the taking, by the block that owns it, of what another block has handed to it; the sender of the
commands thereby decides the order in which blocks take their events, which the manual leaves open. -/

namespace Sys2Proof

/-- The fields of CAL_WRITE_HEADER (R18), in the order of the header table. -/
structure HeaderFields where
  idleSetpoint : Half
  idleLight : Byte
  idleVent : Byte
  presenceLight : Byte
  presenceHold : Byte
  doorLight : Byte
  outdoor : Byte
  curtainThreshold : Half
  runOn : Half
  fallbackPhase : Byte
  fallbackProfile : Byte
  deriving DecidableEq, Repr, Inhabited

/-- The fields of CAL_WRITE_SHIFT after the entry number (R19). -/
structure ShiftFields where
  inUse : Byte
  days : Byte
  start : Half
  length : Half
  profile : Byte
  zones : Half
  deriving DecidableEq, Repr, Inhabited

/-- The fields of CAL_WRITE_PROFILE after the profile number (R20). -/
structure ProfileFields where
  setActive : Half
  setWarmup : Half
  setWinddown : Half
  lightActive : Byte
  lightOther : Byte
  ventActive : Byte
  ventWinddown : Byte
  lead : Byte
  hold : Byte
  doorLimit : Byte
  deriving DecidableEq, Repr, Inhabited

/-- The fields of CAL_WRITE_WINDOW after the window number (R21). -/
structure WindowFields where
  inUse : Byte
  days : Byte
  start : Half
  stop : Half
  limit : Half
  deriving DecidableEq, Repr, Inhabited

/-- The fields of ZONE_WRITE ONE after the zone number (R113), in the order of the zone record. -/
structure ZoneFields where
  channel : Byte
  group : Byte
  kd : Byte
  kv : Byte
  kp : Byte
  ki : Byte
  imax : Half
  hyst : Byte
  fallback : Byte
  floor : Byte
  dim : Byte
  deriving DecidableEq, Repr, Inhabited

/-- The fields of CHAN_WRITE after the channel number (R43), in the order of the channel record. -/
structure ChannelFields where
  kind : Byte
  enabled : Byte
  gain : Byte
  settle : Byte
  scaleLo : Half
  scaleHi : Half
  depth : Byte
  rail : Byte
  windowOn : Byte
  sense : Byte
  lo : Half
  hi : Half
  lowHyst : Half
  highHyst : Half
  group : Byte
  t1 : Half
  t2 : Half
  t3 : Half
  rise : Half
  fall : Half
  deriving DecidableEq, Repr, Inhabited

/-- The fields of LOAD_WRITE after the load index (R163), in the order of the load record. The binding is one field of two
bytes, its form and its number. -/
structure LoadFields where
  kind : Byte
  owner : Byte
  stage : Byte
  rating : Half
  rank : Byte
  protection : Byte
  floor : Byte
  minOn : Half
  minOff : Half
  bindForm : Byte
  bindNumber : Byte
  enable : Byte
  deriving DecidableEq, Repr, Inhabited

/-- An event inside the part that is taken after a door report has been handed to its record and before its answer is formed
(R99): the evaluation of a zone, the demand of a fan group, or the pass of a change, by its place among those waiting. -/
inductive Early where
  | evaluation (zone : Nat)
  | demand (group : Nat)
  | pass (change : Nat)
  deriving DecidableEq, Repr, Inhabited

/-- What the door line carried, span by span in microseconds (R65): a frame of another node from its lead pulse on, or an answer
to the controller's frame from the release that began the data close. -/
inductive Heard where
  | frame (spans : List Nat)
  | answer (spans : List Nat)
  deriving DecidableEq, Repr, Inhabited

/-- The commands, in the order of spec/opcode_table.json. -/
inductive Instr where
  | powerOn (straps : BitVec 2) (storeReads : Bool)
  | resetAsserted
  | linkFrameReceived (length : Byte) (body : List Byte) (crcHigh crcLow : Byte)
  | linkGapTimeout
  | requestUnknownKind (kind tag : Byte) (fields : List Byte)
  | linkFrameSent
  | askStatus (tag : Byte)
  | setClock (tag : Byte) (weekMinute : Half) (second : Byte) (dayCount : Half)
  | askClock (tag : Byte)
  | setTrim (tag : Byte) (a : Half) (kq t0 : Byte)
  | calOpen (tag : Byte)
  | calWriteHeader (tag : Byte) (fields : HeaderFields)
  | calWriteShift (tag entry : Byte) (fields : ShiftFields)
  | calWriteProfile (tag profile : Byte) (fields : ProfileFields)
  | calWriteWindow (tag window : Byte) (fields : WindowFields)
  | calClose (tag : Byte)
  | calDrop (tag : Byte)
  | calReadHeader (tag copy : Byte)
  | calReadShift (tag copy entry : Byte)
  | calReadProfile (tag copy profile : Byte)
  | calReadWindow (tag copy window : Byte)
  | calReadState (tag : Byte)
  | calReadZone (tag zone : Byte)
  | zoneWriteOne (tag zone : Byte) (fields : ZoneFields)
  | zoneWriteTiming (tag interval : Byte) (hold : Half)
  | zoneRead (tag zone : Byte)
  | zoneOverridePhaseActive (tag zone profile : Byte) (minutes : Half)
  | zoneOverridePhaseIdle (tag zone : Byte) (minutes : Half)
  | zoneOverrideLight (tag zone level : Byte) (minutes : Half)
  | zoneOverrideCancelPhase (tag zone : Byte)
  | zoneOverrideCancelLight (tag zone : Byte)
  | chanWrite (tag channel : Byte) (fields : ChannelFields)
  | chanReadChannel (tag channel : Byte)
  | chanReadScan (tag : Byte)
  | scanWrite (tag count : Byte) (entries : List Byte) (period fast : Byte)
  | measure (tag channel : Byte)
  | flagsClear (tag : Byte) (mask : BitVec 24)
  | groupWriteOne (tag group credit : Byte)
  | groupWriteHold (tag : Byte) (limit : Half)
  | groupRead (tag group : Byte)
  | stationWriteOne (tag address enabled zone : Byte)
  | stationWriteMaskEnable (tag : Byte) (mask : BitVec 48)
  | stationWriteMaskDisable (tag : Byte) (mask : BitVec 48)
  | stationWriteTimeout (tag : Byte) (timeout : Half)
  | stationReadOne (tag address : Byte)
  | stationReadSummary (tag : Byte)
  | lineReset (tag : Byte)
  | loadWrite (tag load : Byte) (fields : LoadFields)
  | loadReadOne (tag load : Byte)
  | loadReadSummary (tag : Byte)
  | loadEnableSet (tag : Byte) (mask : BitVec 128)
  | loadEnableClear (tag : Byte) (mask : BitVec 128)
  | auxRequest (tag load request : Byte) (urgency : Half)
  | limitWrite (tag : Byte) (base : Half) (spacing : Byte)
  | limitCapSet (tag : Byte) (value : Half) (minutes : Byte)
  | limitCapCancel (tag : Byte)
  | noticeMask (tag : Byte) (mask : Half)
  | saveConfig (tag : Byte)
  | saveComplete
  | restart (tag : Byte)
  | restartEffect
  | quarterSecondMark
  | correctionCycle
  | minuteBoundary
  | scanTimerExpiry
  | fastScanTimerExpiry
  | conversionComplete (nanovolts : Int)
  | validAgeSecond
  | gasConversion (channel : Nat)
  | holdCheck
  | groupDemandCompute (group : Nat)
  | frameStart
  | arbitrationLost
  | doorReport (address door : Byte) (early : List Early)
  | hello (address station revision door : Byte) (early : List Early)
  | statusReport (address door condition : Byte) (early : List Early)
  | presenceReport (address motion : Byte)
  | stationFrameRejected (heard : Heard)
  | answerSent
  | queryAnswer (door condition check : Byte)
  | setOutputsAnswer (door check : Byte)
  | noAnswer
  | lineRest
  | lineClearReceived
  | lineStuck
  | stuckRelease
  | lineDead
  | deadProbe (released echoed : Bool)
  | silenceTimerExpiry (address : Nat)
  | probeTimerExpiry
  | doorSecondTick
  | phaseHandoffDoorLine (zone : Nat)
  | zoneEvaluation (zone : Nat)
  | evaluationTimerExpiry (zone : Nat)
  | freezeGuardEdge (channel : Nat) (alarm : Bool)
  | presenceTimerExpiry (zone : Nat)
  | runOnExpiry (address : Nat)
  | allocationPass (change : Nat)
  | spacingTimerExpiry
  | minOnExpiry (load : Nat)
  | minOffExpiry (load : Nat)
  | capExpiry
  | outputRefreshLatch
  | periodicRefresh
  | crystalCycle
  | drivingEdge
  | dimPeriodStart (output : Nat)
  | linkByteReceived (byte : Byte)
  deriving DecidableEq, Repr

end Sys2Proof
end

