-- ==== Sys2Proof/Machine/Numeric.lean ====
section
/-! DEFINITION. The arithmetic the manual's chapters share: clamping, the rounding words of 00_scope.md, the shared
threshold convention, the two CRCs (R67, R185), little-endian fields (R201), and tables of a fixed size read and written
by number. -/

namespace Sys2Proof.Machine

/-- *Clamped to lo..hi* for a figure that is never negative. -/
def clampN (lo hi v : Nat) : Nat := max lo (min hi v)

/-- *Clamped to lo..hi* for a signed figure. -/
def clampZ (lo hi v : Int) : Int := max lo (min hi v)

/-- *Rounded to nearest, halves away from zero*: the quotient of a by a positive b. -/
def roundQuot (a : Int) (b : Nat) : Int :=
  if a < 0 then -(((2 * a.natAbs + b) / (2 * b) : Nat) : Int) else (((2 * a.natAbs + b) / (2 * b) : Nat) : Int)

/-- The least integer at or above a / b. -/
def ceilQuot (a b : Nat) : Nat := (a + b - 1) / b

/-- A count that stops at its largest value. -/
def satAdd (top a b : Nat) : Nat := min top (a + b)

/-- The shared threshold convention of 00_scope.md: U on-thresholds met and L off-thresholds met move a count. -/
def regrade (current on off : Nat) : Nat :=
  if on > current then on else if off < current then off else current

/-- How many thresholds of a list are met, a threshold being met when the value is at or above it. -/
def metCount (value : Int) (thresholds : List Int) : Nat :=
  (thresholds.filter (fun t => decide (t ≤ value))).length

/-! ### Tables of a fixed size -/

section Tables

variable {α β : Type} {size : Nat}

/-- A table of n entries, the i-th given by f i. -/
def Tab.build (n : Nat) (f : Nat → α) : Vector α n := ⟨⟨(List.range n).map f⟩, by simp⟩

/-- Entry i of a table (the type's default beyond its end, which no caller's checks let through). -/
def Tab.get [Inhabited α] (v : Vector α size) (i : Nat) : α := v.getD i default

/-- The table with entry i replaced (unchanged beyond its end). -/
def Tab.put (v : Vector α size) (i : Nat) (x : α) : Vector α size := v.setIfInBounds i x

/-- The table with entry i changed by f. -/
def Tab.change [Inhabited α] (v : Vector α size) (i : Nat) (f : α → α) : Vector α size :=
  Tab.put v i (f (Tab.get v i))

/-- The table with every entry changed by f. -/
def Tab.each (v : Vector α size) (f : α → β) : Vector β size :=
  ⟨⟨v.toArray.toList.map f⟩, by simp⟩

/-- The entries in ascending order. -/
def Tab.list (v : Vector α size) : List α := v.toArray.toList

/-- The numbers of the entries that meet p, ascending. -/
def Tab.where [Inhabited α] (v : Vector α size) (p : Nat → α → Bool) : List Nat :=
  (List.range size).filter fun i => p i (Tab.get v i)

end Tables

/-! ### Bytes -/

/-- The n bytes of a figure, least significant first (R201). -/
def leBytes : Nat → Nat → List Byte
  | 0, _ => []
  | n + 1, v => BitVec.ofNat 8 v :: leBytes n (v / 256)

/-- The figure that bytes sent least significant first spell (R201). -/
def ofLe : List Byte → Nat
  | [] => 0
  | b :: bs => b.toNat + 256 * ofLe bs

/-- One byte of a figure. -/
def u8 (v : Nat) : List Byte := leBytes 1 v

/-- Two bytes of a figure. -/
def u16 (v : Nat) : List Byte := leBytes 2 v

/-- Two bytes of a signed figure, two's complement. -/
def i16 (v : Int) : List Byte := leBytes 2 (BitVec.ofInt 16 v).toNat

/-- A yes/no figure, flag or guard: one byte (R201). -/
def flagByte (b : Bool) : List Byte := [if b then 1 else 0]

/-- A one-byte figure that may be none, coded as all ones (R201). -/
def u8? (v : Option Nat) : List Byte := u8 (v.getD 255)

/-- A two-byte figure that may be none, coded as all ones (R201). -/
def u16? (v : Option Nat) : List Byte := u16 (v.getD 65535)

/-- A one-byte figure that may be none and takes every value of its width: a presence byte, then the figure or 0 (R201). -/
def present8 (v : Option Nat) : List Byte := flagByte v.isSome ++ u8 (v.getD 0)

/-- A two-byte figure that may be none and takes every value of its width: a presence byte, then the figure or 0 (R201). -/
def present16 (v : Option Nat) : List Byte := flagByte v.isSome ++ u16 (v.getD 0)

/-! ### Checks -/

/-- One bit of a CRC of width w whose register is shifted left: the generator is added when a 1 leaves the top. -/
def crcShift {w : Nat} (generator reg : BitVec w) : BitVec w :=
  if reg.msb then (reg <<< 1) ^^^ generator else reg <<< 1

/-- The link's CRC-16 taking one byte: polynomial 0x1021, most significant bit first (R185). -/
def crc16Byte (reg : BitVec 16) (b : Byte) : BitVec 16 :=
  (List.range 8).foldl (fun r _ => crcShift 0x1021 r) (reg ^^^ (b.setWidth 16 <<< 8))

/-- The link's CRC-16 over bytes: preset 0xFFFF, no final inversion (R185). -/
def crc16 (bytes : List Byte) : BitVec 16 := bytes.foldl crc16Byte 0xFFFF

/-- The door line's CRC-8 taking one byte: x⁸+x⁵+x⁴+1, most significant bit first (R67). -/
def crc8Byte (reg : BitVec 8) (b : Byte) : BitVec 8 :=
  (List.range 8).foldl (fun r _ => crcShift 0x31 r) (reg ^^^ b)

/-- The door line's CRC-8 over bytes: preset 0xFF, no final inversion (R67). -/
def crc8 (bytes : List Byte) : BitVec 8 := bytes.foldl crc8Byte 0xFF

end Sys2Proof.Machine
end

