-- ==== Sys2Proof/Machine/Types.lean ====
section
/-! DEFINITION. The names the manual's records use (enumerations) and the records that make up the working configuration.
Dynamic records stand in Machine/Blocks.lean. -/

namespace Sys2Proof.Machine

/-! ### Replies and notices -/

/-- Refusal codes (00_scope.md, 11_message_and_frame_formats.md). -/
inductive Code where
  | length | kind | index | range | state | busy | conflict
  deriving DecidableEq, Repr, Inhabited

/-- The byte a refusal code is sent as. -/
def Code.byte : Code → Byte
  | .length => 1 | .kind => 2 | .index => 3 | .range => 4 | .state => 5 | .busy => 6 | .conflict => 7

/-- What an owner answers to a request: DONE with the field first cut (0 for none) and data, REFUSED with a code and a field
number, or the reply deferred to the end of an operation (R188). -/
inductive Verdict where
  | done (cut : Byte) (data : List Byte)
  | refused (code : Code) (field : Nat)
  | deferred
  deriving DecidableEq, Repr, Inhabited

/-- A reply ready to be sent (R185): the tag and kind of its request, and the body of its frame. -/
structure Reply where
  tag : Byte
  kind : Byte
  body : List Byte
  /-- the reply belongs to the request in hand, which is released when it has been sent whole (R188) -/
  ofHand : Bool
  deriving DecidableEq, Repr, Inhabited

/-- The notice kinds, in the order of the notice mask (R192). -/
inductive NoticeKind where
  | phase | overrideEnd | calendar | clock | sensor | sensorLost | window | air | door | doorOpenLong | station | line
  | budget | startup
  deriving DecidableEq, Repr, Inhabited

/-- Notice kind codes 1..14; kind n stands in bit n − 1 of the notice mask (R201). -/
def NoticeKind.code : NoticeKind → Nat
  | .phase => 1 | .overrideEnd => 2 | .calendar => 3 | .clock => 4 | .sensor => 5 | .sensorLost => 6 | .window => 7
  | .air => 8 | .door => 9 | .doorOpenLong => 10 | .station => 11 | .line => 12 | .budget => 13 | .startup => 14

/-- A notice record (10_link_port_stored_settings_and_start_up.md, "Notices"); the detail is four bytes (R202). -/
structure Notice where
  kind : NoticeKind
  gap : Bool
  clockSet : Bool
  dayCount : Nat
  weekMinute : Nat
  second : Nat
  subject : Nat
  detail : List Byte
  deriving DecidableEq, Repr, Inhabited

/-! ### Clock -/

/-- The clock state (R3). -/
inductive ClockState where
  | unset | running
  deriving DecidableEq, Repr, Inhabited

/-- Clock state codes. -/
def ClockState.code : ClockState → Nat
  | .unset => 0 | .running => 1

/-- Where Tb came from (R6). -/
inductive TbSource where
  | live | held | absent
  deriving DecidableEq, Repr, Inhabited

/-- Tb source codes, by place (R201). DEDUCED (log 19). -/
def TbSource.code : TbSource → Nat
  | .live => 0 | .held => 1 | .absent => 2

/-- What the crystal cycle after a mark does to the tick (R8). -/
inductive Correction where
  | plain | add | withhold
  deriving DecidableEq, Repr, Inhabited

/-! ### Calendar -/

/-- A zone's phase. -/
inductive Phase where
  | idle | warmup | active | winddown
  deriving DecidableEq, Repr, Inhabited

/-- Phase codes. -/
def Phase.code : Phase → Nat
  | .idle => 0 | .warmup => 1 | .active => 2 | .winddown => 3

/-- Where a zone's phase came from. -/
inductive Source where
  | entry (n : Nat) | fallback | override | nothing
  deriving DecidableEq, Repr, Inhabited

/-- Phase source codes (11_message_and_frame_formats.md). -/
def Source.code : Source → Nat
  | .entry n => n | .fallback => 0xFD | .override => 0xFE | .nothing => 0xFF

/-- A phase with its profile and source, calendar or effective. -/
structure Standing where
  phase : Phase
  profile : Option Nat
  source : Source
  deriving DecidableEq, Repr, Inhabited

/-- The calendar header (R17, R18). -/
structure Header where
  idleSetpoint : Nat
  idleLight : Nat
  idleVent : Nat
  presenceLight : Nat
  presenceHold : Nat
  doorLight : Nat
  outdoor : Nat
  curtainThreshold : Int
  runOn : Nat
  /-- the fallback phase is ACTIVE; IDLE otherwise -/
  fallbackActive : Bool
  fallbackProfile : Nat
  deriving DecidableEq, Repr, Inhabited

/-- A shift entry (R19). -/
structure Shift where
  inUse : Bool
  days : BitVec 7
  start : Nat
  length : Nat
  profile : Nat
  zones : BitVec 12
  deriving DecidableEq, Repr, Inhabited

/-- A profile (R20). -/
structure Profile where
  setActive : Nat
  setWarmup : Nat
  setWinddown : Nat
  lightActive : Nat
  lightOther : Nat
  ventActive : Nat
  ventWinddown : Nat
  lead : Nat
  hold : Nat
  doorLimit : Nat
  deriving DecidableEq, Repr, Inhabited

/-- A limit window (R21). -/
structure LimitWindow where
  inUse : Bool
  days : BitVec 7
  start : Nat
  stop : Nat
  limit : Nat
  deriving DecidableEq, Repr, Inhabited

/-- A copy of the calendar (R17). -/
structure CalCopy where
  header : Header
  shifts : Vector Shift 42
  profiles : Vector Profile 8
  windows : Vector LimitWindow 8
  deriving DecidableEq, Repr, Inhabited

/-- The editor; EDITING and PENDING hold the edit copy, NO_EDIT holds none (R17). -/
inductive Editor where
  | noEdit
  | editing (copy : CalCopy)
  | pending (copy : CalCopy)
  deriving DecidableEq, Repr, Inhabited

/-- Editor state codes. -/
def Editor.code : Editor → Nat
  | .noEdit => 0 | .editing _ => 1 | .pending _ => 2

/-- The edit copy, when there is one. -/
def Editor.copy? : Editor → Option CalCopy
  | .noEdit => none | .editing c => some c | .pending c => some c

/-- A phase override's kind: ACTIVE with a profile, or IDLE (R35). -/
inductive OverrideKind where
  | active (profile : Nat) | idle
  deriving DecidableEq, Repr, Inhabited

/-- The phase of an override. -/
def OverrideKind.phase : OverrideKind → Phase
  | .active _ => .active | .idle => .idle

/-- The profile of an override, none for IDLE. -/
def OverrideKind.profile : OverrideKind → Option Nat
  | .active p => some p | .idle => none

/-- A phase override in force. -/
structure PhaseOverride where
  kind : OverrideKind
  minutes : Nat
  deriving DecidableEq, Repr, Inhabited

/-- A light override in force. -/
structure LightOverride where
  level : Nat
  minutes : Nat
  deriving DecidableEq, Repr, Inhabited

/-! ### Measurement -/

/-- Channel kinds (R42). -/
inductive ChanKind where
  | zoneTemp | gas | outdoor | generic | board
  deriving DecidableEq, Repr, Inhabited

/-- Channel kind codes, by place (R201). DEDUCED (log 19). -/
def ChanKind.code : ChanKind → Nat
  | .zoneTemp => 0 | .gas => 1 | .outdoor => 2 | .generic => 3 | .board => 4

/-- The channel kind a byte spells. -/
def ChanKind.ofCode : Nat → Option ChanKind
  | 0 => some .zoneTemp | 1 => some .gas | 2 => some .outdoor | 3 => some .generic | 4 => some .board | _ => none

/-- Input gains. -/
inductive Gain where
  | half | one | two | four
  deriving DecidableEq, Repr, Inhabited

/-- Gain codes, by place (R201). DEDUCED (log 19). -/
def Gain.code : Gain → Nat
  | .half => 0 | .one => 1 | .two => 2 | .four => 3

/-- The gain a byte spells. -/
def Gain.ofCode : Nat → Option Gain
  | 0 => some .half | 1 => some .one | 2 => some .two | 3 => some .four | _ => none

/-- Twice the gain, so that ×0.5 is an integer. -/
def Gain.doubled : Gain → Nat
  | .half => 1 | .one => 2 | .two => 4 | .four => 8

/-- Filter depths. -/
inductive Depth where
  | d1 | d2 | d4 | d8
  deriving DecidableEq, Repr, Inhabited

/-- Filter depth codes, by place (R201). DEDUCED (log 19). -/
def Depth.code : Depth → Nat
  | .d1 => 0 | .d2 => 1 | .d4 => 2 | .d8 => 3

/-- The filter depth a byte spells. -/
def Depth.ofCode : Nat → Option Depth
  | 0 => some .d1 | 1 => some .d2 | 2 => some .d4 | 3 => some .d8 | _ => none

/-- The number of values a filter depth keeps. -/
def Depth.count : Depth → Nat
  | .d1 => 1 | .d2 => 2 | .d4 => 4 | .d8 => 8

/-- A channel's configuration part. -/
structure ChanConfig where
  kind : ChanKind
  enabled : Bool
  gain : Gain
  settle : Nat
  scaleLo : Int
  scaleHi : Int
  depth : Depth
  rail : Bool
  windowOn : Bool
  /-- window sense INSIDE; OUTSIDE otherwise -/
  inside : Bool
  lo : Int
  hi : Int
  lowHyst : Nat
  highHyst : Nat
  group : Nat
  t1 : Int
  t2 : Int
  t3 : Int
  rise : Nat
  fall : Nat
  deriving DecidableEq, Repr, Inhabited

/-- Channel validity (R55). -/
inductive Validity where
  | unseen | valid | suspect | fault
  deriving DecidableEq, Repr, Inhabited

/-- Validity codes. -/
def Validity.code : Validity → Nat
  | .unseen => 0 | .valid => 1 | .suspect => 2 | .fault => 3

/-- State of a window detector (R57, R58). -/
inductive WindowState where
  | clear | low | high | inside
  deriving DecidableEq, Repr, Inhabited

/-- Window state codes, by place (R201). DEDUCED (log 19). -/
def WindowState.code : WindowState → Nat
  | .clear => 0 | .low => 1 | .high => 2 | .inside => 3

/-! ### Door line and stations -/

/-- Line states (R76). -/
inductive LineState where
  | ready | busy | clearing | stuck | dead
  deriving DecidableEq, Repr, Inhabited

/-- Line state codes. -/
def LineState.code : LineState → Nat
  | .ready => 0 | .busy => 1 | .clearing => 2 | .stuck => 3 | .dead => 4

/-- Receive results, in the order of R71. -/
inductive RxResult where
  | symbolError | lengthError | checkError | notAccepted | accepted
  deriving DecidableEq, Repr, Inhabited

/-- Receive result codes, by place (R201). DEDUCED (log 19). -/
def RxResult.code : RxResult → Nat
  | .symbolError => 0 | .lengthError => 1 | .checkError => 2 | .notAccepted => 3 | .accepted => 4

/-- Station states. -/
inductive StationState where
  | disabled | absent | present | silent
  deriving DecidableEq, Repr, Inhabited

/-- Station state codes. -/
def StationState.code : StationState → Nat
  | .disabled => 0 | .absent => 1 | .present => 2 | .silent => 3

/-- Door states (R98). -/
inductive DoorState where
  | unknown | closed | opened
  deriving DecidableEq, Repr, Inhabited

/-- Door state codes. -/
def DoorState.code : DoorState → Nat
  | .unknown => 0 | .closed => 1 | .opened => 2

/-- Door positions as reported in a door byte. -/
inductive Position where
  | closed | moving | opened | fault
  deriving DecidableEq, Repr, Inhabited

/-- Position codes. -/
def Position.code : Position → Nat
  | .closed => 0 | .moving => 1 | .opened => 2 | .fault => 3

/-- Causes of a STATION notice (R110). -/
inductive StationCause where
  | frame | answer | silence | noAnswer | lineClear | disabled | hello | condition
  deriving DecidableEq, Repr, Inhabited

/-- Station cause codes, by place (R201). DEDUCED (log 19). -/
def StationCause.code : StationCause → Nat
  | .frame => 0 | .answer => 1 | .silence => 2 | .noAnswer => 3 | .lineClear => 4 | .disabled => 5 | .hello => 6
  | .condition => 7

/-- The fields a station last reported in a door byte. -/
structure Reported where
  position : Position
  trailer : Bool
  restraint : Bool
  stage : Nat
  light : Bool
  deriving DecidableEq, Repr, Inhabited

/-- Commanded outputs: a curtain stage and a dock light (R144). -/
structure Outputs where
  stage : Nat
  light : Bool
  deriving DecidableEq, Repr, Inhabited

/-- The clock at a door's last opening (R104). -/
structure OpenedAt where
  weekMinute : Nat
  second : Nat
  clockSet : Bool
  deriving DecidableEq, Repr, Inhabited

/-- The two kinds of controller frame. -/
inductive EntryKind where
  | setOutputs | query
  deriving DecidableEq, Repr, Inhabited

/-- An entry of the outbound queue (R85, R86). -/
structure OutEntry where
  address : Nat
  kind : EntryKind
  inFlight : Bool
  /-- the station was disabled while the frame was in flight (R74); a flight that ends with the entry waiting again clears it
  (log 99) -/
  orphan : Bool
  deriving DecidableEq, Repr, Inhabited

/-- A station's configuration: enabled and zone. -/
structure StationConfig where
  enabled : Bool
  zone : Nat
  deriving DecidableEq, Repr, Inhabited

/-! ### Zones -/

/-- A zone's configuration (R113). -/
structure ZoneConfig where
  channel : Nat
  group : Nat
  kd : Nat
  kv : Nat
  kp : Nat
  ki : Nat
  imax : Nat
  hyst : Nat
  fallback : Nat
  floor : Nat
  dim : Option Nat
  deriving DecidableEq, Repr, Inhabited

/-- Heat modes (R119). -/
inductive HeatMode where
  | normal | holding | lost
  deriving DecidableEq, Repr, Inhabited

/-- Heat mode codes, by place (R201). DEDUCED (log 19). -/
def HeatMode.code : HeatMode → Nat
  | .normal => 0 | .holding => 1 | .lost => 2

/-- Light sources (R134). -/
inductive LightSource where
  | override | base | presence | door | floor
  deriving DecidableEq, Repr, Inhabited

/-- Light source codes, by place (R201). DEDUCED (log 19). -/
def LightSource.code : LightSource → Nat
  | .override => 0 | .base => 1 | .presence => 2 | .door => 3 | .floor => 4

/-- A request of a stage and its urgency, as last handed (R131, R157). -/
structure StageRequest where
  on : Bool
  urgency : Nat
  deriving DecidableEq, Repr, Inhabited

/-- A light request: level and urgency (R135). -/
structure LightRequest where
  level : Nat
  urgency : Nat
  deriving DecidableEq, Repr, Inhabited

/-! ### Air quality -/

/-- How a gas level was last set or kept. -/
inductive LevelSource where
  | ladder | held | forced
  deriving DecidableEq, Repr, Inhabited

/-- Level source codes, by place (R201). DEDUCED (log 19). -/
def LevelSource.code : LevelSource → Nat
  | .ladder => 0 | .held => 1 | .forced => 2

/-- Causes of a level change (R151). -/
inductive LevelCause where
  | ladder | forced | config
  deriving DecidableEq, Repr, Inhabited

/-- Level cause codes, by place (R201). DEDUCED (log 19). -/
def LevelCause.code : LevelCause → Nat
  | .ladder => 0 | .forced => 1 | .config => 2

/-! ### Load budget -/

/-- Load kinds (R162). -/
inductive LoadKind where
  | unused | heat | light | fan | curtain | aux
  deriving DecidableEq, Repr, Inhabited

/-- Load kind codes, by place (R201). DEDUCED (log 19). -/
def LoadKind.code : LoadKind → Nat
  | .unused => 0 | .heat => 1 | .light => 2 | .fan => 3 | .curtain => 4 | .aux => 5

/-- The load kind a byte spells. -/
def LoadKind.ofCode : Nat → Option LoadKind
  | 0 => some .unused | 1 => some .heat | 2 => some .light | 3 => some .fan | 4 => some .curtain | 5 => some .aux
  | _ => none

/-- Protections, weakest first where compared (R163: NONE weakest, ALWAYS strongest). -/
inductive Protection where
  | none | always | guarded
  deriving DecidableEq, Repr, Inhabited

/-- Protection codes, by place (R201). DEDUCED (log 19). -/
def Protection.code : Protection → Nat
  | .none => 0 | .always => 1 | .guarded => 2

/-- The protection a byte spells. -/
def Protection.ofCode : Nat → Option Protection
  | 0 => some .none | 1 => some .always | 2 => some .guarded | _ => Option.none

/-- Strength of a protection for check 9 of R163. -/
def Protection.strength : Protection → Nat
  | .none => 0 | .guarded => 1 | .always => 2

/-- What output a load drives. -/
inductive Binding where
  | point (n : Nat) | dim (n : Nat) | door | nothing
  deriving DecidableEq, Repr, Inhabited

/-- Binding form code and number (two bytes, R201); DOOR and NONE have no number and send 0. DESIGN CHOICE (log 85). -/
def Binding.bytes : Binding → List Byte
  | .point n => u8 0 ++ u8 n | .dim n => u8 1 ++ u8 n | .door => u8 2 ++ u8 0 | .nothing => u8 3 ++ u8 0

/-- A load's configuration part. -/
structure LoadConfig where
  kind : LoadKind
  owner : Option Nat
  stage : Nat
  rating : Nat
  rank : Nat
  protection : Protection
  floor : Nat
  minOn : Nat
  minOff : Nat
  binding : Binding
  enabled : Bool
  deriving DecidableEq, Repr, Inhabited

/-- A grant: none, on, or a level for a LIGHT. -/
inductive Grant where
  | none | on | level (l : Nat)
  deriving DecidableEq, Repr, Inhabited

/-- A load holds a grant. -/
def Grant.held : Grant → Bool
  | .none => false | .on => true | .level _ => true

/-- Load states (R176). -/
inductive LoadState where
  | off | starting | on | resting
  deriving DecidableEq, Repr, Inhabited

/-- Load state codes, by place (R201). DEDUCED (log 19). -/
def LoadState.code : LoadState → Nat
  | .off => 0 | .starting => 1 | .on => 2 | .resting => 3

/-- Outcome of the last pass for a load. -/
inductive RefusedFlag where
  | none | refused | forced
  deriving DecidableEq, Repr, Inhabited

/-- Refused flag codes, by place (R201). DEDUCED (log 19). -/
def RefusedFlag.code : RefusedFlag → Nat
  | .none => 0 | .refused => 1 | .forced => 2

/-- A cap in force (R170). -/
structure Cap where
  value : Nat
  left : Nat
  deriving DecidableEq, Repr, Inhabited

/-! ### The output chain -/

/-- What the part does on the output chain: a point shifted out on CHD with CHC, or the latch on CHL (R180). -/
inductive ChainMove where
  | point (on : Bool) | latch
  deriving DecidableEq, Repr, Inhabited

/-- The relay boards on the output chain: the 64 points shifted in so far, the last at stage 0, and the latched relays. -/
structure Boards where
  stages : BitVec 64
  relays : BitVec 64
  deriving DecidableEq, Repr, Inhabited

/-! ### Events handed between blocks -/

/-- A change handed to the load budget, which takes each as an event of its own with its pass (R166, R167, R169, R171). -/
inductive Change where
  | heat (zone stage : Nat) (request : StageRequest)
  | fan (group stage : Nat) (request : StageRequest)
  | light (zone : Nat) (request : LightRequest)
  | curtain (address : Nat) (request : Bool)
  | freezeGuard (zone : Nat) (stands : Bool)
  | lightGuard (zone : Nat) (stands : Bool)
  | alarmGuard (group : Nat) (stands : Bool)
  | window (limit : Option Nat)
  /-- the limit handed at a start, which runs a pass as a change of the value held (R184, R196) -/
  | startWindow (limit : Option Nat)
  deriving DecidableEq, Repr, Inhabited

/-- What one block has handed to another and the other has not yet taken. Each is taken by the command of its name. -/
inductive Due where
  /-- a trigger of R117 for the zone conditioner: taken by ZONE_EVALUATION -/
  | evaluate (zone : Nat)
  /-- an edge into or out of ALARM_LOW (R59): taken by FREEZE_GUARD_EDGE -/
  | freezeEdge (channel : Nat) (alarm : Bool)
  /-- a completed conversion of a GAS channel (R42): taken by GAS_CONVERSION -/
  | gas (channel : Nat) (value : Int) (validity : Validity) (age : Option Nat)
  /-- a trigger of R154 for the air quality unit: taken by GROUP_DEMAND_COMPUTE -/
  | demand (group : Nat)
  /-- a phase hand-off to the door line controller (R34, R108): taken by PHASE_HANDOFF_DOOR_LINE -/
  | doorLimit (zone limit : Nat) (shiftStart : Bool)
  /-- a change for the load budget: taken by ALLOCATION_PASS -/
  | budget (change : Change)
  deriving DecidableEq, Repr, Inhabited

/-! ### Link port -/

/-- The receiver, with what it has taken of the frame arriving (R186). -/
inductive Receiver where
  | hunt
  | length
  /-- the length byte, the body bytes still to come, and the body so far -/
  | body (length : Byte) (left : Nat) (got : List Byte)
  /-- the length byte, the body, and the first CRC byte when it has come -/
  | check (length : Byte) (got : List Byte) (high : Option Byte)
  deriving DecidableEq, Repr, Inhabited

/-- The transmitter: idle, or the one frame on its way out (R190). -/
inductive Transmitter where
  | idle | reply (r : Reply) | notice (n : Notice)
  deriving DecidableEq, Repr, Inhabited

/-- How the part last started. -/
inductive StartCause where
  | powerOn | restart
  deriving DecidableEq, Repr, Inhabited

/-- Start cause codes. -/
def StartCause.code : StartCause → Nat
  | .powerOn => 0 | .restart => 1

/-- Where the working configuration came from at power-on. -/
inductive ConfigSource where
  | saved | defaults
  deriving DecidableEq, Repr, Inhabited

/-- Configuration source codes. -/
def ConfigSource.code : ConfigSource → Nat
  | .saved => 0 | .defaults => 1

/-! ### The working configuration -/

/-- The working configuration as the store holds it (10_link_port_stored_settings_and_start_up.md, "The configuration
store"). Its CRC is not a field: a stored image is either good or none. -/
structure WorkingConfig where
  calendar : CalCopy
  trimA : Int
  trimKq : Nat
  trimT0 : Nat
  zones : Vector ZoneConfig 12
  interval : Nat
  tempHold : Nat
  channels : Vector ChanConfig 21
  scanList : List Nat
  scanPeriod : Nat
  fastInterval : Nat
  credits : Vector Nat 6
  gasHold : Nat
  stations : Vector StationConfig 48
  timeout : Nat
  loads : Vector LoadConfig 128
  base : Nat
  spacing : Nat
  mask : BitVec 14
  deriving DecidableEq, Repr, Inhabited

end Sys2Proof.Machine
end

