-- ==== Sys2Proof/Decode.lean ====
section
/-! DEFINITION. Reading a command from bits. The opcode table gives no row any bits, so `decodeTableWord` spells no command.
What the DX-48 does decode is the body of a link frame (R185, R189, R201): `decodeRequest` reads a request of the catalogue
from a body and `encodeRequest` writes it. -/

namespace Sys2Proof

open Sys2Proof.Machine

/-- The command a word spells by the table's bits: none, since the table gives no row any bits. DESIGN CHOICE (log 61). -/
def decodeTableWord (_nbits _w : Nat) : Option Instr := none

/-! ### Fields of a body -/

/-- What the link port makes of a body (R189 orders 1 and 2, and the owner's enumeration checks that choose a row). -/
inductive Decoded where
  | request (i : Instr)
  | refuse (code : Code) (field : Nat)
  /-- a configuration write with an enumeration value that names no row: BUSY while a save runs, else refused so -/
  | refuseWrite (code : Code) (field : Nat)
  deriving DecidableEq, Repr

/-- Byte k of the fields. -/
def byteAt (f : List Byte) (k : Nat) : Byte := f.getD k 0

/-- The n-byte little-endian figure at byte k of the fields. -/
def wordAt (n : Nat) (f : List Byte) (k : Nat) : BitVec (8 * n) := BitVec.ofNat (8 * n) (ofLe ((f.drop k).take n))

/-- The two-byte figure at byte k of the fields. -/
def halfAt (f : List Byte) (k : Nat) : Half := wordAt 2 f k

/-- A body of exactly n field bytes; any other length is refused (R189 order 2). -/
def sized (n : Nat) (f : List Byte) (d : Decoded) : Decoded := if f.length = n then d else .refuse .length 0

/-- CAL_READ's three fields (R27): the item, the copy of a calendar record, the number. -/
def decodeCalRead (tag item copy number : Byte) : Decoded :=
  match item.toNat with
  | 0 => .request (.calReadHeader tag copy)
  | 1 => .request (.calReadShift tag copy number)
  | 2 => .request (.calReadProfile tag copy number)
  | 3 => .request (.calReadWindow tag copy number)
  | 4 => .request (.calReadState tag)
  | 5 => .request (.calReadZone tag number)
  | _ => .refuse .range 1

/-- ZONE_WRITE by its form (R113, R115). -/
def decodeZoneWrite (tag : Byte) (f : List Byte) : Decoded :=
  match f with
  | [] => .refuse .length 0
  | form :: _ =>
    match form.toNat with
    | 0 => sized 14 f (.request (.zoneWriteOne tag (byteAt f 1)
        { channel := byteAt f 2, group := byteAt f 3, kd := byteAt f 4, kv := byteAt f 5, kp := byteAt f 6
          ki := byteAt f 7, imax := halfAt f 8, hyst := byteAt f 10, fallback := byteAt f 11, floor := byteAt f 12
          dim := byteAt f 13 }))
    | 1 => sized 4 f (.request (.zoneWriteTiming tag (byteAt f 1) (halfAt f 2)))
    | _ => .refuse .range 1

/-- ZONE_OVERRIDE by its action (R35 to R37): zone, action, profile or level, duration. DEDUCED (log 16), DESIGN CHOICE (log 23). -/
def decodeOverride (tag zone action value : Byte) (duration : Half) : Decoded :=
  match action.toNat with
  | 0 => .request (.zoneOverridePhaseActive tag zone value duration)
  | 1 => .request (.zoneOverridePhaseIdle tag zone duration)
  | 2 => .request (.zoneOverrideLight tag zone value duration)
  | 3 => .request (.zoneOverrideCancelPhase tag zone)
  | 4 => .request (.zoneOverrideCancelLight tag zone)
  | _ => if 11 < zone.toNat then .refuse .index 1 else .refuse .range 2

/-- SCAN_WRITE (R49): its own count calls for its length. -/
def decodeScanWrite (tag : Byte) (f : List Byte) : Decoded :=
  match f with
  | [] => .refuse .length 0
  | count :: rest =>
    let n := count.toNat
    if n = 0 ∨ 32 < n ∨ rest.length ≠ n + 2 then .refuse .length 0
    else .request (.scanWrite tag count (rest.take n) (byteAt rest n) (byteAt rest (n + 1)))

/-- GROUP_WRITE by its form (R152). -/
def decodeGroupWrite (tag : Byte) (f : List Byte) : Decoded :=
  match f with
  | [] => .refuse .length 0
  | form :: _ =>
    match form.toNat with
    | 0 => sized 3 f (.request (.groupWriteOne tag (byteAt f 1) (byteAt f 2)))
    | 1 => sized 3 f (.request (.groupWriteHold tag (halfAt f 1)))
    | _ => .refuse .range 1

/-- STATION_WRITE MASK by its action, by place (R91, R201). DEDUCED (log 74). -/
def decodeStationMask (tag : Byte) (mask : BitVec 48) (action : Byte) : Decoded :=
  match action.toNat with
  | 0 => .request (.stationWriteMaskEnable tag mask)
  | 1 => .request (.stationWriteMaskDisable tag mask)
  | _ => .refuseWrite .range 3

/-- STATION_WRITE by its form (R90 to R92). -/
def decodeStationWrite (tag : Byte) (f : List Byte) : Decoded :=
  match f with
  | [] => .refuse .length 0
  | form :: _ =>
    match form.toNat with
    | 0 => sized 4 f (.request (.stationWriteOne tag (byteAt f 1) (byteAt f 2) (byteAt f 3)))
    | 1 => sized 8 f (decodeStationMask tag (wordAt 6 f 1) (byteAt f 7))
    | 2 => sized 3 f (.request (.stationWriteTimeout tag (halfAt f 1)))
    | _ => .refuse .range 1

/-- CHAN_READ by its item (R62). -/
def decodeChanRead (tag item channel : Byte) : Decoded :=
  match item.toNat with
  | 0 => .request (.chanReadChannel tag channel)
  | 1 => .request (.chanReadScan tag)
  | _ => .refuse .range 1

/-- STATION_READ by its item (R111). -/
def decodeStationRead (tag item address : Byte) : Decoded :=
  match item.toNat with
  | 0 => .request (.stationReadOne tag address)
  | 1 => .request (.stationReadSummary tag)
  | _ => .refuse .range 1

/-- LOAD_READ by its item (R183). -/
def decodeLoadRead (tag item load : Byte) : Decoded :=
  match item.toNat with
  | 0 => .request (.loadReadOne tag load)
  | 1 => .request (.loadReadSummary tag)
  | _ => .refuse .range 1

/-- LOAD_ENABLE by its action, clear 0 and set 1 (R165, R201). DEDUCED (log 74). -/
def decodeLoadEnable (tag : Byte) (mask : BitVec 128) (action : Byte) : Decoded :=
  match action.toNat with
  | 0 => .request (.loadEnableClear tag mask)
  | 1 => .request (.loadEnableSet tag mask)
  | _ => .refuseWrite .range 2

/-- LIMIT_CAP by its action, by place (R170, R201). DEDUCED (log 74). -/
def decodeLimitCap (tag action : Byte) (value : Half) (minutes : Byte) : Decoded :=
  match action.toNat with
  | 0 => .request (.limitCapSet tag value minutes)
  | 1 => .request (.limitCapCancel tag)
  | _ => .refuse .range 1

/-- The fields of CHAN_WRITE after the channel number. -/
def channelFields (f : List Byte) : ChannelFields :=
  { kind := byteAt f 1, enabled := byteAt f 2, gain := byteAt f 3, settle := byteAt f 4, scaleLo := halfAt f 5
    scaleHi := halfAt f 7, depth := byteAt f 9, rail := byteAt f 10, windowOn := byteAt f 11, sense := byteAt f 12
    lo := halfAt f 13, hi := halfAt f 15, lowHyst := halfAt f 17, highHyst := halfAt f 19, group := byteAt f 21
    t1 := halfAt f 22, t2 := halfAt f 24, t3 := halfAt f 26, rise := halfAt f 28, fall := halfAt f 30 }

/-- The fields of LOAD_WRITE after the load index. -/
def loadFields (f : List Byte) : LoadFields :=
  { kind := byteAt f 1, owner := byteAt f 2, stage := byteAt f 3, rating := halfAt f 4, rank := byteAt f 6
    protection := byteAt f 7, floor := byteAt f 8, minOn := halfAt f 9, minOff := halfAt f 11, bindForm := byteAt f 13
    bindNumber := byteAt f 14, enable := byteAt f 15 }

/-- A request by its kind code (11, "Kind codes"), its tag and its fields. -/
def decodeFields (kind tag : Byte) (f : List Byte) : Decoded :=
  match kind.toNat with
  | 0x01 => sized 0 f (.request (.askStatus tag))
  | 0x02 => sized 5 f (.request (.setClock tag (halfAt f 0) (byteAt f 2) (halfAt f 3)))
  | 0x03 => sized 0 f (.request (.askClock tag))
  | 0x04 => sized 4 f (.request (.setTrim tag (halfAt f 0) (byteAt f 2) (byteAt f 3)))
  | 0x05 => sized 0 f (.request (.calOpen tag))
  | 0x06 => sized 14 f (.request (.calWriteHeader tag
      { idleSetpoint := halfAt f 0, idleLight := byteAt f 2, idleVent := byteAt f 3, presenceLight := byteAt f 4
        presenceHold := byteAt f 5, doorLight := byteAt f 6, outdoor := byteAt f 7, curtainThreshold := halfAt f 8
        runOn := halfAt f 10, fallbackPhase := byteAt f 12, fallbackProfile := byteAt f 13 }))
  | 0x07 => sized 10 f (.request (.calWriteShift tag (byteAt f 0)
      { inUse := byteAt f 1, days := byteAt f 2, start := halfAt f 3, length := halfAt f 5, profile := byteAt f 7
        zones := halfAt f 8 }))
  | 0x08 => sized 14 f (.request (.calWriteProfile tag (byteAt f 0)
      { setActive := halfAt f 1, setWarmup := halfAt f 3, setWinddown := halfAt f 5, lightActive := byteAt f 7
        lightOther := byteAt f 8, ventActive := byteAt f 9, ventWinddown := byteAt f 10, lead := byteAt f 11
        hold := byteAt f 12, doorLimit := byteAt f 13 }))
  | 0x09 => sized 9 f (.request (.calWriteWindow tag (byteAt f 0)
      { inUse := byteAt f 1, days := byteAt f 2, start := halfAt f 3, stop := halfAt f 5, limit := halfAt f 7 }))
  | 0x0A => sized 0 f (.request (.calClose tag))
  | 0x0B => sized 0 f (.request (.calDrop tag))
  | 0x0C => sized 3 f (decodeCalRead tag (byteAt f 0) (byteAt f 1) (byteAt f 2))
  | 0x0D => decodeZoneWrite tag f
  | 0x0E => sized 1 f (.request (.zoneRead tag (byteAt f 0)))
  | 0x0F => sized 5 f (decodeOverride tag (byteAt f 0) (byteAt f 1) (byteAt f 2) (halfAt f 3))
  | 0x10 => sized 32 f (.request (.chanWrite tag (byteAt f 0) (channelFields f)))
  | 0x11 => sized 2 f (decodeChanRead tag (byteAt f 0) (byteAt f 1))
  | 0x12 => decodeScanWrite tag f
  | 0x13 => sized 1 f (.request (.measure tag (byteAt f 0)))
  | 0x14 => sized 3 f (.request (.flagsClear tag (wordAt 3 f 0)))
  | 0x15 => decodeGroupWrite tag f
  | 0x16 => sized 1 f (.request (.groupRead tag (byteAt f 0)))
  | 0x17 => decodeStationWrite tag f
  | 0x18 => sized 2 f (decodeStationRead tag (byteAt f 0) (byteAt f 1))
  | 0x19 => sized 0 f (.request (.lineReset tag))
  | 0x1A => sized 16 f (.request (.loadWrite tag (byteAt f 0) (loadFields f)))
  | 0x1B => sized 2 f (decodeLoadRead tag (byteAt f 0) (byteAt f 1))
  | 0x1C => sized 17 f (decodeLoadEnable tag (wordAt 16 f 0) (byteAt f 16))
  | 0x1D => sized 4 f (.request (.auxRequest tag (byteAt f 0) (byteAt f 1) (halfAt f 2)))
  | 0x1E => sized 3 f (.request (.limitWrite tag (halfAt f 0) (byteAt f 2)))
  | 0x1F => sized 4 f (decodeLimitCap tag (byteAt f 0) (halfAt f 1) (byteAt f 3))
  | 0x20 => sized 2 f (.request (.noticeMask tag (halfAt f 0)))
  | 0x21 => sized 0 f (.request (.saveConfig tag))
  | 0x22 => sized 0 f (.request (.restart tag))
  | _ => .refuse .kind 0

/-- The kind byte of a body. -/
def bodyKind (body : List Byte) : Byte := byteAt body 0

/-- The tag byte of a body. -/
def bodyTag (body : List Byte) : Byte := byteAt body 1

/-- A request read from a body (R185, R189). -/
def decodeRequest (body : List Byte) : Decoded := decodeFields (bodyKind body) (bodyTag body) (body.drop 2)

/-! ### Writing a body -/

/-- A two-byte field. -/
def halfBytes (h : Half) : List Byte := leBytes 2 h.toNat

/-- CAL_WRITE_HEADER's field bytes. -/
def HeaderFields.bytes (h : HeaderFields) : List Byte :=
  halfBytes h.idleSetpoint ++ [h.idleLight, h.idleVent, h.presenceLight, h.presenceHold, h.doorLight, h.outdoor] ++
    halfBytes h.curtainThreshold ++ halfBytes h.runOn ++ [h.fallbackPhase, h.fallbackProfile]

/-- CAL_WRITE_SHIFT's field bytes after the entry number. -/
def ShiftFields.bytes (e : ShiftFields) : List Byte :=
  [e.inUse, e.days] ++ halfBytes e.start ++ halfBytes e.length ++ [e.profile] ++ halfBytes e.zones

/-- CAL_WRITE_PROFILE's field bytes after the profile number. -/
def ProfileFields.bytes (p : ProfileFields) : List Byte :=
  halfBytes p.setActive ++ halfBytes p.setWarmup ++ halfBytes p.setWinddown ++
    [p.lightActive, p.lightOther, p.ventActive, p.ventWinddown, p.lead, p.hold, p.doorLimit]

/-- CAL_WRITE_WINDOW's field bytes after the window number. -/
def WindowFields.bytes (w : WindowFields) : List Byte :=
  [w.inUse, w.days] ++ halfBytes w.start ++ halfBytes w.stop ++ halfBytes w.limit

/-- ZONE_WRITE ONE's field bytes after the zone number. -/
def ZoneFields.bytes (z : ZoneFields) : List Byte :=
  [z.channel, z.group, z.kd, z.kv, z.kp, z.ki] ++ halfBytes z.imax ++ [z.hyst, z.fallback, z.floor, z.dim]

/-- CHAN_WRITE's field bytes after the channel number. -/
def ChannelFields.bytes (c : ChannelFields) : List Byte :=
  [c.kind, c.enabled, c.gain, c.settle] ++ halfBytes c.scaleLo ++ halfBytes c.scaleHi ++
    [c.depth, c.rail, c.windowOn, c.sense] ++ halfBytes c.lo ++ halfBytes c.hi ++ halfBytes c.lowHyst ++
    halfBytes c.highHyst ++ [c.group] ++ halfBytes c.t1 ++ halfBytes c.t2 ++ halfBytes c.t3 ++ halfBytes c.rise ++
    halfBytes c.fall

/-- LOAD_WRITE's field bytes after the load index. -/
def LoadFields.bytes (l : LoadFields) : List Byte :=
  [l.kind, l.owner, l.stage] ++ halfBytes l.rating ++ [l.rank, l.protection, l.floor] ++ halfBytes l.minOn ++
    halfBytes l.minOff ++ [l.bindForm, l.bindNumber, l.enable]

/-- The body of a request (R185, R201); empty for a row that is no request. A field that a row does not use is sent as 0. -/
def encodeRequest : Instr → List Byte
  | .askStatus t => [0x01, t]
  | .setClock t m s d => 0x02 :: t :: (halfBytes m ++ [s] ++ halfBytes d)
  | .askClock t => [0x03, t]
  | .setTrim t a kq t0 => 0x04 :: t :: (halfBytes a ++ [kq, t0])
  | .calOpen t => [0x05, t]
  | .calWriteHeader t h => 0x06 :: t :: h.bytes
  | .calWriteShift t n e => 0x07 :: t :: n :: e.bytes
  | .calWriteProfile t n p => 0x08 :: t :: n :: p.bytes
  | .calWriteWindow t n w => 0x09 :: t :: n :: w.bytes
  | .calClose t => [0x0A, t]
  | .calDrop t => [0x0B, t]
  | .calReadHeader t c => [0x0C, t, 0, c, 0]
  | .calReadShift t c n => [0x0C, t, 1, c, n]
  | .calReadProfile t c n => [0x0C, t, 2, c, n]
  | .calReadWindow t c n => [0x0C, t, 3, c, n]
  | .calReadState t => [0x0C, t, 4, 0, 0]
  | .calReadZone t z => [0x0C, t, 5, 0, z]
  | .zoneWriteOne t z f => 0x0D :: t :: 0 :: z :: f.bytes
  | .zoneWriteTiming t i h => 0x0D :: t :: 1 :: i :: halfBytes h
  | .zoneRead t z => [0x0E, t, z]
  | .zoneOverridePhaseActive t z p d => 0x0F :: t :: z :: 0 :: p :: halfBytes d
  | .zoneOverridePhaseIdle t z d => 0x0F :: t :: z :: 1 :: 0 :: halfBytes d
  | .zoneOverrideLight t z l d => 0x0F :: t :: z :: 2 :: l :: halfBytes d
  | .zoneOverrideCancelPhase t z => [0x0F, t, z, 3, 0, 0, 0]
  | .zoneOverrideCancelLight t z => [0x0F, t, z, 4, 0, 0, 0]
  | .chanWrite t c f => 0x10 :: t :: c :: f.bytes
  | .chanReadChannel t c => [0x11, t, 0, c]
  | .chanReadScan t => [0x11, t, 1, 0]
  | .scanWrite t n es p f => 0x12 :: t :: n :: (es ++ [p, f])
  | .measure t c => [0x13, t, c]
  | .flagsClear t m => 0x14 :: t :: leBytes 3 m.toNat
  | .groupWriteOne t g c => [0x15, t, 0, g, c]
  | .groupWriteHold t h => 0x15 :: t :: 1 :: halfBytes h
  | .groupRead t g => [0x16, t, g]
  | .stationWriteOne t a e z => [0x17, t, 0, a, e, z]
  | .stationWriteMaskEnable t m => 0x17 :: t :: 1 :: (leBytes 6 m.toNat ++ [0])
  | .stationWriteMaskDisable t m => 0x17 :: t :: 1 :: (leBytes 6 m.toNat ++ [1])
  | .stationWriteTimeout t h => 0x17 :: t :: 2 :: halfBytes h
  | .stationReadOne t a => [0x18, t, 0, a]
  | .stationReadSummary t => [0x18, t, 1, 0]
  | .lineReset t => [0x19, t]
  | .loadWrite t n f => 0x1A :: t :: n :: f.bytes
  | .loadReadOne t n => [0x1B, t, 0, n]
  | .loadReadSummary t => [0x1B, t, 1, 0]
  | .loadEnableSet t m => 0x1C :: t :: (leBytes 16 m.toNat ++ [1])
  | .loadEnableClear t m => 0x1C :: t :: (leBytes 16 m.toNat ++ [0])
  | .auxRequest t n r u => 0x1D :: t :: n :: r :: halfBytes u
  | .limitWrite t b s => 0x1E :: t :: (halfBytes b ++ [s])
  | .limitCapSet t v m => 0x1F :: t :: 0 :: (halfBytes v ++ [m])
  | .limitCapCancel t => [0x1F, t, 1, 0, 0, 0]
  | .noticeMask t m => 0x20 :: t :: halfBytes m
  | .saveConfig t => [0x21, t]
  | .restart t => [0x22, t]
  | .requestUnknownKind k t f => k :: t :: f
  | .powerOn _ _ => []
  | .resetAsserted => []
  | .linkFrameReceived _ _ _ _ => []
  | .linkGapTimeout => []
  | .linkFrameSent => []
  | .saveComplete => []
  | .restartEffect => []
  | .quarterSecondMark => []
  | .correctionCycle => []
  | .minuteBoundary => []
  | .scanTimerExpiry => []
  | .fastScanTimerExpiry => []
  | .conversionComplete _ => []
  | .validAgeSecond => []
  | .gasConversion _ => []
  | .holdCheck => []
  | .groupDemandCompute _ => []
  | .frameStart => []
  | .arbitrationLost => []
  | .doorReport _ _ _ => []
  | .hello _ _ _ _ _ => []
  | .statusReport _ _ _ _ => []
  | .presenceReport _ _ => []
  | .stationFrameRejected _ => []
  | .answerSent => []
  | .queryAnswer _ _ _ => []
  | .setOutputsAnswer _ _ => []
  | .noAnswer => []
  | .lineRest => []
  | .lineClearReceived => []
  | .lineStuck => []
  | .stuckRelease => []
  | .lineDead => []
  | .deadProbe _ _ => []
  | .silenceTimerExpiry _ => []
  | .probeTimerExpiry => []
  | .doorSecondTick => []
  | .phaseHandoffDoorLine _ => []
  | .zoneEvaluation _ => []
  | .evaluationTimerExpiry _ => []
  | .freezeGuardEdge _ _ => []
  | .presenceTimerExpiry _ => []
  | .runOnExpiry _ => []
  | .allocationPass _ => []
  | .spacingTimerExpiry => []
  | .minOnExpiry _ => []
  | .minOffExpiry _ => []
  | .capExpiry => []
  | .outputRefreshLatch => []
  | .periodicRefresh => []
  | .crystalCycle => []
  | .drivingEdge => []
  | .dimPeriodStart _ => []
  | .linkByteReceived _ => []

end Sys2Proof
end

