-- ==== Sys2Proof/Machine/Factory.lean ====
section
/-! DEFINITION. The factory configuration: what a part without a good stored image starts from (R196), each value as the
"Factory value" column of its chapter gives it. -/

namespace Sys2Proof.Machine

/-- The factory calendar header (02, "Header"). -/
def Header.factory : Header where
  idleSetpoint := 80
  idleLight := 10
  idleVent := 0
  presenceLight := 60
  presenceHold := 15
  doorLight := 80
  outdoor := 19
  curtainThreshold := 50
  runOn := 30
  fallbackActive := true
  fallbackProfile := 0

/-- A factory shift entry (02, "Shift entries"). -/
def Shift.factory : Shift where
  inUse := false
  days := 0
  start := 0
  length := 480
  profile := 0
  zones := 0

/-- A factory profile (02, "Profiles"). -/
def Profile.factory : Profile where
  setActive := 160
  setWarmup := 160
  setWinddown := 120
  lightActive := 100
  lightOther := 40
  ventActive := 1
  ventWinddown := 1
  lead := 30
  hold := 15
  doorLimit := 10

/-- A factory limit window (02, "Limit windows"). -/
def LimitWindow.factory : LimitWindow where
  inUse := false
  days := 0
  start := 0
  stop := 1440
  limit := 65535

/-- The factory calendar. -/
def CalCopy.factory : CalCopy where
  header := Header.factory
  shifts := Tab.build 42 fun _ => Shift.factory
  profiles := Tab.build 8 fun _ => Profile.factory
  windows := Tab.build 8 fun _ => LimitWindow.factory

/-- The factory zone record of zone z (06, "The zone record"). -/
def ZoneConfig.factory (z : Nat) : ZoneConfig where
  channel := z
  group := z / 2
  kd := 15
  kv := 8
  kp := 40
  ki := 32
  imax := 8000
  hyst := 80
  fallback := 1
  floor := 0
  dim := some z

/-- A factory channel with window off, gain ×1, settle 4 and no ladder (03, "After each reset"). -/
def ChanConfig.plain (kind : ChanKind) (lo hi : Int) (depth : Depth) (rail : Bool) : ChanConfig where
  kind := kind
  enabled := true
  gain := .one
  settle := 4
  scaleLo := lo
  scaleHi := hi
  depth := depth
  rail := rail
  windowOn := false
  inside := false
  lo := -32768
  hi := 32767
  lowHyst := 0
  highHyst := 0
  group := 0
  t1 := 0
  t2 := 1
  t3 := 2
  rise := 0
  fall := 0

/-- The factory channel c (03, "After each reset"). -/
def ChanConfig.factory (c : Nat) : ChanConfig :=
  if c < 12 then
    { ChanConfig.plain .zoneTemp (-400) 600 .d4 true with windowOn := true, lo := 50, hi := 32767, lowHyst := 20 }
  else if c < 18 then
    { ChanConfig.plain .gas 0 500 .d2 true with
      settle := 8, group := c - 12, t1 := 25, t2 := 50, t3 := 100, rise := 2, fall := 5 }
  else if c = 18 then ChanConfig.plain .generic 0 4095 .d1 false
  else if c = 19 then ChanConfig.plain .outdoor (-400) 600 .d8 true
  else ChanConfig.plain .board (-500) 1500 .d4 true

/-- The factory station i, of address i + 1 (05, "The station record"). -/
def StationConfig.factory (i : Nat) : StationConfig := { enabled := false, zone := i / 4 }

/-- A factory load (09, "The load record"). -/
def LoadConfig.factory : LoadConfig where
  kind := .unused
  owner := none
  stage := 1
  rating := 1
  rank := 7
  protection := .none
  floor := 0
  minOn := 60
  minOff := 60
  binding := .nothing
  enabled := true

/-- The factory configuration as a whole. -/
def WorkingConfig.factory : WorkingConfig where
  calendar := CalCopy.factory
  trimA := 0
  trimKq := 0
  trimT0 := 25
  zones := Tab.build 12 ZoneConfig.factory
  interval := 10
  tempHold := 300
  channels := Tab.build 21 ChanConfig.factory
  scanList := List.range 21
  scanPeriod := 2
  fastInterval := 1
  credits := Tab.build 6 fun _ => 2
  gasHold := 120
  stations := Tab.build 48 StationConfig.factory
  timeout := 60
  loads := Tab.build 128 fun _ => LoadConfig.factory
  base := 2000
  spacing := 2
  mask := BitVec.allOnes 14

end Sys2Proof.Machine
end

