-- ==== Sys2Proof/Machine/Schedule.lean ====
section
/-! DEFINITION. What a calendar copy says of a minute of the week: phase windows and phase resolution (R29 to R31), the
values a phase denotes (R33), the limit window (R39), and the validation of a copy (R23). Pure functions of a copy. -/

namespace Sys2Proof.Machine

/-- A window of width w that starts at minute a covers week minute m (R29). -/
def covers (a : Int) (w m : Nat) : Bool := decide ((((m : Int) - a) % (Config.minutesPerWeek : Int)).toNat < w)

/-- Some day of a day mask meets p; Monday is bit 0. -/
def anyDay (days : BitVec 7) (p : Nat → Bool) : Bool := (List.range 7).any fun d => days.getLsbD d && p d

/-- The profile a copy holds under number p. -/
def CalCopy.profile (c : CalCopy) (p : Nat) : Profile := Tab.get c.profiles p

/-- The shift entry a copy holds under number n. -/
def CalCopy.shift (c : CalCopy) (n : Nat) : Shift := Tab.get c.shifts n

/-- The limit window a copy holds under number w. -/
def CalCopy.window (c : CalCopy) (w : Nat) : LimitWindow := Tab.get c.windows w

/-- Start and width of the window of a phase that an entry with profile p gives on a day (R29); IDLE has none. -/
def phaseWindow (e : Shift) (p : Profile) (d : Nat) : Phase → Int × Nat
  | .active => ((d * Config.minutesPerDay + e.start : Nat), e.length)
  | .warmup => (((d * Config.minutesPerDay + e.start : Nat) : Int) - p.lead, p.lead)
  | .winddown => ((d * Config.minutesPerDay + e.start + e.length : Nat), p.hold)
  | .idle => (0, 0)

/-- Entry n of a copy is in use, includes zone z, and its window of the phase covers week minute m (R29, R30). -/
def CalCopy.entryCovers (c : CalCopy) (z m : Nat) (ph : Phase) (n : Nat) : Bool :=
  let e := c.shift n
  e.inUse && e.zones.getLsbD z &&
    anyDay e.days fun d =>
      let w := phaseWindow e (c.profile e.profile) d ph
      covers w.1 w.2 m

/-- The lowest-numbered entry whose window of a phase covers m for zone z (R30). -/
def CalCopy.firstEntry (c : CalCopy) (z m : Nat) (ph : Phase) : Option Nat :=
  (List.range 42).find? (c.entryCovers z m ph)

/-- A calendar phase given by an entry. -/
def CalCopy.byEntry (c : CalCopy) (ph : Phase) (n : Nat) : Standing :=
  { phase := ph, profile := some (c.shift n).profile, source := .entry n }

/-- The calendar phase of zone z at week minute m while the clock is RUNNING (R30). -/
def CalCopy.byCalendar (c : CalCopy) (z m : Nat) : Standing :=
  match c.firstEntry z m .active with
  | some n => c.byEntry .active n
  | none =>
    match c.firstEntry z m .warmup with
    | some n => c.byEntry .warmup n
    | none =>
      match c.firstEntry z m .winddown with
      | some n => c.byEntry .winddown n
      | none => { phase := .idle, profile := none, source := .nothing }

/-- The calendar phase of every zone while the clock is UNSET (R31). -/
def CalCopy.byFallback (c : CalCopy) : Standing :=
  if c.header.fallbackActive then { phase := .active, profile := some c.header.fallbackProfile, source := .fallback }
  else { phase := .idle, profile := none, source := .fallback }

/-- Phase resolution of zone z (R32). -/
def CalCopy.resolve (c : CalCopy) (clock : ClockState) (z m : Nat) : Standing :=
  match clock with
  | .running => c.byCalendar z m
  | .unset => c.byFallback

/-- The effective phase: the override's while one is in force, the calendar's otherwise. -/
def effectiveOf (cal : Standing) (ov : Option PhaseOverride) : Standing :=
  match ov with
  | some o => { phase := o.kind.phase, profile := o.kind.profile, source := .override }
  | none => cal

/-! ### The values a phase denotes (R33) -/

/-- The profile of a standing other than IDLE. -/
def CalCopy.profileOf (c : CalCopy) (st : Standing) : Profile := c.profile (st.profile.getD 0)

/-- Setpoint. -/
def CalCopy.setpoint (c : CalCopy) (st : Standing) : Nat :=
  match st.phase with
  | .idle => c.header.idleSetpoint
  | .warmup => (c.profileOf st).setWarmup
  | .active => (c.profileOf st).setActive
  | .winddown => (c.profileOf st).setWinddown

/-- Base light level. -/
def CalCopy.baseLight (c : CalCopy) (st : Standing) : Nat :=
  match st.phase with
  | .idle => c.header.idleLight
  | .warmup => (c.profileOf st).lightOther
  | .active => (c.profileOf st).lightActive
  | .winddown => (c.profileOf st).lightOther

/-- Ventilation minimum. -/
def CalCopy.ventMin (c : CalCopy) (st : Standing) : Nat :=
  match st.phase with
  | .idle => c.header.idleVent
  | .warmup => (c.profileOf st).ventActive
  | .active => (c.profileOf st).ventActive
  | .winddown => (c.profileOf st).ventWinddown

/-- Door-open limit, minutes. -/
def CalCopy.doorLimit (c : CalCopy) (st : Standing) : Nat :=
  match st.phase with
  | .idle => 0
  | .warmup => (c.profileOf st).doorLimit
  | .active => (c.profileOf st).doorLimit
  | .winddown => (c.profileOf st).doorLimit

/-! ### The limit window (R39) -/

/-- An in-use limit window covers week minute m. -/
def LimitWindow.coversMinute (w : LimitWindow) (m : Nat) : Bool :=
  w.inUse && anyDay w.days fun d =>
    decide (d * Config.minutesPerDay + w.start ≤ m) && decide (m < d * Config.minutesPerDay + w.stop)

/-- Of two windows, the one that gives the active limit: the lower limit, or the one already held on equal limits. -/
def lowerWindow (held : Option (Nat × Nat)) (next : Nat × Nat) : Option (Nat × Nat) :=
  match held with
  | none => some next
  | some h => if next.1 < h.1 then some next else some h

/-- The active window limit and the number of the window that gives it (R39). -/
def CalCopy.activeWindow (c : CalCopy) (clock : ClockState) (m : Nat) : Option (Nat × Nat) :=
  match clock with
  | .unset => none
  | .running =>
    ((List.range 8).filter fun n => (c.window n).coversMinute m).foldl
      (fun held n => lowerWindow held ((c.window n).limit, n)) none

/-! ### Validation (R23) -/

/-- The item numbers of a copy that fail, in check order. -/
def CalCopy.failures (c : CalCopy) : List Nat :=
  ((List.range 42).filter fun n => (c.shift n).inUse && ((c.shift n).days == 0 || (c.shift n).zones == 0)) ++
  (((List.range 8).filter fun p =>
      decide (350 < (c.profile p).setWarmup) || decide (350 < (c.profile p).setActive)).map (42 + ·)) ++
  (((List.range 8).filter fun w => decide ((c.window w).stop ≤ (c.window w).start)).map (50 + ·))

/-- The item number of the first record that fails, none for a valid copy. -/
def CalCopy.firstFailure (c : CalCopy) : Option Nat := c.failures.head?

end Sys2Proof.Machine
end

