-- ==== Sys2Proof/Machine/Blocks.lean ====
section
/-! DEFINITION. The records the eight blocks hold, and the values each takes at a start (the reset tables R16, R41, R63, R89,
R112, R133, R146, R161, R184, R200). A start is power-on or RESTART; where the two differ the value that differs is an
argument. -/

namespace Sys2Proof.Machine

/-! ### Shift clock -/

/-- The clock record (01, "Time base and counters"), and the correction the cycle after the last mark carries (R8). -/
structure Clock where
  state : ClockState
  weekMinute : Nat
  second : Nat
  tick : Nat
  dayCount : Nat
  trimA : Int
  trimKq : Nat
  trimT0 : Nat
  trimChanged : Bool
  cv : Int
  tb : Int
  tbSource : TbSource
  cvClamped : Bool
  boardMemory : Option Int
  mark : Nat
  correction : Correction
  deriving DecidableEq, Repr, Inhabited

/-- The correction for mark k of a period with compensation value cv (R8). -/
def correctionFor (k : Nat) (cv : Int) : Correction :=
  if k < cv.natAbs then (if 0 < cv then .add else .withhold) else .plain

/-- The compensation value before its clamp (R7): d is Tb − 10·T0, 0 without a Tb. -/
def compensation (a : Int) (kq t0 : Nat) (tb : Int) (source : TbSource) : Int :=
  let d : Int := if source = .absent then 0 else tb - 10 * t0
  a + (kq * (d * d)) / 6400

/-- Cv: the compensation value clamped to −1023..+1023 (R7). -/
def clampCv (v : Int) : Int := clampZ (-1023) 1023 v

/-- The clock at power-on with its first compensation period started: channel 20 UNSEEN, board memory empty (R16). -/
def Clock.atPowerOn (cfg : WorkingConfig) : Clock :=
  let raw := compensation cfg.trimA cfg.trimKq cfg.trimT0 0 .absent
  { state := .unset, weekMinute := 0, second := 0, tick := 0, dayCount := 0
    trimA := cfg.trimA, trimKq := cfg.trimKq, trimT0 := cfg.trimT0, trimChanged := false
    cv := clampCv raw, tb := 0, tbSource := .absent, cvClamped := decide (clampCv raw ≠ raw), boardMemory := none
    mark := 0, correction := correctionFor 0 (clampCv raw) }

/-! ### Calendar unit -/

/-- A zone's record in the calendar unit. The effective standing is also the one last handed to the consumers: the unit
hands it in the event that sets it (R34). -/
structure CalZone where
  calendar : Standing
  phaseOverride : Option PhaseOverride
  lightOverride : Option LightOverride
  effective : Standing
  deriving DecidableEq, Repr, Inhabited

/-- The calendar unit: running copy, editor with its edit copy, zone records, the active window limit with the window that
gives it, and the limit last handed to the load budget (R17, R40). -/
structure Calendar where
  running : CalCopy
  editor : Editor
  zones : Vector CalZone 12
  activeWindow : Option (Nat × Nat)
  handedLimit : Option Nat
  deriving DecidableEq, Repr, Inhabited

/-- The calendar unit at a start, every zone resolved with the clock as it stands (R41). -/
def Calendar.atStart (running : CalCopy) (clock : Clock) : Calendar :=
  let window := running.activeWindow clock.state clock.weekMinute
  { running := running, editor := .noEdit
    zones := Tab.build 12 fun z =>
      let st := running.resolve clock.state z clock.weekMinute
      { calendar := st, phaseOverride := none, lightOverride := none, effective := st }
    activeWindow := window, handedLimit := window.map (·.1) }

/-! ### Measurement unit -/

/-- A channel record. -/
structure Channel where
  cfg : ChanConfig
  lastRaw : Nat
  history : List Int
  clearPending : Bool
  value : Int
  known : Bool
  validity : Validity
  badRun : Nat
  goodRun : Nat
  age : Option Nat
  window : WindowState
  entered : Bool
  left : Bool
  deriving DecidableEq, Repr, Inhabited

/-- A channel's dynamic part after a reset (R63). -/
def Channel.atStart (cfg : ChanConfig) : Channel :=
  { cfg := cfg, lastRaw := 0, history := [], clearPending := false, value := 0, known := false, validity := .unseen
    badRun := 0, goodRun := 0, age := none, window := .clear, entered := false, left := false }

/-- The conversion in flight: its channel, whether it came from the priority list, the configuration it started with (R44),
whether a MEASURE is attached, and whether its result is to be discarded (R45). DEDUCED (log 28, 29). -/
structure Conversion where
  channel : Nat
  priority : Bool
  cfg : ChanConfig
  measure : Bool
  discard : Bool
  deriving DecidableEq, Repr, Inhabited

/-- An entry of the priority list (R50). -/
structure PriorityEntry where
  channel : Nat
  measure : Bool
  deriving DecidableEq, Repr, Inhabited

/-- The round state (R47). -/
inductive Round where
  | between | inRound (position : Nat)
  deriving DecidableEq, Repr, Inhabited

/-- The measurement unit. -/
structure Measurement where
  channels : Vector Channel 21
  active : List Nat
  staged : Option (List Nat)
  period : Nat
  fast : Nat
  round : Round
  converter : Option Conversion
  priority : List PriorityEntry
  /-- the channel of the outstanding MEASURE (R52) -/
  outstanding : Option Nat
  scanTimer : Nat
  fastTimer : Nat
  deriving DecidableEq, Repr, Inhabited

/-- A channel record of the unit. -/
def Measurement.channel (m : Measurement) (c : Nat) : Channel := Tab.get m.channels c

/-- The unit with one channel record changed. -/
def Measurement.setChannel (m : Measurement) (c : Nat) (ch : Channel) : Measurement :=
  { m with channels := Tab.put m.channels c ch }

/-- A conversion starts on a channel (R46): a pending clear empties its history. -/
def Measurement.startConversion (m : Measurement) (c : Nat) (priority measure : Bool) : Measurement :=
  let ch := m.channel c
  let ch' := if ch.clearPending then { ch with history := [], clearPending := false } else ch
  { m.setChannel c ch' with
    converter := some { channel := c, priority := priority, cfg := ch.cfg, measure := measure, discard := false } }

/-- The first enabled entry of a list at or after a position, with the position past it (R48). -/
def Measurement.nextEntry (m : Measurement) : List Nat → Nat → Option (Nat × Nat)
  | [], _ => none
  | c :: rest, k => if (m.channel c).cfg.enabled then some (c, k + 1) else m.nextEntry rest (k + 1)

/-- The next conversion is chosen from the priority list, then from the round; else the converter goes idle (R48). -/
def Measurement.chooseNext (m : Measurement) : Measurement :=
  match m.priority with
  | e :: rest => { m with priority := rest }.startConversion e.channel true e.measure
  | [] =>
    match m.round with
    | .between => { m with converter := none }
    | .inRound k =>
      match m.nextEntry (m.active.drop k) k with
      | some (c, k') => { m with round := .inRound k' }.startConversion c false false
      | none => { m with round := .between, converter := none }

/-- A round starts: a staged list becomes active first, and an idle converter takes its first conversion (R47). -/
def Measurement.startRound (m : Measurement) : Measurement :=
  let m' : Measurement := { m with active := m.staged.getD m.active, staged := none, round := .inRound 0 }
  if m.converter.isNone then m'.chooseNext else m'

/-- The measurement unit at a start: every channel UNSEEN, the timers started and a round started at once (R47, R63). -/
def Measurement.atStart (cfg : WorkingConfig) : Measurement :=
  Measurement.startRound
    { channels := Tab.each cfg.channels Channel.atStart, active := cfg.scanList, staged := none
      period := cfg.scanPeriod, fast := cfg.fastInterval, round := .between, converter := none, priority := []
      outstanding := none, scanTimer := cfg.scanPeriod, fastTimer := cfg.fastInterval }

/-! ### Door line controller -/

/-- A station record with its door record (05, "The station record"). -/
structure Station where
  cfg : StationConfig
  state : StationState
  lastResult : Option RxResult
  noAnswers : Nat
  stationType : Option Byte
  revision : Option Byte
  reported : Option Reported
  condition : Option Byte
  door : DoorState
  docked : Bool
  openedAt : Option OpenedAt
  watch : Option Nat
  limitSent : Bool
  opens : Nat
  openSeconds : Nat
  motion : Nat
  demand : Nat
  commanded : Outputs
  lastFormed : Outputs
  pending : Bool
  silence : Option Nat
  deriving DecidableEq, Repr, Inhabited

/-- Outputs all off. -/
def Outputs.off : Outputs := { stage := 0, light := false }

/-- A station record at a start (R112). -/
def Station.atStart (cfg : StationConfig) : Station :=
  { cfg := cfg, state := if cfg.enabled then .absent else .disabled, lastResult := none, noAnswers := 0
    stationType := none, revision := none, reported := none, condition := none, door := .unknown, docked := false
    openedAt := none, watch := none, limitSent := false, opens := 0, openSeconds := 0, motion := 0, demand := 0
    commanded := Outputs.off, lastFormed := Outputs.off, pending := false, silence := none }

/-- An answer on its way out to a station frame: whose, and its outputs byte with its check (R73). -/
structure Answer where
  address : Nat
  bytes : List Byte
  deriving DecidableEq, Repr, Inhabited

/-- The door line controller. Station of address a stands at place a − 1. -/
structure DoorLine where
  stations : Vector Station 48
  timeout : Nat
  line : LineState
  queue : List OutEntry
  /-- the bytes of the controller's frame in flight, header to check (R66, R68) -/
  sending : Option (List Byte)
  answering : Option Answer
  /-- line frame error count (R72) -/
  errors : Nat
  /-- door-open limit last handed for each zone, minutes (05, "The door-open limit") -/
  limits : Vector Nat 12
  probeTimer : Nat
  deadProbe : Option Nat
  deriving DecidableEq, Repr, Inhabited

/-- The door line controller at a start, a line clear being sent (R89, R112); the zones' door-open limits as handed. -/
def DoorLine.atStart (stations : Vector StationConfig 48) (timeout : Nat) (cal : Calendar) : DoorLine :=
  { stations := Tab.each stations Station.atStart, timeout := timeout, line := .clearing, queue := [], sending := none
    answering := none, errors := 0
    limits := Tab.each cal.zones fun z => cal.running.doorLimit z.effective
    probeTimer := Config.probePeriod, deadProbe := none }

/-! ### Zone conditioner -/

/-- A zone record: configuration, heat state (06) and light state (07). -/
structure Zone where
  cfg : ZoneConfig
  mode : HeatMode
  evaluated : Bool
  tz : Option Int
  sp : Nat
  quarters : Nat
  doorTerm : Nat
  ventTerm : Nat
  e : Int
  p : Int
  iterm : Nat
  i : Nat
  d : Nat
  s : Nat
  g : Nat
  gFan : Nat
  guard : Bool
  handed : Vector StageRequest 3
  timer : Nat
  lr : Nat
  lightSource : LightSource
  presence : Option Nat
  lightGuard : Bool
  handedLight : LightRequest
  direct : Nat
  deriving DecidableEq, Repr, Inhabited

/-- A zone record at a start (R133, R146); its light guard from the phase handed at the start. -/
def Zone.atStart (cfg : ZoneConfig) (phase : Phase) : Zone :=
  { cfg := cfg, mode := .lost, evaluated := false, tz := none, sp := 0, quarters := 0, doorTerm := 0, ventTerm := 0
    e := 0, p := 0, iterm := 0, i := 0, d := 0, s := 0, g := 0, gFan := 0, guard := false
    handed := Tab.build 3 fun _ => { on := false, urgency := 0 }
    timer := Config.firstEvaluation, lr := 0, lightSource := .base, presence := none
    lightGuard := decide (phase ≠ .idle), handedLight := { level := 0, urgency := 0 }, direct := 0 }

/-- The zone conditioner; run-on timers and handed curtain heat requests by station place. -/
structure Conditioner where
  zones : Vector Zone 12
  interval : Nat
  hold : Nat
  runOns : Vector (Option Nat) 48
  curtainHanded : Vector Bool 48
  deriving DecidableEq, Repr, Inhabited

/-- The zone conditioner at a start. -/
def Conditioner.atStart (zones : Vector ZoneConfig 12) (interval hold : Nat) (cal : Calendar) : Conditioner :=
  { zones := Tab.build 12 fun z => Zone.atStart (Tab.get zones z) (Tab.get cal.zones z).effective.phase
    interval := interval, hold := hold
    runOns := Tab.build 48 fun _ => none
    curtainHanded := Tab.build 48 fun _ => false }

/-! ### Load budget -/

/-- A load record. -/
structure Load where
  cfg : LoadConfig
  request : Nat
  urgency : Nat
  grant : Grant
  state : LoadState
  minOn : Option Nat
  minOff : Option Nat
  refused : RefusedFlag
  deriving DecidableEq, Repr, Inhabited

/-- A load at a start: OFF, nothing requested, nothing granted (R184). -/
def Load.atStart (cfg : LoadConfig) : Load :=
  { cfg := cfg, request := 0, urgency := 0, grant := .none, state := .off, minOn := none, minOff := none
    refused := .none }

/-- The load budget: table, limit inputs, guards as handed, start queue, outputs. EL, the floor, the granted sum, the
output chain image and the dim duties are functions of these (Machine/Ops.lean). -/
structure Budget where
  loads : Vector Load 128
  base : Nat
  spacing : Nat
  window : Option Nat
  cap : Option Cap
  freeze : Vector Bool 12
  light : Vector Bool 12
  alarm : Vector Bool 6
  queue : List Nat
  spacingTimer : Option Nat
  /-- the refused set after the previous pass (R179) -/
  baseline : Vector RefusedFlag 128
  /-- the image a running refresh shifts out (R180) -/
  shifting : Option (BitVec 64)
  marked : Bool
  /-- the relay boards' latched states -/
  relays : BitVec 64
  /-- the duty each dim output carries in its present 1 kHz period (R181) -/
  dimPins : Vector Nat 12
  deriving DecidableEq, Repr, Inhabited

/-- The load budget at a start: every load OFF and a refresh started that drives every point off (R184), one still shifting being
broken off without its latch. DESIGN CHOICE (log 92). The relays hold their last latched states until the latch (R180). -/
def Budget.atStart (loads : Vector LoadConfig 128) (base spacing : Nat) (relays : BitVec 64) (dimPins : Vector Nat 12) :
    Budget :=
  { loads := Tab.each loads Load.atStart, base := base, spacing := spacing, window := none, cap := none
    freeze := Tab.build 12 fun _ => false, light := Tab.build 12 fun _ => false, alarm := Tab.build 6 fun _ => false
    queue := [], spacingTimer := none, baseline := Tab.build 128 fun _ => .none
    shifting := some 0, marked := false, relays := relays, dimPins := dimPins }

/-- Loads of a kind and owner in a table of configurations, whatever their request enables (R162). -/
def countLoads (loads : List LoadConfig) (kind : LoadKind) (owner : Nat) : Nat :=
  (loads.filter fun l => decide (l.kind = kind) && decide (l.owner = some owner)).length

/-! ### Air quality unit -/

/-- A gas record. -/
structure Gas where
  member : Bool
  group : Nat
  level : Nat
  source : LevelSource
  watch : Nat
  deriving DecidableEq, Repr, Inhabited

/-- A fan group record; M is counted over the load table (R153). -/
structure Group where
  credit : Nat
  base : Nat
  applied : Bool
  demand : Nat
  guard : Bool
  handed : Vector StageRequest 3
  deriving DecidableEq, Repr, Inhabited

/-- The air quality unit. -/
structure AirQuality where
  gas : Vector Gas 20
  groups : Vector Group 6
  hold : Nat
  deriving DecidableEq, Repr, Inhabited

/-- The stage requests of a demand: stage k requested when k is at or below it, urgency 333 × demand (R157). -/
def fanRequest (demand k : Nat) : StageRequest := { on := decide (k ≤ demand), urgency := 333 * demand }

/-- The zones of a fan group, ascending. -/
def zonesOfGroup (zones : Vector ZoneConfig 12) (g : Nat) : List Nat := Tab.where zones fun _ z => decide (z.group = g)

/-- The largest of a list of figures, 0 for none. -/
def highest (l : List Nat) : Nat := l.foldl max 0

/-- A fan group at a start: every level 0 and every door UNKNOWN, so the demand is the highest ventilation minimum of its
zones, cut to M, without credit (R161). -/
def Group.atStart (credit : Nat) (base m : Nat) : Group :=
  { credit := credit, base := base, applied := false, demand := min base m, guard := false
    handed := Tab.build 3 fun k =>
      if k + 1 ≤ m then fanRequest (min base m) (k + 1) else { on := false, urgency := 0 } }

/-- A gas record at a start: membership from the channel configuration, level 0 (R161), and group 0 for a channel that is no
member. DESIGN CHOICE (log 72). -/
def Gas.atStart (c : ChanConfig) : Gas :=
  let joins := c.enabled && decide (c.kind = .gas)
  { member := joins, group := if joins then c.group else 0, level := 0, source := .ladder, watch := 0 }

/-- The highest ventilation minimum of a group's zones as the calendar unit has handed them. -/
def startBase (zones : Vector ZoneConfig 12) (cal : Calendar) (g : Nat) : Nat :=
  highest ((zonesOfGroup zones g).map fun z => cal.running.ventMin (Tab.get cal.zones z).effective)

/-- The air quality unit at a start. -/
def AirQuality.atStart (channels : Vector ChanConfig 21) (credits : Vector Nat 6) (hold : Nat)
    (zones : Vector ZoneConfig 12) (loads : Vector LoadConfig 128) (cal : Calendar) : AirQuality :=
  { gas := Tab.build 20 fun c => Gas.atStart (Tab.get channels c)
    groups := Tab.build 6 fun g =>
      Group.atStart (Tab.get credits g) (startBase zones cal g) (countLoads (Tab.list loads) .fan g)
    hold := hold }

/-- The starting hand-offs the load budget has still to take (R161, R184, R196): the window limit when it is not none, the
light guards that stand, and the fan requests that are not 0 with urgency 0, each in ascending order.
DESIGN CHOICE (log 57). -/
def startingDue (cal : Calendar) (zc : Conditioner) (air : AirQuality) : List Due :=
  (match cal.handedLimit with
    | none => []
    | some v => [Due.budget (.startWindow (some v))]) ++
  ((Tab.where zc.zones fun _ z => z.lightGuard).map fun z => Due.budget (.lightGuard z true)) ++
  ((List.range 6).flatMap fun g =>
    ((List.range 3).filter fun k =>
        Tab.get (Tab.get air.groups g).handed k ≠ { on := false, urgency := 0 }).map fun k =>
      Due.budget (.fan g (k + 1) (Tab.get (Tab.get air.groups g).handed k)))

/-! ### Link port -/

/-- The link port. Requests wait as the bodies received; the store holds a good image or none. DESIGN CHOICE (log 10). -/
structure Link where
  receiver : Receiver
  holding : List (List Byte)
  /-- tag and kind of the request taken and not yet answered (R188) -/
  inHand : Option (Byte × Byte)
  replies : List Reply
  /-- replies that became ready while the list was full, in order (R190) -/
  waiting : List Reply
  deferredMeasure : Option Byte
  deferredSave : Option Byte
  transmitter : Transmitter
  errors : Nat
  mask : BitVec 14
  notices : List Notice
  /-- the snapshot being written: SAVING; none: IDLE (R195) -/
  saving : Option WorkingConfig
  unsaved : Bool
  startCause : StartCause
  source : ConfigSource
  /-- the straps as read at power-on -/
  speed : BitVec 2
  /-- the image in the store; none when its CRC does not match -/
  store : Option WorkingConfig
  /-- the store condition of the last power-on: GOOD -/
  storeGood : Bool
  deriving DecidableEq, Repr, Inhabited

/-- The STARTUP notice of a start (R196, R199), stamped from the clock (R15). -/
def startupNotice (clock : Clock) (cause : StartCause) (source : ConfigSource) (speed : BitVec 2) (storeGood : Bool) :
    Notice :=
  let set := decide (clock.state = .running)
  { kind := .startup, gap := false, clockSet := set
    dayCount := if set then clock.dayCount else 0
    weekMinute := if set then clock.weekMinute else 0
    second := if set then clock.second else 0
    subject := 0
    detail := u8 cause.code ++ u8 source.code ++ u8 speed.toNat ++ u8 (if storeGood then 0 else 1) }

/-- The transmitter, when idle, picks the head of the reply list, else the oldest notice (R190). A reply waiting outside
the list joins it as a place frees. The reply picked leaves the list, and frees its place, as it begins to be sent. DESIGN
CHOICE (log 100), since R190 says that it is sent and "then leaves the list", and the worked example of a burst of requests
keeps it on the list while it is being sent. -/
def Link.kick (l : Link) : Link :=
  match l.transmitter with
  | .idle =>
    match l.replies with
    | r :: rest => { l with transmitter := .reply r, replies := rest ++ l.waiting.take 1, waiting := l.waiting.drop 1 }
    | [] =>
      match l.notices with
      | n :: rest => { l with transmitter := .notice n, notices := rest }
      | [] => l
  | _ => l

/-- The link port right after a start, its STARTUP notice created when the mask admits it and picked to send (R200). -/
def Link.atStart (clock : Clock) (cause : StartCause) (mask : BitVec 14) (unsaved : Bool) (source : ConfigSource)
    (speed : BitVec 2) (store : Option WorkingConfig) (storeGood : Bool) : Link :=
  { receiver := .hunt, holding := [], inHand := none, replies := [], waiting := [], deferredMeasure := none
    deferredSave := none, transmitter := .idle, errors := 0, mask := mask
    notices := if mask.getLsbD 13 then [startupNotice clock cause source speed storeGood] else []
    saving := none, unsaved := unsaved, startCause := cause, source := source, speed := speed, store := store
    storeGood := storeGood }

end Sys2Proof.Machine
end

