-- ==== Sys2Proof/Machine/Part.lean ====
section
/-! DEFINITION. The part: the eight blocks' records, what they have handed to one another and not yet taken, and whether the
part runs or is held in reset. Its values at a start (R196, R199) are built here once for POWER_ON, RESTART and the state
after reset. -/

namespace Sys2Proof.Machine

/-- Everything the manual gives the DX-48, but for the commands waiting to be taken. -/
structure Part where
  clock : Clock
  cal : Calendar
  mu : Measurement
  dl : DoorLine
  zc : Conditioner
  air : AirQuality
  lb : Budget
  link : Link
  /-- events handed between blocks and not yet taken, oldest first -/
  due : List Due
  /-- the part runs; false while it is held in reset (R198) -/
  running : Bool
  deriving DecidableEq, Repr, Inhabited

/-- The part at the end of a start with a working configuration: every block at its values after the start, and the starting
hand-offs made. The phases, limits, groups and guards are taken up by the zone conditioner, the air quality unit and the
door line controller as their starting values; the load budget's changes stay due (R196 step 4, R184). -/
def Part.started (cfg : WorkingConfig) (clock : Clock) (link : Link) (relays : BitVec 64) (pins : Vector Nat 12) : Part :=
  let cal := Calendar.atStart cfg.calendar clock
  let zc := Conditioner.atStart cfg.zones cfg.interval cfg.tempHold cal
  let air := AirQuality.atStart cfg.channels cfg.credits cfg.gasHold cfg.zones cfg.loads cal
  { clock := clock, cal := cal, mu := Measurement.atStart cfg
    dl := DoorLine.atStart cfg.stations cfg.timeout cal
    zc := zc, air := air
    lb := Budget.atStart cfg.loads cfg.base cfg.spacing relays pins
    link := link.kick
    due := startingDue cal zc air, running := true }

/-- The part after power-on (R196) with the straps as read, what the store reads, and the outputs beyond the chip as they
stood. A store that reads bad holds no image from then on. DESIGN CHOICE (log 82). -/
def Part.poweredOn (straps : BitVec 2) (image : Option WorkingConfig) (relays : BitVec 64) (pins : Vector Nat 12) : Part :=
  let cfg := image.getD WorkingConfig.factory
  let clock := Clock.atPowerOn cfg
  Part.started cfg clock
    (Link.atStart clock .powerOn cfg.mask image.isNone (if image.isSome then .saved else .defaults) straps image
      image.isSome)
    relays pins

end Sys2Proof.Machine
end

