-- ==== Sys2Proof/Machine/State.lean ====
section
/-! DEFINITION. The state of the machine: the part, and the commands waiting for it, first in first out. -/

namespace Sys2Proof.Machine

/-- The reasons a step may stop the machine. There are none: the manual gives every command its effect in every state, and
names no event after which the part halts. Safe: no command ends a run. DEDUCED (log 59). -/
inductive Fault where
  deriving DecidableEq, Repr

/-- The reasons a command may be refused by the model. -/
inductive Refusal where
  /-- Raised by exec alone, for a command that has no meaning yet. Safe: nothing is claimed of it. -/
  | notModelled (mnemonic : String)
  deriving DecidableEq, Repr

/-- The machine: the part and its queue of waiting commands, first in first out. DESIGN CHOICE (log 1). -/
structure State where
  part : Part
  pending : List Instr
  deriving DecidableEq, Repr

/-- The machine right after reset: the values after power-on of a part whose store is blank, so that every block starts from
its factory configuration (R196, R16, R41, R63, R89, R112, R133, R146, R161, R184, R200), link straps 00, relay boards
off and dim outputs at 0 %, nothing waiting. DESIGN CHOICE (log 8). -/
def State.reset : State where
  part := Part.poweredOn 0 none 0 (Tab.build 12 fun _ => 0)
  pending := []

end Sys2Proof.Machine
end

