-- ==== Sys2Proof/Machine/Ops.lean ====
section
/-! DEFINITION. The operations every block uses: posting a notice, handing an event on, reading a record of another block, and
the figures that are derived when a reader takes them (R105, R144, R162, R168, R169). -/

namespace Sys2Proof.Machine

/-! ### Notices and events handed on -/

/-- The oldest notice of a queue with its gap flag set. -/
def markGap : List Notice → List Notice
  | [] => []
  | n :: rest => { n with gap := true } :: rest

/-- A notice joins the queue; a full queue loses its oldest and the then oldest is marked (R193). -/
def enqueueNotice (queue : List Notice) (n : Notice) : List Notice :=
  if queue.length < Config.noticePlaces then queue ++ [n] else markGap (queue.drop 1) ++ [n]

/-- Four detail bytes, those not named sent as 0 (R202). -/
def fourBytes (detail : List Byte) : List Byte := (detail ++ [0, 0, 0, 0]).take 4

/-- A block posts a notice: created when the mask admits its kind, stamped from the clock as it stands (R15, R193). -/
def Part.post (s : Part) (kind : NoticeKind) (subject : Nat) (detail : List Byte) : Part :=
  if s.link.mask.getLsbD (kind.code - 1) then
    let set := decide (s.clock.state = .running)
    let n : Notice :=
      { kind := kind, gap := false, clockSet := set
        dayCount := if set then s.clock.dayCount else 0
        weekMinute := if set then s.clock.weekMinute else 0
        second := if set then s.clock.second else 0
        subject := subject, detail := fourBytes detail }
    { s with link := { s.link with notices := enqueueNotice s.link.notices n } }
  else s

/-- A block hands an event to another, to be taken later. DESIGN CHOICE (log 2, 4). -/
def Part.owe (s : Part) (d : Due) : Part := { s with due := s.due ++ [d] }

/-- A change is handed to the load budget. -/
def Part.hand (s : Part) (c : Change) : Part := s.owe (.budget c)

/-- The first owed event that meets p, and the rest without it. -/
def takeDue (p : Due → Bool) : List Due → Option (Due × List Due)
  | [] => none
  | d :: rest => if p d then some (d, rest) else (takeDue p rest).map fun r => (r.1, d :: r.2)

/-- An event is taken: the first owed one that meets p leaves the list, if there is one. -/
def Part.settleDue (s : Part) (p : Due → Bool) : Part :=
  match takeDue p s.due with
  | some (_, rest) => { s with due := rest }
  | none => s

/-- Unsaved changes become yes (R191). -/
def Part.markUnsaved (s : Part) : Part := { s with link := { s.link with unsaved := true } }

/-- An operation on each number of a list in turn. -/
def Part.forEach (s : Part) (l : List Nat) (f : Part → Nat → Part) : Part := l.foldl f s

/-! ### Records -/

/-- Zone z's record in the zone conditioner. -/
def Part.zone (s : Part) (z : Nat) : Zone := Tab.get s.zc.zones z

/-- The part with zone z's record changed. -/
def Part.setZone (s : Part) (z : Nat) (zone : Zone) : Part := { s with zc := { s.zc with zones := Tab.put s.zc.zones z zone } }

/-- Zone z's record in the calendar unit. -/
def Part.calZone (s : Part) (z : Nat) : CalZone := Tab.get s.cal.zones z

/-- The part with zone z's calendar record changed. -/
def Part.setCalZone (s : Part) (z : Nat) (zone : CalZone) : Part :=
  { s with cal := { s.cal with zones := Tab.put s.cal.zones z zone } }

/-- A station address of the line, 1..48. -/
def isAddress (a : Nat) : Bool := decide (1 ≤ a) && decide (a ≤ 48)

/-- The station addresses, ascending. -/
def addresses : List Nat := (List.range 48).map (· + 1)

/-- Station a's record. -/
def DoorLine.station (d : DoorLine) (a : Nat) : Station := Tab.get d.stations (a - 1)

/-- The controller with station a's record changed. -/
def DoorLine.setStation (d : DoorLine) (a : Nat) (st : Station) : DoorLine :=
  { d with stations := Tab.put d.stations (a - 1) st }

/-- Station a's record. -/
def Part.station (s : Part) (a : Nat) : Station := s.dl.station a

/-- The part with station a's record changed. -/
def Part.setStation (s : Part) (a : Nat) (st : Station) : Part := { s with dl := s.dl.setStation a st }

/-- Channel c's record. -/
def Part.channel (s : Part) (c : Nat) : Channel := s.mu.channel c

/-- The part with channel c's record changed. -/
def Part.setChannel (s : Part) (c : Nat) (ch : Channel) : Part := { s with mu := s.mu.setChannel c ch }

/-- Gas record c. -/
def Part.gasOf (s : Part) (c : Nat) : Gas := Tab.get s.air.gas c

/-- The part with gas record c changed. -/
def Part.setGas (s : Part) (c : Nat) (g : Gas) : Part := { s with air := { s.air with gas := Tab.put s.air.gas c g } }

/-- Fan group g's record. -/
def Part.group (s : Part) (g : Nat) : Group := Tab.get s.air.groups g

/-- The part with fan group g's record changed. -/
def Part.setGroup (s : Part) (g : Nat) (r : Group) : Part :=
  { s with air := { s.air with groups := Tab.put s.air.groups g r } }

/-- Load i of the budget. -/
def Budget.load (lb : Budget) (i : Nat) : Load := Tab.get lb.loads i

/-- The budget with load i changed. -/
def Budget.setLoad (lb : Budget) (i : Nat) (l : Load) : Budget := { lb with loads := Tab.put lb.loads i l }

/-! ### The door figures (R105) -/

/-- A station counts among the enabled ones. -/
def Station.enabled (st : Station) : Bool := decide (st.state ≠ .disabled)

/-- The door quarters of one station. -/
def Station.quarters (st : Station) : Nat :=
  if st.enabled && decide (st.door = .opened) then (if st.docked then 1 else 4) else 0

/-- An undocked open door. -/
def Station.openUndocked (st : Station) : Bool := st.enabled && decide (st.door = .opened) && !st.docked

/-- The door quarters of zone z. -/
def Part.doorQuarters (s : Part) (z : Nat) : Nat :=
  ((Tab.list s.dl.stations).filter fun st => decide (st.cfg.zone = z)).foldl (fun n st => n + st.quarters) 0

/-- The open-door count of fan group g, the zones' groups as they stand. -/
def Part.openCount (s : Part) (g : Nat) : Nat :=
  ((Tab.list s.dl.stations).filter fun st => st.openUndocked && decide ((s.zone st.cfg.zone).cfg.group = g)).length

/-- Some enabled station of zone z has its door OPEN, docked or not (R134). -/
def Part.anyDoorOpen (s : Part) (z : Nat) : Bool :=
  (Tab.list s.dl.stations).any fun st => st.enabled && decide (st.cfg.zone = z) && decide (st.door = .opened)

/-- The number of PRESENT stations (R110). -/
def Part.stationsPresent (s : Part) : Nat :=
  ((Tab.list s.dl.stations).filter fun st => decide (st.state = .present)).length

/-! ### Figures of the load budget -/

/-- A LIGHT load. -/
def LoadConfig.isLight (c : LoadConfig) : Bool := decide (c.kind = .light)

/-- A load that is a stage of a chain: HEAT or FAN (R162). -/
def LoadConfig.isChain (c : LoadConfig) : Bool := decide (c.kind = .heat) || decide (c.kind = .fan)

/-- The draw of a LIGHT at a level, or of any other load (R168). -/
def LoadConfig.drawAt (c : LoadConfig) (level : Nat) : Nat :=
  if c.isLight then ceilQuot (c.rating * level) 100 else c.rating

/-- The draw of a load at a grant (R168). -/
def LoadConfig.draw (c : LoadConfig) : Grant → Nat
  | .none => 0
  | .on => c.rating
  | .level l => c.drawAt l

/-- What a load adds to the protected floor (R168). -/
def LoadConfig.floorDraw (c : LoadConfig) : Nat :=
  if c.kind = .unused || !c.enabled || decide (c.protection = .none) then 0 else c.drawAt c.floor

/-- The protected floor of a table (R168). -/
def floorOf (table : List LoadConfig) : Nat := (table.map LoadConfig.floorDraw).sum

/-- The configurations of the table, in index order. -/
def Budget.table (lb : Budget) : List LoadConfig := (Tab.list lb.loads).map (·.cfg)

/-- The protected floor. -/
def Budget.floor (lb : Budget) : Nat := floorOf lb.table

/-- The lowest of the limits in force (R169). -/
def Budget.limit (lb : Budget) : Nat :=
  let withWindow := match lb.window with
    | some w => min lb.base w
    | none => lb.base
  match lb.cap with
  | some c => min withWindow c.value
  | none => withWindow

/-- The effective limit (R169). -/
def Budget.el (lb : Budget) : Nat := max lb.floor lb.limit

/-- The granted sum: the draws of all granted loads (R179). -/
def Budget.grantedSum (lb : Budget) : Nat := ((Tab.list lb.loads).map fun l => l.cfg.draw l.grant).sum

/-- The indices of the loads of a kind and owner. -/
def Budget.owned (lb : Budget) (kind : LoadKind) (owner : Nat) : List Nat :=
  Tab.where lb.loads fun _ l => decide (l.cfg.kind = kind) && decide (l.cfg.owner = some owner)

/-- The number of loads of a kind and owner: N of a zone, M of a group (R162). -/
def Budget.count (lb : Budget) (kind : LoadKind) (owner : Nat) : Nat := (lb.owned kind owner).length

/-- The number of an owner's loads of a kind that hold a grant: G of a zone, the granted stage of a group (R118, R158). -/
def Budget.grantedCount (lb : Budget) (kind : LoadKind) (owner : Nat) : Nat :=
  ((lb.owned kind owner).filter fun i => (lb.load i).grant.held).length

/-- The load of a kind and owner at a stage. -/
def Budget.stageLoad (lb : Budget) (kind : LoadKind) (owner stage : Nat) : Option Nat :=
  (lb.owned kind owner).find? fun i => decide ((lb.load i).cfg.stage = stage)

/-- The guard held for a load's owner (R167); false, and so read as clear, where the kind has none. DESIGN CHOICE (log 80). -/
def Budget.guardOf (lb : Budget) (c : LoadConfig) : Bool :=
  match c.kind, c.owner with
  | .heat, some z => Tab.get lb.freeze z
  | .light, some z => Tab.get lb.light z
  | .fan, some g => Tab.get lb.alarm g
  | _, _ => false

/-- A load is protected (R167): also an UNUSED one whose stored protection is ALWAYS, though it is never a candidate (R162).
DESIGN CHOICE (log 91). -/
def Budget.protects (lb : Budget) (c : LoadConfig) : Bool :=
  match c.protection with
  | .always => true
  | .guarded => lb.guardOf c
  | .none => false

/-- The 64-point image of the output chain: a point is on while a load bound to it is ON (R180). -/
def Budget.image (lb : Budget) : BitVec 64 :=
  (Tab.list lb.loads).foldl (fun img l =>
    match l.cfg.binding with
    | .point n => if l.cfg.kind ≠ .unused && decide (l.state = .on) then img ||| (1#64 <<< n) else img
    | _ => img) 0

/-- The load bound to dim output n, if any (R181). -/
def Budget.dimLoad (lb : Budget) (n : Nat) : Option Load :=
  (Tab.list lb.loads).find? fun l => l.cfg.kind ≠ .unused && decide (l.cfg.binding = .dim n)

/-- The highest direct output duty of the zones that drive dim output n; none when no zone does (R138). -/
def Part.zoneDuty (s : Part) (n : Nat) : Option Nat :=
  let drivers := (List.range 12).filter fun z =>
    decide ((s.zone z).cfg.dim = some n) && decide (s.lb.count .light z = 0)
  if drivers.isEmpty then none else some (highest (drivers.map fun z => (s.zone z).direct))

/-- The duty set for dim output n: the granted level of the LIGHT bound to it while it is ON, else what the zones drive
(R138, R181). -/
def Part.dimDuty (s : Part) (n : Nat) : Nat :=
  match s.lb.dimLoad n with
  | some l => if l.state = .on then (match l.grant with | .level d => d | _ => 0) else 0
  | none => (s.zoneDuty n).getD 0

/-- The lamp LED_RUN (R198). -/
def Part.ledRun (s : Part) : Bool := s.running

/-- The lamp LED_LINE (R80), dark while the part is held in reset. DESIGN CHOICE (log 93). -/
def Part.ledLine (s : Part) : Bool := s.running && (decide (s.dl.line = .stuck) || decide (s.dl.line = .dead))

/-! ### Commanded outputs (R144) -/

/-- The commanded outputs of station a, formed from its demand, its CURTAIN load's state and its door. -/
def Part.formedOutputs (s : Part) (a : Nat) : Outputs :=
  let st := s.station a
  let on := (s.lb.owned .curtain a).any fun i => decide ((s.lb.load i).state = .on)
  { stage := if st.demand = 0 then 0 else if 2 ≤ st.demand && on then 2 else 1
    light := decide (st.door = .opened) }

/-- The outputs byte (11, "The station bytes"). -/
def Outputs.byte (o : Outputs) : Byte := BitVec.ofNat 8 (min o.stage 2 * 64 + (if o.light then 32 else 0))

end Sys2Proof.Machine
end

