-- ==== Sys2Proof/Machine/Flags.lean ====
section
/-! DEFINITION. The judgements that move a flag, a level or a stage count: validity (R55), the window detector (R57, R58), the
gas ladder (R148), the heater stage grade (R126). Pure functions. -/

namespace Sys2Proof.Machine

/-- Validity after a bad raw, with the bad run after it (R55). -/
def Validity.afterBad (v : Validity) (badRun : Nat) : Validity :=
  match v with
  | .unseen => .unseen
  | .valid => if 3 ≤ badRun then .fault else .suspect
  | .suspect => if 3 ≤ badRun then .fault else .suspect
  | .fault => .fault

/-- Validity after a good raw, with the good run after it (R55). -/
def Validity.afterGood (v : Validity) (goodRun : Nat) : Validity :=
  match v with
  | .unseen => .valid
  | .valid => .valid
  | .suspect => if 2 ≤ goodRun then .valid else .suspect
  | .fault => if 2 ≤ goodRun then .valid else .fault

/-- The window detector in OUTSIDE sense (R57). -/
def outsideWindow (c : ChanConfig) (w : WindowState) (v : Int) : WindowState :=
  match w with
  | .low =>
    if c.hi < v then .high else if c.lo + c.lowHyst ≤ v ∧ v ≤ c.hi - c.highHyst then .clear else .low
  | .high =>
    if v < c.lo then .low else if c.lo + c.lowHyst ≤ v ∧ v ≤ c.hi - c.highHyst then .clear else .high
  | .clear => if v < c.lo then .low else if c.hi < v then .high else .clear
  | .inside => .inside

/-- The window detector in INSIDE sense (R58). -/
def insideWindow (c : ChanConfig) (w : WindowState) (v : Int) : WindowState :=
  match w with
  | .clear => if c.lo < v ∧ v < c.hi then .inside else .clear
  | .inside => if c.hi + c.highHyst ≤ v ∨ v ≤ c.lo - c.lowHyst then .clear else .inside
  | other => other

/-- The window state after a VALID value (R57, R58); with window off the state stays. -/
def judgeWindow (c : ChanConfig) (w : WindowState) (v : Int) : WindowState :=
  if !c.windowOn then w else if c.inside then insideWindow c w v else outsideWindow c w v

/-- The gas level of a value graded from a level (R148). -/
def gradeGas (c : ChanConfig) (level : Nat) (v : Int) : Nat :=
  regrade level
    (metCount v [c.t1 + c.rise, c.t2 + c.rise, c.t3 + c.rise])
    (metCount v [c.t1 - c.fall, c.t2 - c.fall, c.t3 - c.fall])

/-- The on-thresholds of N heater stages (R126). -/
def onThresholds (n : Nat) : List Int := (List.range n).map fun k => ((((k + 1) * 1000) / (n + 1) : Nat) : Int)

/-- The requested stage count graded from D, N stages and hysteresis H (R126). -/
def gradeHeat (s n hyst : Nat) (d : Nat) : Nat :=
  if n = 0 then 0
  else regrade s (metCount d (onThresholds n)) (metCount d ((onThresholds n).map (· - (hyst : Int))))

/-- The proportional part: Kp × E / 8 truncated toward zero (R123). -/
def proportional (kp : Nat) (e : Int) : Int := Int.tdiv ((kp : Int) * e) 8

/-- The integral after an evaluation (R124). -/
def integrate (i : Nat) (e : Int) (g s imax : Nat) : Nat :=
  if 0 < e ∧ g < s then i else (clampZ 0 imax ((i : Int) + e)).toNat

/-- The heat demand from the proportional and integral parts (R125). -/
def heatDemand (p : Int) (iterm : Nat) : Nat := (clampZ 0 1000 (p + iterm)).toNat

/-- The heat error (R121, R122): E = Sp − Tz + door term + vent term, clamped to ±500. -/
def heatError (sp : Nat) (tz : Int) (door vent : Nat) : Int := clampZ (-500) 500 ((sp : Int) - tz + door + vent)

/-- Door credit applies (R156). -/
def creditApplies (base highestLevel credit openDoors : Nat) : Bool :=
  decide (base = 1) && decide (highestLevel ≤ 1) && decide (credit ≠ 0) && decide (credit ≤ openDoors)

end Sys2Proof.Machine
end

