-- ==== Sys2Proof/Machine/Outbound.lean ====
section
/-! DEFINITION. The outbound queue of the door line controller (R85 to R88), and the forming of commanded outputs that asks it
for SET_OUTPUTS frames (R145). -/

namespace Sys2Proof.Machine

/-- Station a's entry in the queue. -/
def DoorLine.entryOf (d : DoorLine) (a : Nat) : Option OutEntry := d.queue.find? fun e => decide (e.address = a)

/-- Station a's pending flag set or cleared. -/
def DoorLine.setPending (d : DoorLine) (a : Nat) (flag : Bool) : DoorLine :=
  d.setStation a { d.station a with pending := flag }

/-- A waiting entry for station a becomes a SET_OUTPUTS entry in its place (R85). -/
def mergeSetOutputs (a : Nat) (queue : List OutEntry) : List OutEntry :=
  queue.map fun e => if e.address = a ∧ e.inFlight = false then { e with kind := .setOutputs } else e

/-- The controller with a waiting entry at the tail. -/
def DoorLine.append (d : DoorLine) (a : Nat) (kind : EntryKind) : DoorLine :=
  { d with queue := d.queue ++ [{ address := a, kind := kind, inFlight := false, orphan := false }] }

/-- A SET_OUTPUTS request for station a (R85); the flag says whether it added an entry. -/
def DoorLine.requestOutputs (d : DoorLine) (a : Nat) : DoorLine × Bool :=
  match (d.station a).state with
  | .disabled => (d, false)
  | .present =>
    match d.entryOf a with
    | some e =>
      if e.inFlight then (d.setPending a true, false)
      else ({ d with queue := mergeSetOutputs a d.queue }.setPending a false, false)
    | none =>
      if d.queue.length < Config.outboundPlaces then ((d.append a .setOutputs).setPending a false, true)
      else (d.setPending a true, false)
  | _ => (d.setPending a true, false)

/-- A QUERY request for station a (R85); the flag says whether a full queue dropped it. -/
def DoorLine.requestQuery (d : DoorLine) (a : Nat) : DoorLine × Bool :=
  match (d.station a).state with
  | .disabled => (d, false)
  | _ =>
    match d.entryOf a with
    | some _ => (d, false)
    | none => if d.queue.length < Config.outboundPlaces then (d.append a .query, false) else (d, true)

/-- SET_OUTPUTS requests for the pending PRESENT stations of a list, until one adds an entry (R87). -/
def DoorLine.refillFrom (d : DoorLine) : List Nat → DoorLine
  | [] => d
  | a :: rest =>
    let st := d.station a
    if st.pending && decide (st.state = .present) then
      let r := d.requestOutputs a
      if r.2 then r.1 else r.1.refillFrom rest
    else d.refillFrom rest

/-- The refill on a leaving of the queue (R87). -/
def DoorLine.refill (d : DoorLine) : DoorLine := d.refillFrom addresses

/-- The entries that meet p leave the queue; a leaving refills (R87). -/
def DoorLine.leave (d : DoorLine) (p : OutEntry → Bool) : DoorLine :=
  if d.queue.any p then { d with queue := d.queue.filter fun e => !p e }.refill else d

/-- The head entry in flight. -/
def DoorLine.flying (d : DoorLine) : Option OutEntry := d.queue.find? (·.inFlight)

/-- An entry in flight goes back to waiting and its payload is discarded (R69, R77, R78, R86). So does one whose station was
disabled during the flight: it loses its mark, keeps the head and is sent again, to a station that may still be DISABLED.
DESIGN CHOICE (log 99), since R88 lets such an entry complete on the line and then leave, and does not say what becomes of one
whose flight ends by lost arbitration or by a line that goes STUCK or DEAD. -/
def DoorLine.land (d : DoorLine) : DoorLine :=
  { d with queue := d.queue.map fun e => { e with inFlight := false, orphan := false }, sending := none }

/-- The commanded outputs of station a, an address of the line, formed afresh at a change of an input: SET_OUTPUTS is requested
when they differ from those last formed so (R145). The outputs last formed of R103, those of the last answer or payload, are
not touched here, nor by a line clear, which R112 ends with "then formed afresh". DESIGN CHOICE (log 95). -/
def Part.formOutputs (s : Part) (a : Nat) : Part :=
  let o := s.formedOutputs a
  let st := s.station a
  if isAddress a = false ∨ o = st.commanded then s
  else { s with dl := ((s.dl.setStation a { st with commanded := o }).requestOutputs a).1 }

/-- The bytes of a SET_OUTPUTS or QUERY frame, header to check (R66, R67). -/
def frameBytes (header : Byte) (address : Nat) (data : List Byte) : List Byte :=
  let body := header :: BitVec.ofNat 8 address :: data
  body ++ [crc8 body]

/-- An outputs byte with its answer check (R73). -/
def answerBytes (o : Outputs) : List Byte := [o.byte, crc8 [o.byte]]

/-- The controller starts, or joins the lead pulse of, the head entry: its payload is formed from the commanded outputs at
that instant, the entry is in flight and the line BUSY (R68, R103, R144). -/
def Part.startFrame (s : Part) : Part :=
  match s.dl.queue with
  | [] => s
  | e :: rest =>
    let dl := { s.dl with queue := { e with inFlight := true, orphan := false } :: rest, line := .busy }
    match e.kind with
    | .query => { s with dl := { dl with sending := some (frameBytes 0x64 e.address []) } }
    | .setOutputs =>
      let o := s.formedOutputs e.address
      let st := s.station e.address
      { s with dl := { dl.setStation e.address { st with pending := false, lastFormed := o } with
          sending := some (frameBytes 0x83 e.address [o.byte]) } }

end Sys2Proof.Machine
end

