-- ==== Sys2Proof/Machine/Allocation.lean ====
section
/-! DEFINITION. The allocation pass of the load budget and what follows it: requests and holds (R166, R172), the three steps
(R173 to R175), the moves of load states (R176), the start queue (R178), the BUDGET notice (R179) and the output chain
(R180). -/

namespace Sys2Proof.Machine

/-- A stage below load l of the same kind and owner whose own request is 0 (R166). -/
def Budget.gapBelow (lb : Budget) (l : Load) : Bool :=
  (List.range l.cfg.stage).any fun k =>
    decide (1 ≤ k) &&
      !((Tab.list lb.loads).any fun m =>
        decide (m.cfg.kind = l.cfg.kind) && decide (m.cfg.owner = l.cfg.owner) && decide (m.cfg.stage = k) &&
          decide (m.request = 1))

/-- A load counts as requested (R166). -/
def Budget.requested (lb : Budget) (l : Load) : Bool :=
  match l.cfg.kind with
  | .unused => false
  | .light => decide (0 < l.request)
  | .heat => decide (l.request = 1) && !lb.gapBelow l
  | .fan => decide (l.request = 1) && !lb.gapBelow l
  | .curtain => decide (l.request = 1)
  | .aux => decide (l.request = 1)

/-- A load is ON with its min-on timer running. -/
def Load.runsMinOn (l : Load) : Bool := decide (l.state = .on) && l.minOn.isSome

/-- A load is held: it, or any higher stage of the same owner and kind, is ON with its min-on timer running; a LIGHT is never
held (R172). -/
def Budget.holds (lb : Budget) (l : Load) : Bool :=
  if l.cfg.isLight || decide (l.cfg.kind = .unused) then false
  else
    l.runsMinOn ||
      (l.cfg.isChain &&
        (Tab.list lb.loads).any fun m =>
          decide (m.cfg.kind = l.cfg.kind) && decide (m.cfg.owner = l.cfg.owner) && decide (l.cfg.stage < m.cfg.stage) &&
            m.runsMinOn)

/-- Load i is a candidate of a pass (R172). -/
def Budget.candidate (lb : Budget) (i : Nat) : Bool :=
  let l := lb.load i
  decide (l.cfg.kind ≠ .unused) && l.cfg.enabled && (lb.requested l || lb.holds l)

/-- A stage of load l's own chain and class, up to l's stage. -/
def Load.stageWithin (m l : Load) : Bool :=
  decide (m.cfg.kind = l.cfg.kind) && decide (m.cfg.owner = l.cfg.owner) && decide (m.cfg.rank = l.cfg.rank) &&
    decide (m.cfg.stage ≤ l.cfg.stage)

/-- The urgency at which a load is taken. The stages of one owner come up in stage order (R172), also while their urgencies
differ between two hand-offs: a stage is taken with the least urgency among the stages of its class up to its own.
DESIGN CHOICE (log 73). -/
def Budget.keyUrgency (lb : Budget) (l : Load) : Nat :=
  if l.cfg.isChain then ((Tab.list lb.loads).filter (·.stageWithin l)).foldl (fun u m => min u m.urgency) l.urgency
  else l.urgency

/-- Load i comes no later than load j in key order: class ascending, then urgency descending, then index (R172). -/
def Budget.keyLe (lb : Budget) (i j : Nat) : Bool :=
  let a := lb.load i
  let b := lb.load j
  let u := lb.keyUrgency a
  let v := lb.keyUrgency b
  if a.cfg.rank ≠ b.cfg.rank then decide (a.cfg.rank < b.cfg.rank)
  else if u ≠ v then decide (v < u)
  else decide (i ≤ j)

/-- The loads of an order with load i in its place by the key: after those that come no later than it. -/
def Budget.place (lb : Budget) (order : List Nat) (i : Nat) : List Nat :=
  order.takeWhile (lb.keyLe · i) ++ i :: order.dropWhile (lb.keyLe · i)

/-- The candidates in key order (R172). -/
def Budget.candidates (lb : Budget) : List Nat := ((List.range 128).filter lb.candidate).foldl lb.place []

/-- A pass under way: the total of the draws granted, the grants in the order made, and the held loads forced shed. -/
structure Pass where
  total : Nat
  grants : List (Nat × Grant)
  shed : List Nat
  deriving DecidableEq, Repr, Inhabited

/-- The grant a pass has made to load i. -/
def Pass.grantOf (p : Pass) (i : Nat) : Grant :=
  match p.grants.find? fun g => decide (g.1 = i) with
  | some g => g.2
  | none => .none

/-- A pass has granted load i. -/
def Pass.granted (p : Pass) (i : Nat) : Bool := p.grants.any fun g => decide (g.1 = i)

/-- The pass with a grant made and its draw added. -/
def Pass.give (p : Pass) (i : Nat) (g : Grant) (draw : Nat) : Pass :=
  { p with total := p.total + draw, grants := p.grants ++ [(i, g)] }

/-- Stage k of a HEAT or FAN chain may be granted only when stage k − 1 of its owner holds a grant in this pass (R172). -/
def Budget.chainHolds (lb : Budget) (p : Pass) (l : Load) : Bool :=
  if l.cfg.isChain && decide (1 < l.cfg.stage) then
    p.grants.any fun g =>
      let m := (lb.load g.1).cfg
      decide (m.kind = l.cfg.kind) && decide (m.owner = l.cfg.owner) && decide (m.stage + 1 = l.cfg.stage)
  else true

/-- The protected step at one candidate (R173). In a table that meets check 9 of R163 the stage below a protected requested
stage is taken before it and granted, so the chain never fails here. DEDUCED (log 45), DESIGN CHOICE (log 73). -/
def Budget.protectedStep (lb : Budget) (p : Pass) (i : Nat) : Pass :=
  let l := lb.load i
  if lb.protects l.cfg && lb.requested l && lb.chainHolds p l then
    if l.cfg.isLight then p.give i (.level l.cfg.floor) (l.cfg.drawAt l.cfg.floor) else p.give i .on l.cfg.rating
  else p

/-- The held step at one candidate (R174). -/
def Budget.heldStep (lb : Budget) (p : Pass) (i : Nat) : Pass :=
  let l := lb.load i
  if p.granted i || !lb.holds l then p
  else if lb.chainHolds p l && decide (p.total + l.cfg.rating ≤ lb.el) then p.give i .on l.cfg.rating
  else { p with shed := p.shed ++ [i] }

/-- The largest level up to a request whose draw fits a room (R175). -/
def levelFor (request rating room : Nat) : Nat := min request (100 * room / rating)

/-- The open step at one candidate (R175). DEDUCED (log 46). -/
def Budget.openStep (lb : Budget) (p : Pass) (i : Nat) : Pass :=
  let l := lb.load i
  let h := lb.el - p.total
  if !lb.requested l || decide (l.state = .resting) || p.shed.contains i then p
  else if l.cfg.isLight then
    if p.granted i then
      if l.cfg.floor < l.request then
        let level := max l.cfg.floor (levelFor l.request l.cfg.rating (h + l.cfg.drawAt l.cfg.floor))
        { p with
          total := p.total + (l.cfg.drawAt level - l.cfg.drawAt l.cfg.floor)
          grants := p.grants.map fun g => if g.1 = i then (i, .level level) else g }
      else p
    else
      let level := levelFor l.request l.cfg.rating h
      if level = 0 then p else p.give i (.level level) (l.cfg.drawAt level)
  else if p.granted i then p
  else if lb.chainHolds p l && decide (l.cfg.rating ≤ h) then p.give i .on l.cfg.rating
  else p

/-- The grants of a pass, computed afresh from the records as they stand (R171). -/
def Budget.runPass (lb : Budget) : Pass :=
  let cs := lb.candidates
  let p0 : Pass := { total := 0, grants := [], shed := [] }
  cs.foldl lb.openStep (cs.foldl lb.heldStep (cs.foldl lb.protectedStep p0))

/-- The refused flag of load i after a pass (R174, R175). -/
def Budget.flagAfter (lb : Budget) (p : Pass) (i : Nat) : RefusedFlag :=
  if !lb.candidate i || p.granted i then .none
  else if p.shed.contains i then .forced
  else if (lb.load i).state = .resting then .none
  else .refused

/-- A load goes ON: its min-on timer starts, unless it is a LIGHT or its min-on is 0 (R176). -/
def Load.turnOn (l : Load) : Load :=
  { l with state := .on, minOff := none, minOn := if l.cfg.isLight || decide (l.cfg.minOn = 0) then none else some l.cfg.minOn }

/-- A load leaves ON without a grant: RESTING with the min-off timer started, or OFF (R176). -/
def Load.turnOff (l : Load) : Load :=
  if l.cfg.isLight || decide (l.cfg.minOff = 0) then { l with state := .off, minOn := none, minOff := none }
  else { l with state := .resting, minOn := none, minOff := some l.cfg.minOff }

/-- The move of one load by its old state and its grant (R176). -/
def Load.move (l : Load) (isProtected : Bool) (g : Grant) : Load :=
  let l' := { l with grant := g }
  match l.state with
  | .off => if g.held then (if isProtected || l.cfg.isLight then l'.turnOn else { l' with state := .starting }) else l'
  | .starting => if g.held then (if isProtected then l'.turnOn else l') else { l' with state := .off }
  | .on => if g.held then l' else l'.turnOff
  | .resting => if g.held then l'.turnOn else l'

/-- The head of the start queue goes ON and the spacing timer starts; an empty queue leaves it stopped. With a spacing of 0
the loads go ON one after another (R178). -/
def Budget.startFrom (lb : Budget) : List Nat → Budget
  | [] => { lb with queue := [], spacingTimer := none }
  | i :: rest =>
    let lb' := lb.setLoad i (lb.load i).turnOn
    if lb.spacing = 0 then lb'.startFrom rest else { lb' with queue := rest, spacingTimer := some lb.spacing }

/-- A start event (R178). -/
def Budget.startEvent (lb : Budget) : Budget := lb.startFrom lb.queue

/-- The table after the moves of a pass (R176). -/
def Budget.moved (lb : Budget) (p : Pass) : Vector Load 128 :=
  Tab.build 128 fun i =>
    let l := lb.load i
    { l.move (lb.protects l.cfg) (p.grantOf i) with refused := lb.flagAfter p i }

/-- The budget after the moves of a pass: grants, flags and states moved, and the joins to the start queue in the order granted;
the flag says that a join finds the spacing timer stopped (R176, R178). -/
def Budget.settle (lb : Budget) : Budget × Bool :=
  let p := lb.runPass
  let loads := lb.moved p
  let waiting (i : Nat) : Bool := decide ((Tab.get loads i).state = .starting)
  let joins := (p.grants.map (·.1)).filter fun i => waiting i && decide ((lb.load i).state ≠ .starting)
  ({ lb with loads := loads, queue := lb.queue.filter waiting ++ joins }, !joins.isEmpty && lb.spacingTimer.isNone)

/-- The budget after a pass, with the start event of a join that finds the spacing timer stopped (R178). -/
def Budget.allocate (lb : Budget) : Budget := if lb.settle.2 then lb.settle.1.startEvent else lb.settle.1

/-- A refresh of the output chain starts with the image as it stands, or is marked as the second (R180). -/
def Budget.refresh (lb : Budget) : Budget :=
  if lb.shifting.isSome then { lb with marked := true } else { lb with shifting := some lb.image }

/-- What a refresh puts on the output chain, each move with its microseconds from the refresh's start: the 64 points of the image
on CHD with CHC, point 63 first, and the latch on CHL (R180). -/
def refreshMoves (image : BitVec 64) : List (Nat × ChainMove) :=
  (List.range Config.chainPoints).map (fun k =>
      (Config.chainMicros * (k + 1), .point (image.getLsbD (Config.chainPoints - 1 - k)))) ++
    [(Config.chainMicros * (Config.chainPoints + 1), .latch)]

/-- The relay boards after one move: a point shifted in pushes the others on by one stage, and relay n latches stage n.
DEDUCED (log 97). -/
def Boards.take (b : Boards) : ChainMove → Boards
  | .point on => { b with stages := (b.stages <<< 1) ||| (if on then 1 else 0) }
  | .latch => { b with relays := b.stages }

/-- The relays at the end of a refresh of an image, its stages holding at its start what was last shifted in. -/
def relaysAfter (relays image : BitVec 64) : BitVec 64 :=
  (((refreshMoves image).map (·.2)).foldl Boards.take { stages := relays, relays := relays }).relays

/-- Load i is a CURTAIN load of an owner that has moved into or out of ON between two tables. -/
def curtainMoved (before after : Budget) (i : Nat) : Option Nat :=
  let a := before.load i
  let b := after.load i
  if b.cfg.kind = .curtain ∧ decide (a.state = .on) ≠ decide (b.state = .on) then b.cfg.owner else none

/-- The order in which the loads of one event move: those that a pass moves, by index, and after them those that a start event
turns ON, in the order of the queue it finds (R176, R178). -/
def moveOrder (queue : List Nat) : List Nat := (List.range 128).filter (fun i => !queue.contains i) ++ queue

/-- After moves of load states: the outputs are driven. A changed image starts a refresh (R180), and at each move of a CURTAIN
load into or out of ON its station's commanded outputs are formed afresh, in the order of the moves, the start queue being what
a start event of this event finds (R182). All moves and start events of one event make one change of the image.
DESIGN CHOICE (log 79). -/
def Part.driveOutputs (s : Part) (before : Budget) (queue : List Nat) : Part :=
  let lb := if s.lb.image = before.image then s.lb else s.lb.refresh
  ({ s with lb := lb }).forEach ((moveOrder queue).filterMap (curtainMoved before s.lb)) Part.formOutputs

/-- The refused set with its flags. -/
def Budget.refusedSet (lb : Budget) : Vector RefusedFlag 128 := Tab.each lb.loads (·.refused)

/-- The loads in the refused set. -/
def Budget.refusedLoads (lb : Budget) : List Nat := Tab.where lb.loads fun _ l => decide (l.refused ≠ .none)

/-- The refused draw: ratings, or for a refused LIGHT the draw at its request, saturating at 32767 (R179). -/
def Budget.refusedDraw (lb : Budget) : Nat :=
  min 32767 ((lb.refusedLoads.map fun i =>
    let l := lb.load i
    if l.cfg.isLight then l.cfg.drawAt l.request else l.cfg.rating).sum)

/-- Some load of the refused set is FORCED. -/
def Budget.anyForced (lb : Budget) : Bool := (Tab.list lb.loads).any fun l => decide (l.refused = .forced)

/-- The BUDGET check after a pass (R179, R202). -/
def Part.budgetCheck (s : Part) : Part :=
  let set := s.lb.refusedSet
  if set = s.lb.baseline then s
  else
    ({ s with lb := { s.lb with baseline := set } }).post .budget s.lb.refusedLoads.length
      (u16 (s.lb.refusedDraw + (if s.lb.anyForced then 32768 else 0)) ++ u16 s.lb.el)

/-- Changed records of the budget put in place, with their pass and all that follows it in the same event (R171, R176). -/
def Part.withTable (s : Part) (lb : Budget) : Part :=
  (({ s with lb := lb.allocate }).driveOutputs s.lb lb.settle.1.queue).budgetCheck

/-- A pass on the records as they stand (R171). -/
def Part.pass (s : Part) : Part := s.withTable s.lb

/-- A start event on its own (R178). -/
def Part.startEvent (s : Part) : Part := ({ s with lb := s.lb.startEvent }).driveOutputs s.lb s.lb.queue

/-- A request of a load stored; the flag says whether it differs from the one stored (R166). -/
def Budget.storeRequest (lb : Budget) (target : Option Nat) (request urgency : Nat) : Budget × Bool :=
  match target with
  | none => (lb, false)
  | some i =>
    let l := lb.load i
    if l.request = request ∧ l.urgency = urgency then (lb, false)
    else (lb.setLoad i { l with request := request, urgency := urgency }, true)

/-- A change handed to the budget is stored; the flag says whether it starts a pass (R166, R167, R171): a window limit does when
EL changes (R171), and the one handed at a start when the limit held does (R184, R196). DEDUCED (log 47). -/
def Budget.store (lb : Budget) : Change → Budget × Bool
  | .heat z k r => lb.storeRequest (lb.stageLoad .heat z k) (if r.on then 1 else 0) r.urgency
  | .fan g k r => lb.storeRequest (lb.stageLoad .fan g k) (if r.on then 1 else 0) r.urgency
  | .light z r => lb.storeRequest (lb.stageLoad .light z 1) r.level r.urgency
  | .curtain a r => lb.storeRequest (lb.stageLoad .curtain a 1) (if r then 1 else 0) 1000
  | .freezeGuard z b =>
    if Tab.get lb.freeze z = b then (lb, false) else ({ lb with freeze := Tab.put lb.freeze z b }, true)
  | .lightGuard z b =>
    if Tab.get lb.light z = b then (lb, false) else ({ lb with light := Tab.put lb.light z b }, true)
  | .alarmGuard g b =>
    if Tab.get lb.alarm g = b then (lb, false) else ({ lb with alarm := Tab.put lb.alarm g b }, true)
  | .window w =>
    let lb' := { lb with window := w }
    (lb', decide (lb'.el ≠ lb.el))
  | .startWindow w => ({ lb with window := w }, decide (lb.window ≠ w))

/-- The budget takes a change: stores it and, when it changes something, runs a pass in the same event (R171). -/
def Part.takeChange (s : Part) (c : Change) : Part :=
  let r := s.lb.store c
  if r.2 then s.withTable r.1 else { s with lb := r.1 }

/-! ### Changes waiting to be taken -/

/-- The n-th change due to the load budget, counted from the oldest. -/
def nthChange : List Due → Nat → Option Change
  | [], _ => none
  | .budget c :: rest, n => if n = 0 then some c else nthChange rest (n - 1)
  | .evaluate _ :: rest, n => nthChange rest n
  | .freezeEdge _ _ :: rest, n => nthChange rest n
  | .gas _ _ _ _ :: rest, n => nthChange rest n
  | .demand _ :: rest, n => nthChange rest n
  | .doorLimit _ _ _ :: rest, n => nthChange rest n

/-- Two changes set the same figure of the budget: the request of one load, one guard, or the window limit. -/
def Change.sameFigure : Change → Change → Bool
  | .heat z k _, .heat y j _ => decide (z = y) && decide (k = j)
  | .fan g k _, .fan h j _ => decide (g = h) && decide (k = j)
  | .light z _, .light y _ => decide (z = y)
  | .curtain a _, .curtain b _ => decide (a = b)
  | .freezeGuard z _, .freezeGuard y _ => decide (z = y)
  | .lightGuard z _, .lightGuard y _ => decide (z = y)
  | .alarmGuard g _, .alarmGuard h _ => decide (g = h)
  | .window _, .window _ => true
  | .window _, .startWindow _ => true
  | .startWindow _, .window _ => true
  | .startWindow _, .startWindow _ => true
  | _, _ => false

/-- An event due is a change of the figure that c sets. -/
def Due.changes (c : Change) : Due → Bool
  | .budget d => c.sameFigure d
  | .evaluate _ => false
  | .freezeEdge _ _ => false
  | .gas _ _ _ _ => false
  | .demand _ => false
  | .doorLimit _ _ _ => false

/-- The oldest change due of the figure that c sets is taken with its pass, so the changes of one figure are taken in the order
they were handed. -/
def Part.takeOldest (s : Part) (c : Change) : Part :=
  match takeDue (Due.changes c) s.due with
  | some (.budget d, rest) => { s with due := rest }.takeChange d
  | _ => s

/-- The budget takes the n-th change due to it, or an older one of the same figure, with its pass; where there is none a pass
runs on the records as they stand (R171). DESIGN CHOICE (log 3, 32). -/
def Part.takeNth (s : Part) (n : Nat) : Part :=
  match nthChange s.due n with
  | some c => s.takeOldest c
  | none => s.pass

/-- A new window limit is handed to the budget and taken at once, after any window limit that still waits (R40).
DESIGN CHOICE (log 76). -/
def Part.handWindow (s : Part) (limit : Option Nat) : Part :=
  (s.forEach (List.range (s.due.countP (Due.changes (.window limit)))) fun s _ => s.takeOldest (.window limit)).takeChange
    (.window limit)

/-- The limit inputs of the budget are replaced; a pass runs when EL changes (R169, R171). -/
def Part.withLimits (s : Part) (lb : Budget) : Part :=
  if lb.el = s.lb.el then { s with lb := lb } else ({ s with lb := lb }).pass

end Sys2Proof.Machine
end

