-- ==== Sys2Proof/Machine/Zones.lean ====
section
/-! DEFINITION. The zone conditioner (06, 07): an evaluation (R118), the light request and its guard (R134 to R138), curtain
demands and heat requests (R140 to R143), and what it does when another block tells it of a change (R116, R127, R130,
R137, R139). -/

namespace Sys2Proof.Machine

/-! ### Heat -/

/-- The heat mode and Tz from the temperature channel's record as it stands (R119). -/
def chooseHeat (ch : Channel) (hold : Nat) : HeatMode × Option Int :=
  match ch.validity, ch.age with
  | .valid, _ => (.normal, some ch.value)
  | .unseen, _ => (.lost, none)
  | _, none => (.lost, none)
  | _, some a => if a < hold then (.holding, some ch.value) else (.lost, none)

/-- What an evaluation reads and forms before the demand (R118 steps 1 to 3). -/
structure HeatReading where
  mode : HeatMode
  tz : Option Int
  setpoint : Nat
  quarters : Nat
  granted : Nat
  fans : Nat
  stages : Nat
  deriving DecidableEq, Repr, Inhabited

/-- Zone z's effective phase, profile and source as last handed by the calendar unit. -/
def Part.effective (s : Part) (z : Nat) : Standing := (s.calZone z).effective

/-- The reading of zone z as the records stand (R118 steps 1 and 2). -/
def Part.heatReading (s : Part) (z : Nat) : HeatReading :=
  let cfg := (s.zone z).cfg
  let chosen := chooseHeat (s.channel cfg.channel) s.zc.hold
  { mode := chosen.1, tz := chosen.2, setpoint := s.cal.running.setpoint (s.effective z)
    quarters := s.doorQuarters z, granted := s.lb.grantedCount .heat z, fans := s.lb.grantedCount .fan cfg.group
    stages := s.lb.count .heat z }

/-- The record with mode, Tz, setpoint, terms and error of a reading; without Tz the error and the working terms are 0
(R118 step 3, R121, R122). DEDUCED (log 43). -/
def Zone.withReading (zone : Zone) (r : HeatReading) : Zone :=
  let base := { zone with
    mode := r.mode, tz := r.tz, quarters := r.quarters, g := r.granted, gFan := r.fans, evaluated := true }
  match r.tz with
  | none => { base with sp := 0, doorTerm := 0, ventTerm := 0, e := 0 }
  | some t =>
    let door := zone.cfg.kd * r.quarters / 4
    let vent := r.fans * zone.cfg.kv
    { base with sp := r.setpoint, doorTerm := door, ventTerm := vent, e := heatError r.setpoint t door vent }

/-- The freeze guard's demand (R128). -/
def Zone.freezeDemand (zone : Zone) (r : HeatReading) : Zone := { zone with p := 0, iterm := 0, d := 1000, s := r.stages }

/-- The fallback of a lost temperature (R129). -/
def Zone.fallbackDemand (zone : Zone) (r : HeatReading) : Zone :=
  { zone with p := 0, iterm := 0, i := 0, d := 500, s := min zone.cfg.fallback r.stages }

/-- The heat arithmetic (R123 to R126). -/
def Zone.arithmetic (zone : Zone) (r : HeatReading) : Zone :=
  let p := proportional zone.cfg.kp zone.e
  let i := integrate zone.i zone.e r.granted zone.s zone.cfg.imax
  let iterm := zone.cfg.ki * i / 256
  let d := heatDemand p iterm
  { zone with p := p, i := i, iterm := iterm, d := d, s := gradeHeat zone.s r.stages zone.cfg.hyst d }

/-- The record after steps 3 to 5 of an evaluation (R118). -/
def Zone.heat (zone : Zone) (r : HeatReading) : Zone :=
  let read := zone.withReading r
  if zone.guard then read.freezeDemand r
  else if r.mode = .lost then read.fallbackDemand r
  else read.arithmetic r

/-- An evaluation with this reading enters LOST (R120). -/
def Zone.entersLost (zone : Zone) (r : HeatReading) : Bool :=
  decide (r.mode = .lost) && (!zone.evaluated || decide (zone.mode ≠ .lost))

/-- The SENSOR_LOST notice of an evaluation (R120). DEDUCED (log 25). -/
def Part.postLost (s : Part) (z : Nat) (zone : Zone) (r : HeatReading) : Part :=
  if zone.entersLost r then
    s.post .sensorLost z
      (u8 zone.cfg.channel ++ u8 (s.channel zone.cfg.channel).validity.code ++ u8 zone.mode.code ++
        u8 (min zone.cfg.fallback r.stages))
  else s

/-- The request of heater stage k + 1 of a record (R131). -/
def Zone.heatRequest (zone : Zone) (k : Nat) : StageRequest := { on := decide (k + 1 ≤ zone.s), urgency := zone.d }

/-- One heater stage request is handed when it differs from the one last handed (R131). -/
def Part.handHeatStage (z : Nat) (s : Part) (k : Nat) : Part :=
  let zone := s.zone z
  let r := zone.heatRequest k
  if Tab.get zone.handed k = r then s
  else (s.setZone z { zone with handed := Tab.put zone.handed k r }).hand (.heat z (k + 1) r)

/-- The heater stage requests of zone z in ascending stage (R131). -/
def Part.handHeat (s : Part) (z : Nat) : Part := s.forEach (List.range (s.lb.count .heat z)) (Part.handHeatStage z)

/-! ### Light -/

/-- The terms of Lr that count, in the order that names the source (R134). -/
def Part.lightTerms (s : Part) (z : Nat) : List (LightSource × Nat) :=
  let zone := s.zone z
  let header := s.cal.running.header
  [(.base, s.cal.running.baseLight (s.effective z))] ++
  (if zone.presence.isSome then [(.presence, header.presenceLight)] else []) ++
  (if s.anyDoorOpen z then [(.door, header.doorLight)] else []) ++
  [(.floor, zone.cfg.floor)]

/-- The largest term, the first on equal values. -/
def largestTerm : List (LightSource × Nat) → LightSource × Nat
  | [] => (.base, 0)
  | t :: rest => rest.foldl (fun best u => if best.2 < u.2 then u else best) t

/-- The light request of zone z with its source (R134). -/
def Part.lightOf (s : Part) (z : Nat) : LightSource × Nat :=
  match (s.calZone z).lightOverride with
  | some o => (.override, o.level)
  | none => largestTerm (s.lightTerms z)

/-- The light request formed from Lr (R135). -/
def lightRequest (lr : Nat) : LightRequest := { level := lr, urgency := 10 * lr }

/-- The direct output duty for a light request when no LIGHT load is owned (R138). -/
def Zone.directDuty (zone : Zone) : Nat := if zone.cfg.dim.isSome then zone.lr else 0

/-- Lr is computed, and handed to the LIGHT load or driven directly (R135, R138); no request is handed before the zone's first
evaluation (R146). -/
def Part.computeLight (s : Part) (z : Nat) : Part :=
  let l := s.lightOf z
  let zone := { s.zone z with lr := l.2, lightSource := l.1 }
  if s.lb.count .light z = 0 then s.setZone z { zone with direct := zone.directDuty }
  else if zone.evaluated = false ∨ zone.handedLight = lightRequest l.2 then s.setZone z { zone with direct := 0 }
  else
    (s.setZone z { zone with direct := 0, handedLight := lightRequest l.2 }).hand (.light z (lightRequest l.2))

/-- The light guard as the phase and the presence timer give it (R136). -/
def Part.lightGuardOf (s : Part) (z : Nat) : Bool :=
  decide ((s.effective z).phase ≠ .idle) || (s.zone z).presence.isSome

/-- The light guard is judged, and handed when it changes (R136). -/
def Part.judgeLightGuard (s : Part) (z : Nat) : Part :=
  let zone := s.zone z
  let g := s.lightGuardOf z
  if zone.lightGuard = g then s else (s.setZone z { zone with lightGuard := g }).hand (.lightGuard z g)

/-- The presence timer of zone z is set, and the guard and Lr follow (R137). -/
def Part.withPresence (s : Part) (z : Nat) (left : Option Nat) : Part :=
  ((s.setZone z { s.zone z with presence := left }).judgeLightGuard z).computeLight z

/-- The zone conditioner is told of presence in zone z (R137). -/
def Part.takePresence (s : Part) (z : Nat) : Part := s.withPresence z (some (s.cal.running.header.presenceHold * 60))

/-! ### Curtains -/

/-- The outdoor reading, if there is one (R142). -/
def Part.outdoorReading (s : Part) : Option Int :=
  let ch := s.channel s.cal.running.header.outdoor
  if ch.known then some ch.value else none

/-- The curtain of an open undocked door is cold (R142). -/
def Part.curtainCold (s : Part) : Bool :=
  match s.outdoorReading with
  | none => true
  | some v => decide (v < s.cal.running.header.curtainThreshold)

/-- The curtain demand of an enabled station with its run-on, from its record and the run-on before (R140, R141).
DEDUCED (log 44). -/
def curtainDemand (st : Station) (runOn : Option Nat) (cold : Bool) (seconds : Nat) : Nat × Option Nat :=
  match st.state, st.door with
  | .present, .opened => if st.docked then (0, none) else (if cold then 2 else 1, none)
  | .present, .closed =>
    if runOn.isSome then (1, runOn)
    else if st.demand = 0 then (0, none)
    else if seconds = 0 then (0, none)
    else (1, some seconds)
  | _, _ => (st.demand, runOn)

/-- Station a's run-on timer. -/
def Part.runOn (s : Part) (a : Nat) : Option Nat := Tab.get s.zc.runOns (a - 1)

/-- The part with station a's run-on timer set. -/
def Part.setRunOn (s : Part) (a : Nat) (v : Option Nat) : Part :=
  { s with zc := { s.zc with runOns := Tab.put s.zc.runOns (a - 1) v } }

/-- The curtain heat request last handed for station a. -/
def Part.curtainHanded (s : Part) (a : Nat) : Bool := Tab.get s.zc.curtainHanded (a - 1)

/-- The part with station a's handed curtain heat request set. -/
def Part.setCurtainHanded (s : Part) (a : Nat) (v : Bool) : Part :=
  { s with zc := { s.zc with curtainHanded := Tab.put s.zc.curtainHanded (a - 1) v } }

/-- The curtain heat request of station a, from its demand (R143). -/
def Part.curtainRequest (s : Part) (a : Nat) : Bool := decide ((s.station a).demand = 2)

/-- The curtain heat request is handed when station a has a CURTAIN load and the request differs (R143). -/
def Part.handCurtain (s : Part) (a : Nat) : Part :=
  if s.lb.count .curtain a = 0 || decide (s.curtainHanded a = s.curtainRequest a) then s
  else (s.setCurtainHanded a (s.curtainRequest a)).hand (.curtain a (s.curtainRequest a))

/-- Station a's curtain demand and run-on are set; the heat request and the commanded outputs follow (R143, R145). -/
def Part.setDemand (s : Part) (a : Nat) (demand : Nat) (runOn : Option Nat) : Part :=
  (((s.setStation a { s.station a with demand := demand }).setRunOn a runOn).handCurtain a).formOutputs a

/-- The curtain demand of station a is computed (R140). -/
def Part.computeCurtain (s : Part) (a : Nat) : Part :=
  let r := curtainDemand (s.station a) (s.runOn a) s.curtainCold s.cal.running.header.runOn
  s.setDemand a r.1 r.2

/-- The enabled stations of zone z, in ascending address. -/
def Part.stationsOf (s : Part) (z : Nat) : List Nat :=
  addresses.filter fun a => (s.station a).enabled && decide ((s.station a).cfg.zone = z)

/-- The station record sets a demand to 0 and a run-on is cancelled; the heat request is withdrawn (R109, R140). -/
def Part.zeroDemand (s : Part) (a : Nat) : Part := s.setDemand a 0 none

/-! ### An evaluation -/

/-- Zone z is evaluated (R118). -/
def Part.evaluate (s : Part) (z : Nat) : Part :=
  let r := s.heatReading z
  let zone := s.zone z
  let s1 := (s.postLost z zone r).setZone z (zone.heat r)
  let s2 := (s1.handHeat z).computeLight z
  let s3 := s2.forEach (s2.stationsOf z) Part.computeCurtain
  s3.setZone z { s3.zone z with timer := s3.zc.interval }

/-! ### What other blocks tell the zone conditioner -/

/-- The calendar unit hands zone z its effective phase: a hand-off into IDLE clears I, the light guard is judged, and the
evaluation is due (R130, R136, R117). -/
def Part.takePhase (s : Part) (z : Nat) (before : Phase) : Part :=
  let into := decide ((s.effective z).phase = .idle) && decide (before ≠ .idle)
  let s1 := if into then s.setZone z { s.zone z with i := 0 } else s
  (s1.judgeLightGuard z).owe (.evaluate z)

/-- The freeze guard of zone z is set, and handed when it changes (R127). -/
def Part.setFreezeGuard (s : Part) (z : Nat) (stands : Bool) : Part :=
  if (s.zone z).guard = stands then s
  else (s.setZone z { s.zone z with guard := stands }).hand (.freezeGuard z stands)

/-- An edge into or out of ALARM_LOW on channel c: the zones that name it, ascending (R127). DEDUCED (log 55). -/
def Part.takeFreezeEdge (s : Part) (c : Nat) (alarm : Bool) : Part :=
  s.forEach (Tab.where s.zc.zones fun _ z => decide (z.cfg.channel = c)) fun s z => (s.setFreezeGuard z alarm).evaluate z

/-- Handed requests of stages above n are withdrawn. DEDUCED (log 48). -/
def withdrawAbove (n : Nat) (handed : Vector StageRequest 3) : Vector StageRequest 3 :=
  Tab.build 3 fun k => if k < n then Tab.get handed k else { on := false, urgency := 0 }

/-- Zone z's stage count has changed: S is cut, the stages above are withdrawn, and the zone is evaluated (R116). -/
def Part.takeStageCount (s : Part) (z : Nat) : Part :=
  let n := s.lb.count .heat z
  let zone := s.zone z
  (s.setZone z { zone with s := min zone.s n, handed := withdrawAbove n zone.handed }).evaluate z

/-- Zone z has gained a LIGHT load (R139); before the zone's first evaluation no request is handed (R146).
DESIGN CHOICE (log 71). -/
def Part.gainLight (s : Part) (z : Nat) : Part :=
  let zone := s.zone z
  if zone.evaluated then
    (s.setZone z { zone with handedLight := lightRequest zone.lr, direct := 0 }).hand (.light z (lightRequest zone.lr))
  else s.setZone z { zone with direct := 0 }

/-- Zone z has lost its LIGHT load (R139). -/
def Part.loseLight (s : Part) (z : Nat) : Part :=
  let zone := s.zone z
  s.setZone z { zone with handedLight := { level := 0, urgency := 0 }, direct := zone.directDuty }

/-- Station a has gained a CURTAIN load (R139); before the first evaluation of the station's zone no request is handed (R146).
DESIGN CHOICE (log 71). -/
def Part.gainCurtain (s : Part) (a : Nat) : Part :=
  if (s.zone (s.station a).cfg.zone).evaluated then
    (s.setCurtainHanded a (s.curtainRequest a)).hand (.curtain a (s.curtainRequest a))
  else s

/-- Station a has lost its CURTAIN load (R139). -/
def Part.loseCurtain (s : Part) (a : Nat) : Part := (s.setCurtainHanded a false).formOutputs a

/-- The run-on of station a expires (R141). -/
def Part.runOnExpires (s : Part) (a : Nat) : Part := s.setDemand a 0 none

end Sys2Proof.Machine
end

