-- ==== Sys2Proof/Machine/Air.lean ====
section
/-! DEFINITION. The air quality unit (08): membership (R147), the ladder and the hold (R148 to R151), and a group's demand
with its requests and alarm guard (R154 to R159). -/

namespace Sys2Proof.Machine

/-! ### Membership and level -/

/-- The AIR notice of a level change (R151): sort LEVEL, sent as 0, old level, new level, cause. DEDUCED (log 88). -/
def Part.postLevel (s : Part) (c old new : Nat) (cause : LevelCause) : Part :=
  s.post .air c (u8 0 ++ u8 old ++ u8 new ++ u8 cause.code)

/-- A member's level is set: a change posts AIR and makes its group's demand due (R151, R154). -/
def Part.setLevel (s : Part) (c level : Nat) (source : LevelSource) (cause : LevelCause) : Part :=
  let g := s.gasOf c
  let s1 := s.setGas c { g with level := level, source := source }
  if g.level = level then s1 else (s1.postLevel c g.level level cause).owe (.demand g.group)

/-- The demands of two groups are due, ascending, one of them when they are the same (R147, R114). -/
def Part.oweGroups (s : Part) (a b : Nat) : Part :=
  if a = b then s.owe (.demand a) else (s.owe (.demand (min a b))).owe (.demand (max a b))

/-- A channel's configuration makes it a member (08, "Gas channels"). -/
def ChanConfig.joins (c : ChanConfig) : Bool := c.enabled && decide (c.kind = .gas)

/-- Channel c's membership and group are taken up from the measurement unit's configuration (R147); a channel that leaves keeps
its last group and watch age. DESIGN CHOICE (log 72). -/
def Part.takeUp (s : Part) (c : Nat) : Part :=
  let cfg := (s.channel c).cfg
  let g := s.gasOf c
  if cfg.joins then
    if g.member then
      if g.group = cfg.group then s else (s.setGas c { g with group := cfg.group }).oweGroups g.group cfg.group
    else
      (s.setGas c { member := true, group := cfg.group, level := 0, source := .ladder, watch := 0 }).owe
        (.demand cfg.group)
  else if g.member then
    let s1 := s.setGas c { g with member := false, level := 0, source := .ladder }
    (if g.level = 0 then s1 else s1.postLevel c g.level 0 .config).owe (.demand g.group)
  else s

/-! ### Ladder and hold -/

/-- The age a hold judgement takes: the channel's valid age, or the watch age when that is none (R150). -/
def holdAge (age : Option Nat) (watch : Nat) : Nat := age.getD watch

/-- The hold judgement of member c whose channel is not VALID (R150). -/
def Part.judgeHold (s : Part) (c : Nat) (age : Option Nat) : Part :=
  let g := s.gasOf c
  if g.source ≠ .forced ∧ s.air.hold ≤ holdAge age g.watch then s.setLevel c 2 .forced .forced else s

/-- A level that is not FORCED takes source HELD (R149). -/
def Gas.held (g : Gas) : Gas := if g.source = .forced then g else { g with source := .held }

/-- A completed conversion of channel c is taken (R147, R148, R149). -/
def Part.takeGas (s : Part) (c : Nat) (value : Int) (validity : Validity) (age : Option Nat) : Part :=
  let s1 := s.takeUp c
  let g := s1.gasOf c
  if g.member then
    if validity = .valid then s1.setLevel c (gradeGas (s1.channel c).cfg g.level value) .ladder .ladder
    else (s1.setGas c g.held).judgeHold c age
  else s1

/-- The watch age of a member advances by one second (R150). -/
def Gas.tick (g : Gas) : Gas := if g.member then { g with watch := satAdd 65535 g.watch 1 } else g

/-- The hold check at one channel: membership, then the judgement by its record (R147, R150). -/
def Part.holdCheckAt (s : Part) (c : Nat) : Part :=
  let s1 := s.takeUp c
  if (s1.gasOf c).member && decide ((s1.channel c).validity ≠ .valid) then s1.judgeHold c (s1.channel c).age else s1

/-- The hold check of every second: watch ages advance, then every channel is judged, ascending (R150).
DESIGN CHOICE (log 26). -/
def Part.runHoldCheck (s : Part) : Part :=
  ({ s with air := { s.air with gas := Tab.each s.air.gas Gas.tick } }).forEach (List.range 20) Part.holdCheckAt

/-! ### A group's demand -/

/-- The levels of a group's member channels. -/
def AirQuality.levels (air : AirQuality) (g : Nat) : List Nat :=
  ((Tab.list air.gas).filter fun r => r.member && decide (r.group = g)).map (·.level)

/-- The highest level of a group's members, 0 when it has none (R155 step 1). -/
def AirQuality.highestLevel (air : AirQuality) (g : Nat) : Nat := highest (air.levels g)

/-- The ventilation minimum of zone z (R33, R155 step 2). -/
def Part.ventMinOf (s : Part) (z : Nat) : Nat := s.cal.running.ventMin (s.effective z)

/-- The highest ventilation minimum of a group's zones, 0 when it has none (R155 step 2). -/
def Part.highestVent (s : Part) (g : Nat) : Nat := highest ((zonesOfGroup (Tab.each s.zc.zones (·.cfg)) g).map s.ventMinOf)

/-- The group record after a computation: base, credit and demand cut to M (R155 steps 1 to 5, R156). -/
def Part.demandOf (s : Part) (g : Nat) : Group :=
  let r := s.group g
  let level := s.air.highestLevel g
  let base := max level (s.highestVent g)
  let credit := creditApplies base level r.credit (s.openCount g)
  { r with base := base, applied := credit, demand := min (if credit then 0 else base) (s.lb.count .fan g) }

/-- The request of fan stage k + 1 is handed when it differs from the one last handed (R157). -/
def Part.handFanStage (g : Nat) (s : Part) (k : Nat) : Part :=
  let r := s.group g
  let q := fanRequest r.demand (k + 1)
  if Tab.get r.handed k = q then s
  else (s.setGroup g { r with handed := Tab.put r.handed k q }).hand (.fan g (k + 1) q)

/-- The alarm guard is judged; a change is handed and posts AIR of sort GUARD, sent as 1 (R159). DEDUCED (log 88). -/
def Part.judgeAlarm (s : Part) (g : Nat) : Part :=
  let r := s.group g
  let stands := decide (s.air.highestLevel g = 3)
  if r.guard = stands then s
  else
    ((s.setGroup g { r with guard := stands }).hand (.alarmGuard g stands)).post .air g
      (u8 1 ++ flagByte r.guard ++ flagByte stands ++ u8 r.demand)

/-- Group g's demand is computed, its requests handed, then its guard (R155, R157, R159). -/
def Part.computeDemand (s : Part) (g : Nat) : Part :=
  ((s.setGroup g (s.demandOf g)).forEach (List.range (s.lb.count .fan g)) (Part.handFanStage g)).judgeAlarm g

/-- Group g's stage count has changed: handed requests above it are withdrawn and the demand is computed (R153).
DEDUCED (log 48). -/
def Part.takeFanCount (s : Part) (g : Nat) : Part :=
  let r := s.group g
  (s.setGroup g { r with handed := withdrawAbove (s.lb.count .fan g) r.handed }).computeDemand g

end Sys2Proof.Machine
end

