-- ==== Sys2Proof/Machine/Timeline.lean ====
section
/-! DEFINITION. The calendar unit's events (02) and the shift clock's (01): resolution and hand-offs (R32, R34), overrides (R35
to R38), the limit window (R39, R40), the minute boundary (R26, R32), the cycle, the mark and the period start (R1 to
R9). -/

namespace Sys2Proof.Machine

/-! ### Hand-offs of a phase -/

/-- Profile byte of a notice: none is the idle code 0xFF. -/
def profileByte (p : Option Nat) : List Byte := u8? p

/-- The hand-off from an old to a new effective standing is marked as a shift start (R34). -/
def shiftStart (old new : Standing) : Bool :=
  decide (new.phase = .active) && (decide (old.phase ≠ .active) || decide (old.source ≠ new.source))

/-- The PHASE notice of zone z (R34). -/
def Part.postPhase (s : Part) (z : Nat) (old : Standing) : Part :=
  let new := s.effective z
  s.post .phase z (u8 old.phase.code ++ u8 new.phase.code ++ profileByte new.profile ++ u8 new.source.code)

/-- Zone z is handed to the zone conditioner, the air quality unit and the door line controller (R34). -/
def Part.handPhase (s : Part) (z : Nat) (old : Standing) : Part :=
  let new := s.effective z
  ((s.takePhase z old.phase).owe (.demand (s.zone z).cfg.group)).owe
    (.doorLimit z (s.cal.running.doorLimit new) (shiftStart old new))

/-- Zone z after its effective standing was set: handed when it changed or always at a commit, PHASE when it changed
(R34). -/
def Part.handZone (s : Part) (z : Nat) (old : Standing) (always : Bool) : Part :=
  if s.effective z = old then (if always then s.handPhase z old else s) else (s.handPhase z old).postPhase z old

/-- Every zone in ascending order, against the standings last handed (R34). -/
def Part.handZones (s : Part) (old : Vector CalZone 12) (always : Bool) : Part :=
  s.forEach (List.range 12) fun s z => s.handZone z (Tab.get old z).effective always

/-! ### The limit window -/

/-- The active window limit is computed, and handed to the load budget when it changed (R39, R40). -/
def Part.recomputeWindow (s : Part) : Part :=
  let w := s.cal.running.activeWindow s.clock.state s.clock.weekMinute
  let limit := w.map (·.1)
  let s1 := { s with cal := { s.cal with activeWindow := w, handedLimit := limit } }
  if limit = s.cal.handedLimit then s1 else s1.handWindow limit

/-! ### Overrides -/

/-- The OVERRIDE_END notice of zone z (R38): sort, reason, the override's phase or level, and the effective phase as it stands
when the notice is posted, which is the phase after the end. -/
def Part.postOverrideEnd (s : Part) (z : Nat) (light cancelled : Bool) (what : Nat) : Part :=
  s.post .overrideEnd z (flagByte light ++ flagByte cancelled ++ u8 what ++ u8 (s.effective z).phase.code)

/-- A countdown after one boundary; none when it has run out (R38). -/
def countdown (minutes : Nat) : Option Nat := if minutes ≤ 1 then none else some (minutes - 1)

/-- A phase override after one boundary. -/
def PhaseOverride.pass (o : PhaseOverride) : Option PhaseOverride :=
  (countdown o.minutes).map fun m => { o with minutes := m }

/-- A light override after one boundary. -/
def LightOverride.pass (o : LightOverride) : Option LightOverride :=
  (countdown o.minutes).map fun m => { o with minutes := m }

/-- A zone's record with its calendar phase resolved and its effective standing set from it (R30 to R32). -/
def CalZone.resolved (r : CalZone) (st : Standing) : CalZone :=
  { r with calendar := st, effective := effectiveOf st r.phaseOverride }

/-- A zone's record after one boundary: countdowns first, then resolution (R32, R38). -/
def CalZone.boundary (r : CalZone) (st : Standing) : CalZone :=
  CalZone.resolved
    { r with
      phaseOverride := r.phaseOverride.bind PhaseOverride.pass
      lightOverride := r.lightOverride.bind LightOverride.pass } st

/-- The calendar phase of zone z with the clock as it stands. -/
def Part.calendarPhase (s : Part) (z : Nat) : Standing := s.cal.running.resolve s.clock.state z s.clock.weekMinute

/-- Every zone resolved, none handed yet (R32). -/
def Part.resolveZones (s : Part) : Part :=
  { s with cal := { s.cal with zones := Tab.build 12 fun z => (s.calZone z).resolved (s.calendarPhase z) } }

/-- Every zone counted down and resolved, none handed yet (R32, R38). -/
def Part.passZones (s : Part) : Part :=
  { s with cal := { s.cal with zones := Tab.build 12 fun z => (s.calZone z).boundary (s.calendarPhase z) } }

/-- The ends of zone z's overrides at a boundary: OVERRIDE_END of a phase override, then of a light override with the
evaluation its end starts (R38, R117). They are posted after the zones are resolved, so both carry the phase just resolved: R38
says so of a phase override. For a light override it is a DESIGN CHOICE (log 98), since R32 ends the overrides before it
resolves and R38 gives the phase "after the end". -/
def Part.noteEnds (s : Part) (z : Nat) (old : CalZone) : Part :=
  let now := s.calZone z
  let s1 := match old.phaseOverride, now.phaseOverride with
    | some o, none => s.postOverrideEnd z false false o.kind.phase.code
    | _, _ => s
  match old.lightOverride, now.lightOverride with
  | some o, none => (s1.postOverrideEnd z true false o.level).owe (.evaluate z)
  | _, _ => s1

/-- The phase override of zone z is set, and the zone handed when it changed (R35). -/
def Part.setPhaseOverride (s : Part) (z : Nat) (o : PhaseOverride) : Part :=
  let r := s.calZone z
  (s.setCalZone z { r with phaseOverride := some o, effective := effectiveOf r.calendar (some o) }).handZone z r.effective
    false

/-- The phase override of zone z ends by cancel: the zone is resolved at that moment (R37, R38). -/
def Part.cancelPhase (s : Part) (z : Nat) (o : PhaseOverride) : Part :=
  let r := s.calZone z
  ((s.setCalZone z ({ r with phaseOverride := none }.resolved (s.calendarPhase z))).postOverrideEnd z false true
    o.kind.phase.code).handZone z r.effective false

/-- The light override of zone z is set; its evaluation is due (R36, R117). -/
def Part.setLightOverride (s : Part) (z : Nat) (o : LightOverride) : Part :=
  (s.setCalZone z { s.calZone z with lightOverride := some o }).owe (.evaluate z)

/-- The light override of zone z ends by cancel (R37, R38). -/
def Part.cancelLight (s : Part) (z : Nat) (o : LightOverride) : Part :=
  ((s.setCalZone z { s.calZone z with lightOverride := none }).postOverrideEnd z true true o.level).owe (.evaluate z)

/-! ### The minute boundary in the calendar unit -/

/-- A pending commit is applied: the edit copy becomes the running copy and the editor goes to NO_EDIT (R26). -/
def Calendar.commit (c : Calendar) : Calendar :=
  match c.editor with
  | .pending copy => { c with running := copy, editor := .noEdit }
  | _ => c

/-- The editor is PENDING. -/
def Editor.isPending : Editor → Bool
  | .pending _ => true
  | _ => false

/-- The zones whose effective standing differs from an older table. -/
def Part.changedZones (s : Part) (old : Vector CalZone 12) : List Nat :=
  (List.range 12).filter fun z => decide (s.effective z ≠ (Tab.get old z).effective)

/-- The CALENDAR notice of a commit (R26). -/
def Part.postCalendar (s : Part) (changed : Nat) : Part :=
  s.post .calendar 0
    (u8 ((Tab.list s.cal.running.shifts).filter (·.inUse)).length ++
      u8 ((Tab.list s.cal.running.windows).filter (·.inUse)).length ++ u8 changed ++ u8 s.clock.state.code)

/-- The calendar unit's work at a minute boundary, in the order of R32: commit, countdowns and ends, resolution, hand-offs and
notices, limit window. A commit sets unsaved changes (R191). DESIGN CHOICE (log 24, 98). -/
def Part.boundary (s : Part) : Part :=
  let old := s.cal.zones
  let commits := s.cal.editor.isPending
  let s1 := ({ s with cal := s.cal.commit }).passZones
  let s2 := if commits then (s1.postCalendar (s1.changedZones old).length).markUnsaved else s1
  let s3 := s2.forEach (List.range 12) fun s z => s.noteEnds z (Tab.get old z)
  (s3.handZones old commits).recomputeWindow

/-! ### The clock -/

/-- Tb and its source from channel 20, with the board memory afterwards (R6). -/
def boardTemperature (ch : Channel) (memory : Option Int) : Int × TbSource × Option Int :=
  match ch.validity with
  | .valid => (ch.value, .live, some ch.value)
  | .suspect => (ch.value, .held, some ch.value)
  | .fault => (ch.value, .held, some ch.value)
  | .unseen =>
    match memory with
    | some v => (v, .held, some v)
    | none => (0, .absent, none)

/-- A compensation period starts: Tb is taken, Cv computed, trim changed cleared, and mark 0 raised (R5, R6, R7, R8). -/
def Clock.startPeriod (c : Clock) (ch : Channel) : Clock :=
  let t := boardTemperature ch c.boardMemory
  let raw := compensation c.trimA c.trimKq c.trimT0 t.1 t.2.1
  let cv := clampCv raw
  { c with
    tb := t.1, tbSource := t.2.1, boardMemory := t.2.2, cv := cv, cvClamped := decide (cv ≠ raw), trimChanged := false
    mark := 0, correction := correctionFor 0 cv }

/-- A quarter-second mark is raised (R4, R5, R8). -/
def Clock.raiseMark (c : Clock) (ch : Channel) : Clock :=
  if c.mark + 1 < Config.marksPerPeriod then
    { c with mark := c.mark + 1, correction := correctionFor (c.mark + 1) c.cv }
  else c.startPeriod ch

/-- n marks are raised one after another. -/
def Clock.raiseMarks (ch : Channel) : Nat → Clock → Clock
  | 0, c => c
  | n + 1, c => raiseMarks ch n (c.raiseMark ch)

/-- Ticks the tick advances by on the next crystal cycle (R1, R8). -/
def Correction.advance : Correction → Nat
  | .plain => 1
  | .add => 2
  | .withhold => 0

/-- The second advances; past 59 the week minute advances with it, and the day count at a midnight (R2). -/
def Clock.advanceSecond (c : Clock) : Clock :=
  if c.second < 59 then { c with second := c.second + 1 }
  else
    let m := (c.weekMinute + 1) % Config.minutesPerWeek
    { c with
      second := 0, weekMinute := m
      dayCount := if m % Config.minutesPerDay = 0 then (c.dayCount + 1) % 65536 else c.dayCount }

/-- The count after one crystal cycle, before the mark it may raise (R1, R2). -/
def Clock.count (c : Clock) : Clock :=
  let t := c.tick + c.correction.advance
  let c' := { c with correction := .plain }
  if t < Config.ticksPerSecond then { c' with tick := t }
  else { c' with tick := t - Config.ticksPerSecond }.advanceSecond

/-- The next crystal cycle raises a mark: it carries the tick into a new quarter of the second (R4). -/
def Clock.marks (c : Clock) : Bool :=
  decide (c.tick / Config.ticksPerQuarter ≠ (c.tick + c.correction.advance) / Config.ticksPerQuarter)

/-- The next crystal cycle wraps the second past 59: a minute boundary (R2). -/
def Clock.wraps (c : Clock) : Bool :=
  decide (Config.ticksPerSecond ≤ c.tick + c.correction.advance) && decide (59 ≤ c.second)

/-- The clock after one crystal cycle, its mark raised when it raises one. -/
def Clock.cycle (c : Clock) (ch : Channel) : Clock := if c.marks then c.count.raiseMark ch else c.count

/-- Channel 20, the internal board temperature. -/
def Part.boardChannel (s : Part) : Channel := s.channel 20

/-- One crystal cycle (R1): the count, the mark it may raise, and the minute boundary it may hand on. -/
def Part.cycle (s : Part) : Part :=
  let s1 := { s with clock := s.clock.cycle s.boardChannel }
  if s.clock.wraps then s1.boundary else s1

/-- The clock on the last crystal cycle before the next mark, any correction of the last mark applied on the way.
DESIGN CHOICE (log 33). -/
def Clock.toQuarterEnd (c : Clock) : Clock :=
  { c with
    tick := c.tick / Config.ticksPerQuarter * Config.ticksPerQuarter + (Config.ticksPerQuarter - 1), correction := .plain }

/-- Marks between the clock as it stands and the minute boundary, the boundary's own mark apart. -/
def Clock.marksLeft (c : Clock) : Nat := (59 - c.second) * 4 + (3 - c.tick / Config.ticksPerQuarter)

/-- The clock on the last crystal cycle before the next minute boundary, the marks between raised.
DESIGN CHOICE (log 33). -/
def Clock.toMinuteEnd (c : Clock) (ch : Channel) : Clock :=
  { Clock.raiseMarks ch c.marksLeft c with second := 59, tick := Config.ticksPerSecond - 1, correction := .plain }

/-- The clock is set and a new period started (R11 steps 2 to 4). -/
def Clock.set (c : Clock) (m sec days : Nat) (ch : Channel) : Clock :=
  { c with weekMinute := m, second := sec, dayCount := days, tick := 0, state := .running }.startPeriod ch

/-- SET_CLOCK is taken with its values clamped: the set, the resolution with its hand-offs, and the CLOCK notice with the time
held before (R11, R15). -/
def Part.setClock (s : Part) (m sec days : Nat) : Part :=
  let old := s.cal.zones
  let s1 := ({ s with clock := s.clock.set m sec days s.boardChannel }).resolveZones
  ((s1.handZones old false).recomputeWindow).post .clock 0
    (u8 s.clock.state.code ++ u16 s.clock.weekMinute ++ u8 s.clock.second)

end Sys2Proof.Machine
end

