-- ==== Sys2Proof/Machine/Measure.lean ====
section
/-! DEFINITION. Replies joining the reply list (R185, R188, R190), and the measurement unit (03): the processing of a result
(R53 to R61), written changes (R44, R45), the priority list (R50) and MEASURE (R52). -/

namespace Sys2Proof.Machine

/-! ### Replies -/

/-- The body of the reply to a request of a tag and kind (R185); a deferred request has none yet. -/
def Verdict.body (tag kind : Byte) : Verdict → List Byte
  | .done cut data => Config.doneKind :: tag :: kind :: cut :: data
  | .refused code field => Config.refusedKind :: tag :: kind :: code.byte :: u8 field
  | .deferred => []

/-- A reply that has become ready joins the reply list, or waits outside it while it is full (R190); the reply being sent
counts for no place. DESIGN CHOICE (log 100). -/
def Link.ready (l : Link) (r : Reply) : Link :=
  if l.replies.length < Config.replyPlaces ∧ l.waiting = [] then { l with replies := l.replies ++ [r] }
  else { l with waiting := l.waiting ++ [r] }

/-- The reply formed from a verdict. -/
def Verdict.reply (v : Verdict) (tag kind : Byte) (ofHand : Bool) : Reply :=
  { tag := tag, kind := kind, body := v.body tag kind, ofHand := ofHand }

/-- The deferred MEASURE is answered, and none is outstanding afterwards (R52, R188). -/
def Part.answerMeasure (s : Part) (v : Verdict) : Part :=
  let s1 := { s with mu := { s.mu with outstanding := none } }
  match s.link.deferredMeasure with
  | none => s1
  | some tag => { s1 with link := { s.link with deferredMeasure := none }.ready (v.reply tag 0x13 false) }

/-! ### From raw result to value -/

/-- The raw result of an input voltage in nanovolts at a gain (R46): full scale is 2.5 V over the gain.
DESIGN CHOICE (log 27). -/
def rawOf (nanovolts : Int) (gain : Gain) : Nat := (clampZ 0 4095 (nanovolts * gain.doubled * 4096 / 5000000000)).toNat

/-- A raw result is bad under a configuration (R53). -/
def badRaw (cfg : ChanConfig) (raw : Nat) : Bool := cfg.rail && (decide (raw = 0) || decide (raw = 4095))

/-- The value contribution of a raw result (R53). -/
def scaled (cfg : ChanConfig) (raw : Nat) : Int :=
  cfg.scaleLo + roundQuot ((cfg.scaleHi - cfg.scaleLo) * (raw : Int)) 4095

/-- A history with a value appended, cut to a depth from its oldest end (R53). -/
def pushHistory (history : List Int) (v : Int) (depth : Nat) : List Int :=
  let h := history ++ [v]
  h.drop (h.length - depth)

/-- The filter result: the rounded mean of a history (R54). -/
def filterMean (history : List Int) : Int := roundQuot history.sum history.length

/-- The record after a bad raw result (R53, R55). -/
def Channel.takeBad (ch : Channel) (raw : Nat) : Channel :=
  let bad := satAdd 255 ch.badRun 1
  { ch with lastRaw := raw, badRun := bad, goodRun := 0, validity := ch.validity.afterBad bad }

/-- The record after a good raw result under the configuration its conversion started with (R53 to R55), the window still to
be judged. -/
def Channel.takeGood (ch : Channel) (cfg : ChanConfig) (raw : Nat) : Channel :=
  let good := satAdd 255 ch.goodRun 1
  let history := pushHistory ch.history (scaled cfg raw) cfg.depth.count
  let validity := ch.validity.afterGood good
  let base := { ch with lastRaw := raw, badRun := 0, goodRun := good, history := history, validity := validity }
  if validity = .valid then { base with value := filterMean history, known := true, age := some 0 } else base

/-- The record with its window state moved, the edge latched (R59). -/
def Channel.moveWindow (ch : Channel) (w : WindowState) : Channel :=
  if ch.window = w then ch
  else if w = .clear then { ch with window := w, left := true }
  else { ch with window := w, entered := true }

/-- The record after the window detector (R57): evaluated when the channel is VALID. -/
def Channel.judged (ch : Channel) : Channel :=
  if ch.validity = .valid then ch.moveWindow (judgeWindow ch.cfg ch.window ch.value) else ch

/-- The record after a completed conversion with a raw result. -/
def Channel.complete (ch : Channel) (cfg : ChanConfig) (raw : Nat) : Channel :=
  (if badRaw cfg raw then ch.takeBad raw else ch.takeGood cfg raw).judged

/-! ### Notices and hand-offs of a result -/

/-- The SENSOR notice of a move of validity, when it is one that posts (R56). -/
def Part.noteSensor (s : Part) (c : Nat) (old new : Validity) : Part :=
  if (new = .fault ∧ old ≠ .fault) ∨ (old = .fault ∧ new ≠ .fault) then
    s.post .sensor c (u8 old.code ++ u8 new.code ++ u16 (s.channel c).lastRaw)
  else s

/-- The WINDOW notice of an edge (R59). -/
def Part.noteWindow (s : Part) (c : Nat) (old new : WindowState) : Part :=
  if old = new then s else s.post .window c (u8 old.code ++ u8 new.code ++ i16 (s.channel c).value)

/-- An edge into or out of ALARM_LOW on channels 0..19 is told to the zone conditioner (R59). -/
def Part.tellEdge (s : Part) (c : Nat) (old new : WindowState) : Part :=
  if c < 20 ∧ decide (old = .low) ≠ decide (new = .low) then s.owe (.freezeEdge c (decide (new = .low))) else s

/-- The data of a DONE reply to MEASURE (R52). -/
def Part.measureData (s : Part) (c : Nat) : List Byte :=
  let ch := s.channel c
  u8 c ++ u16 ch.lastRaw ++ i16 ch.value ++ u8 ch.validity.code ++ u8 ch.badRun ++ u8 ch.goodRun ++ u8 ch.window.code

/-- The result of a conversion of channel c is handed to the air quality unit when the conversion was of a GAS channel
(R42, R61). -/
def Part.tellGas (s : Part) (cfg : ChanConfig) (c : Nat) : Part :=
  let ch := s.channel c
  if cfg.kind = .gas then s.owe (.gas c ch.value ch.validity ch.age) else s

/-- The converter takes its next conversion (R48). -/
def Part.nextConversion (s : Part) : Part := { s with mu := { s.mu with converter := none }.chooseNext }

/-- A conversion that was not discarded is processed (R61). -/
def Part.processResult (s : Part) (v : Conversion) (nanovolts : Int) : Part :=
  let c := v.channel
  let old := s.channel c
  let new := old.complete v.cfg (rawOf nanovolts v.cfg.gain)
  let s1 := ((s.setChannel c new).noteSensor c old.validity new.validity).noteWindow c old.window new.window
  let s2 := if v.measure then s1.answerMeasure (.done 0 (s1.measureData c)) else s1
  (s2.tellGas v.cfg c).tellEdge c old.window new.window

/-- The conversion in flight completes with an input voltage; a discarded result touches no record (R45, R61). -/
def Part.completeConversion (s : Part) (nanovolts : Int) : Part :=
  match s.mu.converter with
  | none => s
  | some v => (if v.discard then s else s.processResult v nanovolts).nextConversion

/-! ### The priority list -/

/-- A channel stands in the priority list. -/
def Measurement.listed (m : Measurement) (c : Nat) : Bool := m.priority.any fun e => decide (e.channel = c)

/-- A request for a channel goes to the priority list: merged, joined to the tail and taken at once by an idle converter, or
none when the list is full (R50). -/
def Measurement.request (m : Measurement) (c : Nat) (measure : Bool) : Option Measurement :=
  if m.listed c then
    some { m with
      priority := m.priority.map fun e => if e.channel = c then { e with measure := e.measure || measure } else e }
  else if m.priority.length < Config.priorityPlaces then
    let m' := { m with priority := m.priority ++ [{ channel := c, measure := measure }] }
    some (if m.converter.isNone then m'.chooseNext else m')
  else none

/-- The fast-scan timer's request for one channel, dropped by a full list (R50, R51). -/
def Part.fastRequest (s : Part) (c : Nat) : Part :=
  let g := s.gasOf c
  if (s.channel c).cfg.joins && g.member && decide (2 ≤ g.level) then
    { s with mu := (s.mu.request c false).getD s.mu }
  else s

/-! ### Written changes -/

/-- A change of gain, scaling or depth sets history clear pending (R44). -/
def clearsHistory (old new : ChanConfig) : Bool :=
  decide (old.gain ≠ new.gain) || decide (old.scaleLo ≠ new.scaleLo) || decide (old.scaleHi ≠ new.scaleHi) ||
    decide (old.depth ≠ new.depth)

/-- A window field has changed (R44). -/
def changesWindow (old new : ChanConfig) : Bool :=
  decide (old.windowOn ≠ new.windowOn) || decide (old.inside ≠ new.inside) || decide (old.lo ≠ new.lo) ||
    decide (old.hi ≠ new.hi) || decide (old.lowHyst ≠ new.lowHyst) || decide (old.highHyst ≠ new.highHyst)

/-- A change of kind, group or ladder of a channel that is GAS before or after (R44). -/
def changesGas (old new : ChanConfig) : Bool :=
  (decide (old.kind = .gas) || decide (new.kind = .gas)) &&
    (decide (old.kind ≠ new.kind) || decide (old.group ≠ new.group) || decide (old.t1 ≠ new.t1) ||
      decide (old.t2 ≠ new.t2) || decide (old.t3 ≠ new.t3) || decide (old.rise ≠ new.rise) || decide (old.fall ≠ new.fall))

/-- The window state of channel c returns to CLEAR with cause CONFIG (R44). -/
def Part.clearWindow (s : Part) (c : Nat) : Part :=
  let ch := s.channel c
  ((s.setChannel c (ch.moveWindow .clear)).noteWindow c ch.window .clear).tellEdge c ch.window .clear

/-- A record's dynamic part at the disabling of its channel, the window apart (R45). -/
def Channel.disabled (ch : Channel) : Channel :=
  { ch with validity := .unseen, known := false, history := [], clearPending := false, badRun := 0, goodRun := 0, age := none }

/-- The unit with the priority entry of channel c removed and its conversion in flight marked to be discarded (R45). -/
def Measurement.forget (m : Measurement) (c : Nat) : Measurement :=
  { m with
    priority := m.priority.filter fun e => decide (e.channel ≠ c)
    converter := m.converter.map fun v => if v.channel = c then { v with discard := true, measure := false } else v }

/-- Channel c has been disabled: its record, notices, entries and MEASURE (R45). -/
def Part.disableChannel (s : Part) (c : Nat) : Part :=
  let s1 := s.clearWindow c
  let ch := s1.channel c
  let s2 := (s1.setChannel c ch.disabled).noteSensor c ch.validity .unseen
  let s3 := { s2 with mu := s2.mu.forget c }
  if s3.mu.outstanding = some c then s3.answerMeasure (.refused .state 1) else s3

/-- An accepted configuration is stored in channel c with the effects of its changed fields (R44, R45, R147), the notices of a
disabling in the order WINDOW, SENSOR, AIR. DESIGN CHOICE (log 24). -/
def Part.writeChannel (s : Part) (c : Nat) (cfg : ChanConfig) : Part :=
  let ch := s.channel c
  let old := ch.cfg
  let s1 := s.setChannel c { ch with cfg := cfg, clearPending := ch.clearPending || clearsHistory old cfg }
  let s2 :=
    if old.enabled && !cfg.enabled then s1.disableChannel c
    else if changesWindow old cfg then s1.clearWindow c
    else s1
  if changesGas old cfg || (decide (old.kind = .gas) && old.enabled && !cfg.enabled) then s2.takeUp c else s2

/-! ### MEASURE -/

/-- MEASURE of a channel 0..20 (R52). -/
def Part.measure (s : Part) (c : Nat) : Part × Verdict :=
  if !(s.channel c).cfg.enabled then (s, .refused .state 1)
  else if s.mu.outstanding.isSome then (s, .refused .busy 0)
  else
    match s.mu.request c true with
    | none => (s, .refused .busy 0)
    | some m => ({ s with mu := { m with outstanding := some c } }, .deferred)

end Sys2Proof.Machine
end

