-- ==== Sys2Proof/Machine/Stations.lean ====
section
/-! DEFINITION. The station and door records (05): door changes (R104), the open watch (R107), changes of station state (R93 to
R96), what a frame or an answer does to its record (R98 to R102), and hand-offs of a phase (R106, R108). -/

namespace Sys2Proof.Machine

/-! ### Notices -/

/-- Last frame result byte of a STATION notice: none is all ones. -/
def resultByte (r : Option RxResult) : List Byte := u8? (r.map RxResult.code)

/-- A STATION notice with its fourth detail byte (R110). -/
def Part.postStation (s : Part) (a : Nat) (old new : StationState) (cause : StationCause) (last : List Byte) : Part :=
  s.post .station a (u8 old.code ++ u8 new.code ++ u8 cause.code ++ last)

/-- A STATION notice of a change of state (R110), its fourth byte the last frame result. -/
def Part.postStationMove (s : Part) (a : Nat) (old : StationState) (cause : StationCause) : Part :=
  let st := s.station a
  s.postStation a old st.state cause (resultByte st.lastResult)

/-- The DOOR notice of a change from an old record (R110). -/
def Part.postDoor (s : Part) (a : Nat) (old : Station) : Part :=
  let st := s.station a
  s.post .door a
    (u8 old.door.code ++ u8 st.door.code ++ u8 ((if old.docked then 2 else 0) + (if st.docked then 1 else 0)) ++
      u8 st.cfg.zone)

/-! ### The open watch -/

/-- The door-open limit held for zone z, minutes. -/
def DoorLine.limit (d : DoorLine) (z : Nat) : Nat := Tab.get d.limits z

/-- The open watch of a record stands at or above a limit in minutes, and no notice has been sent for the opening (R107). -/
def Station.overLimit (st : Station) (minutes : Nat) : Bool :=
  match st.watch with
  | some w => decide (minutes * 60 ≤ w) && !st.limitSent
  | none => false

/-- Station a's open watch is judged against its zone's limit (R107). -/
def Part.judgeWatch (s : Part) (a : Nat) : Part :=
  let st := s.station a
  let minutes := s.dl.limit st.cfg.zone
  if st.overLimit minutes then
    (s.setStation a { st with limitSent := true }).post .doorOpenLong a
      (u8 st.cfg.zone ++ u8 minutes ++ u16 (st.watch.getD 0 / 60))
  else s

/-! ### A door change -/

/-- The clock as an opening records it (R104). -/
def Clock.openedAt (c : Clock) : OpenedAt :=
  let set := decide (c.state = .running)
  { weekMinute := if set then c.weekMinute else 0, second := if set then c.second else 0, clockSet := set }

/-- The record with an opening counted when the door goes from CLOSED to OPEN (R104 step 1). -/
def Station.countOpening (st : Station) (door : DoorState) (now : OpenedAt) : Station :=
  if st.door = .closed ∧ door = .opened then
    { st with opens := satAdd 65535 st.opens 1, openedAt := some now, limitSent := false }
  else st

/-- The watch after a change of door state or docked status (R104 step 2, R107). -/
def Station.watchAfter (st : Station) (door : DoorState) (docked : Bool) : Option Nat :=
  if door = .opened ∧ docked = false then (if st.door = .opened ∧ st.docked = false then st.watch else some 0) else none

/-- The record with its door state and docked status changed (R104 steps 1 and 2). -/
def Station.moveDoor (st : Station) (door : DoorState) (docked : Bool) (now : OpenedAt) : Station :=
  { st.countOpening door now with door := door, docked := docked, watch := st.watchAfter door docked }

/-- The watch of a record has just started: it is judged as it starts (R107). -/
def Station.watchStarts (st : Station) (door : DoorState) (docked : Bool) : Bool :=
  decide (door = .opened) && !docked && !(decide (st.door = .opened) && !st.docked)

/-- A change of station a's door state or docked status (R104): record, watch, DOOR notice, and what the zone conditioner and
the air quality unit are told. The commanded outputs are formed afresh (R145). -/
def Part.changeDoor (s : Part) (a : Nat) (door : DoorState) (docked : Bool) : Part :=
  let st := s.station a
  if st.door = door ∧ st.docked = docked then s
  else
    let s1 := s.setStation a (st.moveDoor door docked s.clock.openedAt)
    let s2 := if st.watchStarts door docked then s1.judgeWatch a else s1
    let s3 := (s2.postDoor a st).owe (.evaluate st.cfg.zone)
    (s3.owe (.demand (s.zone st.cfg.zone).cfg.group)).formOutputs a

/-- Station a's door goes UNKNOWN (R94, R96, R83). -/
def Part.loseDoor (s : Part) (a : Nat) : Part := s.changeDoor a .unknown false

/-! ### Changes of station state -/

/-- A station heard: it becomes PRESENT, or stays so, its silence timer started with the silence timeout (R95). -/
def Part.hear (s : Part) (a : Nat) (cause : StationCause) : Part :=
  let st := s.station a
  let s1 := s.setStation a { st with state := .present, silence := some s.dl.timeout, noAnswers := 0 }
  if st.state = .present then s1 else s1.postStationMove a st.state cause

/-- A PRESENT station becomes SILENT (R96). -/
def Part.silence (s : Part) (a : Nat) (cause : StationCause) : Part :=
  let st := s.station a
  if st.state = .present then
    ((s.setStation a { st with state := .silent, silence := none }).postStationMove a .present cause).loseDoor a
  else s

/-- A station is enabled: ABSENT, and a QUERY is requested for it (R93). -/
def Part.enableStation (s : Part) (a : Nat) : Part :=
  let st := s.station a
  let s1 := s.setStation a { st with cfg := { st.cfg with enabled := true }, state := .absent }
  { s1 with dl := (s1.dl.requestQuery a).1 }

/-- The record of a disabled station, its door and demand apart (R94). -/
def Station.disabled (st : Station) : Station :=
  { st with
    cfg := { st.cfg with enabled := false }, state := .disabled, silence := none, noAnswers := 0, stationType := none
    revision := none, reported := none, condition := none, pending := false }

/-- The queue at the disabling of station a: its waiting entry leaves, an entry in flight is marked (R74, R88). -/
def DoorLine.disableEntry (d : DoorLine) (a : Nat) : DoorLine :=
  DoorLine.leave
    { d with queue := d.queue.map fun e => if e.address = a ∧ e.inFlight then { e with orphan := true } else e }
    fun e => decide (e.address = a) && !e.inFlight

/-- A station is disabled (R94, R88). -/
def Part.disableStation (s : Part) (a : Nat) : Part :=
  let st := s.station a
  let s1 := s.setStation a st.disabled
  let s2 := { s1 with dl := s1.dl.disableEntry a }
  let s3 := if st.state = .present then s2.postStationMove a .present .disabled else s2
  (s3.loseDoor a).zeroDemand a

/-- A line clear's effect on one enabled station: ABSENT, its door UNKNOWN, its demand 0 (R83, R112). The commanded outputs are
formed afresh at these changes; the outputs last formed are kept, no answer or payload being formed. DESIGN CHOICE (log 95). -/
def Part.clearStation (s : Part) (a : Nat) : Part :=
  let st := s.station a
  if st.enabled then
    let s1 := s.setStation a { st with state := .absent, silence := none }
    let s2 := if st.state = .present then s1.postStationMove a .present .lineClear else s1
    (s2.loseDoor a).zeroDemand a
  else s

/-- The controller's own part of a line clear's effects (R83 steps 1 to 3). -/
def DoorLine.cleared (d : DoorLine) : DoorLine :=
  { d with
    queue := [], sending := none, answering := none
    stations := Tab.each d.stations fun st => { st with pending := false, noAnswers := 0 } }

/-- The effects of a line clear, sent or received (R83). -/
def Part.lineClear (s : Part) : Part := ({ s with dl := s.dl.cleared }).forEach addresses Part.clearStation

/-! ### What a door byte does -/

/-- The position a door byte reports. -/
def positionOf (b : Byte) : Position :=
  match (b.toNat / 64) % 4 with
  | 0 => .closed
  | 1 => .moving
  | 2 => .opened
  | _ => .fault

/-- The fields of a door byte; a stage field of 3 is stored as stage 2 and bit 0 is ignored (R203). -/
def reportedOf (b : Byte) : Reported :=
  { position := positionOf b, trailer := b.getLsbD 5, restraint := b.getLsbD 4, stage := min 2 ((b.toNat / 4) % 4)
    light := b.getLsbD 1 }

/-- The door state of a PRESENT station by its position (R98). -/
def Reported.door (r : Reported) : DoorState :=
  match r.position with
  | .closed => .closed
  | .moving => .opened
  | .opened => .opened
  | .fault => .unknown

/-- The docked status a PRESENT station's fields give (R98). -/
def Reported.docked (r : Reported) : Bool := decide (r.door = .opened) && r.trailer && r.restraint

/-- Station a's record takes a door byte (R98). -/
def Part.takeDoorByte (s : Part) (a : Nat) (b : Byte) : Part :=
  let r := reportedOf b
  let st := s.station a
  let s1 := s.setStation a { st with reported := some r }
  if st.state = .present then s1.changeDoor a r.door r.docked else s1.changeDoor a .unknown false

/-- Station a's record takes a condition byte (R101). -/
def Part.takeCondition (s : Part) (a : Nat) (c : Byte) : Part :=
  let st := s.station a
  let s1 := s.setStation a { st with condition := some c }
  match st.condition with
  | none => s1
  | some old => if old = c then s1 else s1.postStation a st.state st.state .condition [c]

/-- Station a's record takes a HELLO's type and revision; one from a station already PRESENT posts STATION (R100). -/
def Part.takeHello (s : Part) (a : Nat) (kind revision : Byte) : Part :=
  let st := s.station a
  let s1 := s.setStation a { st with stationType := some kind, revision := some revision }
  if st.state = .present then s1.postStation a .present .present .hello [kind] else s1

/-! ### Hand-offs of a phase -/

/-- The shift counters of a zone's stations are cleared at a shift start (R106). -/
def DoorLine.startShift (d : DoorLine) (z : Nat) : DoorLine :=
  { d with
    stations := Tab.each d.stations fun st => if st.cfg.zone = z then { st with opens := 0, openSeconds := 0 } else st }

/-- The addresses whose station serves zone z. -/
def DoorLine.addressesOf (d : DoorLine) (z : Nat) : List Nat :=
  addresses.filter fun a => decide ((d.station a).cfg.zone = z)

/-- The controller takes a zone's door-open limit, judges the watches and applies a shift-start mark (R108). -/
def Part.takeLimit (s : Part) (z limit : Nat) (mark : Bool) : Part :=
  let s1 := { s with dl := { s.dl with limits := Tab.put s.dl.limits z limit } }
  let s2 := s1.forEach (s1.dl.addressesOf z) Part.judgeWatch
  if mark then { s2 with dl := s2.dl.startShift z } else s2

/-! ### The second timer -/

/-- A record after one second of the controller's timer, its watch still to be judged (R106, R107). -/
def Station.tick (st : Station) : Station :=
  { st with
    watch := st.watch.map fun w => satAdd 65535 w 1
    openSeconds := if st.door = .opened then satAdd 65535 st.openSeconds 1 else st.openSeconds
    silence := st.silence.map (· - 1) }

/-- One second of the controller's timer (R106, R107), the watches judged by address. DESIGN CHOICE (log 24). -/
def Part.doorSecond (s : Part) : Part :=
  ({ s with dl := { s.dl with stations := Tab.each s.dl.stations Station.tick } }).forEach addresses Part.judgeWatch

/-! ### Station configuration -/

/-- An enabled station's door is moved to another zone (R90). -/
def Part.moveStation (s : Part) (a z : Nat) : Part :=
  let st := s.station a
  let s1 := s.setStation a { st with cfg := { st.cfg with zone := z } }
  let s2 := (s1.owe (.evaluate st.cfg.zone)).owe (.evaluate z)
  (s2.oweGroups (s.zone st.cfg.zone).cfg.group (s.zone z).cfg.group).judgeWatch a

/-- STATION_WRITE ONE with its checks passed (R90). -/
def Part.writeStation (s : Part) (a : Nat) (enabled : Bool) (z : Nat) : Part :=
  let st := s.station a
  let store (s : Part) : Part := s.setStation a { s.station a with cfg := { (s.station a).cfg with zone := z } }
  if st.enabled then
    if enabled then (if st.cfg.zone = z then s else s.moveStation a z) else store (s.disableStation a)
  else if enabled then (store s).enableStation a
  else store s

end Sys2Proof.Machine
end

