-- ==== Sys2Proof/Machine/Line.lean ====
section
/-! DEFINITION. The door line itself (04): symbols and frames on the wire (R64 to R67), receive results (R71, R72), answers to
station frames (R73, R103), answers to the controller's frames (R74, R75), and the line states (R76 to R83). -/

namespace Sys2Proof.Machine

/-! ### Symbols (R64, R65) -/

/-- A duration within the short window. -/
def isShort (d : Nat) : Bool := decide (28 ≤ d) && decide (d ≤ 56)

/-- A duration within the long window. -/
def isLong (d : Nat) : Bool := decide (60 ≤ d) && decide (d ≤ 100)

/-- The bit of a symbol at a level (R64): driven short 0 and long 1, released short 1 and long 0. -/
def bitOf (driven : Bool) (d : Nat) : Option Bool :=
  if isShort d then some (!driven) else if isLong d then some driven else none

/-- The duration a bit is sent as at a level (R64), in microseconds. -/
def spanOf (driven : Bool) (bit : Bool) : Nat := if bit = driven then 80 else 40

/-- The bits of a byte, most significant first. -/
def bitsOf (b : Byte) : List Bool :=
  [b.getLsbD 7, b.getLsbD 6, b.getLsbD 5, b.getLsbD 4, b.getLsbD 3, b.getLsbD 2, b.getLsbD 1, b.getLsbD 0]

/-- The byte of eight bits, most significant first. -/
def byteOf (bits : List Bool) : Byte := bits.foldl (fun b x => (b <<< 1) ||| (if x then 1 else 0)) 0

/-- How the spans of a frame came to an end. -/
inductive Ending where
  /-- a data close -/
  | closed
  /-- a span that fits no window for its place, or a rest -/
  | symbol
  /-- the rest after an answer -/
  | rested
  deriving DecidableEq, Repr

/-- The whole bytes and the number of loose bits received, with the ending. -/
structure Received where
  bytes : List Byte
  loose : Nat
  ending : Ending
  deriving DecidableEq, Repr

/-- The bits gathered so far, taken as whole bytes and loose bits. -/
def gather (bytes : List Byte) (bits : List Bool) (ending : Ending) : Received :=
  { bytes := bytes, loose := bits.length, ending := ending }

/-- Which of its parts ends a run of bytes: the data close ends the sender's part, a rest the answer (R65). -/
inductive Place where
  | frame | answer
  deriving DecidableEq, Repr

/-- What the line carried span by span, taken together: each is an event of its own (R65). -/
inductive LineEvent where
  /-- a frame of another node has ended, known at the span that fails or at the end of the data close (R71) -/
  | frame (r : Received)
  /-- the answer to the controller's frame has ended, or is missing (R74, R75) -/
  | answer (r : Received)
  /-- a driven span of 300 µs to 2 ms, both ends included: DESIGN CHOICE (log 66) -/
  | clear
  /-- a driven span longer than 2 ms -/
  | stuck
  /-- a released span that reaches 220 µs -/
  | rest
  deriving DecidableEq, Repr

/-- What the receiver listens for (R65). -/
inductive Listening where
  /-- the line is at rest: a driven span is a lead pulse -/
  | lead
  /-- the bytes of a frame or an answer: the whole ones, and the bits of the one in progress -/
  | bytes (place : Place) (whole : List Byte) (bits : List Bool)
  /-- the data close of the controller's own frame -/
  | close
  /-- the answer mark that begins as the data close ends -/
  | mark
  /-- the frame has ended: the line is ignored until it rests, but for a line clear and a stuck line -/
  | ended
  deriving DecidableEq, Repr

/-- The end of a run of bytes at its place. -/
def Place.event (place : Place) (r : Received) : LineEvent :=
  match place with
  | .frame => .frame r
  | .answer => .answer r

/-- What a rest, or the last span given, makes of a run of bytes: a frame cut short, or an answer at its end. -/
def Place.cut : Place → Ending
  | .frame => .symbol
  | .answer => .rested

/-- What a rest, or the last span given, makes of what the receiver listens for (R65, R71, R75). -/
def Listening.cut : Listening → List LineEvent
  | .lead => []
  | .bytes place whole bits => [place.event (gather whole bits place.cut)]
  | .close => [.answer (gather [] [] .symbol)]
  | .mark => [.answer (gather [] [] .symbol)]
  | .ended => []

/-- A span within the bytes of a frame or an answer: the data close that ends a frame, a bit by its window, or a symbol error
(R65). -/
def Place.take (place : Place) (whole : List Byte) (bits : List Bool) (driven : Bool) (d : Nat) :
    List LineEvent × Listening :=
  if place = .frame ∧ driven = false ∧ 130 ≤ d ∧ d ≤ 210 then ([.frame (gather whole bits .closed)], .ended)
  else
    match bitOf driven d with
    | none => ([place.event (gather whole bits .symbol)], .ended)
    | some b =>
      let bits' := bits ++ [b]
      ([], if bits'.length = 8 then .bytes place (whole ++ [byteOf bits']) [] else .bytes place whole bits')

/-- A span that is no line clear, no stuck line and no rest, by what the receiver listens for: a lead pulse of 130 to 200 µs, a
span of the bytes, a data close of 130 to 210 µs, an answer mark of 60 to 100 µs (R65). A close that reaches its end without a
mark is a missing answer, a mark before it or of another length a faulty one (R75). DESIGN CHOICE (log 75). -/
def Listening.take (l : Listening) (driven : Bool) (d : Nat) : List LineEvent × Listening :=
  match l with
  | .lead =>
    if 130 ≤ d ∧ d ≤ 200 then ([], .bytes .frame [] []) else ([.frame (gather [] [] .symbol)], .ended)
  | .bytes place whole bits => place.take whole bits driven d
  | .close => if 130 ≤ d ∧ d ≤ 210 then ([], .mark) else ([.answer (gather [] [] .symbol)], .ended)
  | .mark => if isLong d then ([], .bytes .answer [] []) else ([.answer (gather [] [] .symbol)], .ended)
  | .ended => ([], .ended)

/-- One span of a level: a line clear and a stuck line are recognised at any place and abandon what was in progress, a rest ends
it, and any other span is taken by its place (R65, R71). A driven span of exactly 2 ms is a line clear. DESIGN CHOICE
(log 66). -/
def Listening.hear (l : Listening) (driven : Bool) (d : Nat) : List LineEvent × Listening :=
  if driven = true ∧ 2000 < d then ([.stuck], .ended)
  else if driven = true ∧ 300 ≤ d then ([.clear], .ended)
  else if driven = false ∧ 220 ≤ d then (l.cut ++ [.rest], .lead)
  else l.take driven d

/-- The events of a list of spans, the level alternating (R65); what is in progress at the last span given is cut there.
DESIGN CHOICE (log 34, 52). -/
def hearSpans (l : Listening) (driven : Bool) : List Nat → List LineEvent
  | [] => l.cut
  | d :: rest => (l.hear driven d).1 ++ hearSpans (l.hear driven d).2 (!driven) rest

/-- The events of a frame of another node from its lead pulse on (R65, R71). -/
def readFrame (spans : List Nat) : List LineEvent := hearSpans .lead true spans

/-- The durations of bits sent from a level on, the level alternating (R64). -/
def sendBits (driven : Bool) : List Bool → List Nat
  | [] => []
  | b :: rest => spanOf driven b :: sendBits (!driven) rest

/-- The durations of a run of bytes, its first bit released and its last driven (R64). -/
def sendBytes (bytes : List Byte) : List Nat := sendBits false (bytes.flatMap bitsOf)

/-- The durations of a frame's sender's part: lead pulse, bytes, data close (R64, R66). -/
def sendFrame (bytes : List Byte) : List Nat := 160 :: (sendBytes bytes ++ [160])

/-- The durations of an answer: the driven answer mark, then its bytes with the answer check (R64, R66). -/
def sendAnswer (bytes : List Byte) : List Nat := 80 :: sendBytes bytes

/-- The events of an answer from the release that began the data close: the data close, the answer mark that begins within its
window, and the bytes up to the rest (R65, R74). DESIGN CHOICE (log 75). -/
def readAnswer (spans : List Nat) : List LineEvent := hearSpans .close false spans

/-! ### Receive results (R71) -/

/-- A station frame's content. -/
inductive StationFrame where
  | doorReport (door : Byte)
  | hello (kind revision door : Byte)
  | presence (motion : Byte)
  | status (door condition : Byte)
  deriving DecidableEq, Repr

/-- Data bytes of a frame whose header is that of one of the six kinds with its own priority (R66, R203). -/
def dataBytes (header : Byte) : Option Nat :=
  if header = 0xC1 then some 1
  else if header = 0xA2 then some 3
  else if header = 0x83 then some 1
  else if header = 0x64 then some 0
  else if header = 0x45 then some 1
  else if header = 0x26 then some 2
  else none

/-- The header is that of a kind the controller sends. -/
def controllerKind (header : Byte) : Bool := decide (header = 0x83) || decide (header = 0x64)

/-- The station frame of a header and data bytes. -/
def stationFrame (header : Byte) (data : List Byte) : Option StationFrame :=
  match data with
  | [d] => if header = 0xC1 then some (.doorReport d) else if header = 0x45 then some (.presence d) else none
  | [d, c] => if header = 0x26 then some (.status d c) else none
  | [t, r, d] => if header = 0xA2 then some (.hello t r d) else none
  | _ => none

/-- The header and data bytes of a station frame (R66). -/
def StationFrame.header : StationFrame → Byte
  | .doorReport _ => 0xC1
  | .hello _ _ _ => 0xA2
  | .presence _ => 0x45
  | .status _ _ => 0x26

/-- The data bytes of a station frame (R66). -/
def StationFrame.data : StationFrame → List Byte
  | .doorReport d => [d]
  | .hello t r d => [t, r, d]
  | .presence m => [m]
  | .status d c => [d, c]

/-- The bytes of a station frame from an address, header to check (R66, R67). -/
def StationFrame.bytes (f : StationFrame) (address : Nat) : List Byte := frameBytes f.header address f.data

/-- The number of bytes is not the kind's, or the kind is not one of the six, or a byte was left incomplete (R71 order 2). -/
def lengthWrong (r : Received) : Bool :=
  match r.bytes with
  | header :: _ =>
    match dataBytes header with
    | some n => decide (r.loose ≠ 0) || decide (r.bytes.length ≠ 3 + n)
    | none => true
  | [] => true

/-- The check byte differs from the CRC of the bytes before it (R71 order 3). -/
def checkWrong (bytes : List Byte) : Bool := decide (bytes.getLast? ≠ some (crc8 bytes.dropLast))

/-- A station frame from this address is not accepted (R71 order 4). -/
def DoorLine.rejects (d : DoorLine) (a : Nat) : Bool := !isAddress a || decide ((d.station a).state = .disabled)

/-- The receive result of a frame whose header arrived whole (R71). -/
def DoorLine.classify (d : DoorLine) (r : Received) : RxResult :=
  match r.bytes with
  | header :: address :: _ =>
    if r.ending ≠ .closed then .symbolError
    else if lengthWrong r then .lengthError
    else if checkWrong r.bytes then .checkError
    else if controllerKind header || d.rejects address.toNat then .notAccepted
    else .accepted
  | _ => if r.ending ≠ .closed then .symbolError else .lengthError

/-- A receive result other than ACCEPTED is counted, and every result is recorded for the station whose address arrived whole
(R72). -/
def DoorLine.recordResult (d : DoorLine) (address : Option Nat) (r : RxResult) : DoorLine :=
  let d1 := if r = .accepted then d else { d with errors := satAdd 65535 d.errors 1 }
  match address with
  | some a => if isAddress a then d1.setStation a { d1.station a with lastResult := some r } else d1
  | none => d1

/-! ### Answers of the stations (R74, R75) -/

/-- The head entry in flight leaves the queue with its frame, and a refill follows (R86, R87). -/
def DoorLine.endFlight (d : DoorLine) : DoorLine := { d with sending := none }.leave fun e => e.inFlight

/-- Station a's consecutive no-answer count set. -/
def DoorLine.setNoAnswers (d : DoorLine) (a n : Nat) : DoorLine := d.setStation a { d.station a with noAnswers := n }

/-- An answer to the flight of an entry is not handed to its station: the station was disabled during the flight, or is
DISABLED (R74). DEDUCED (log 41). -/
def DoorLine.unheard (d : DoorLine) (e : OutEntry) : Bool :=
  e.orphan || decide ((d.station e.address).state = .disabled)

/-- A missing or faulty answer to the frame in flight (R74, R75). DESIGN CHOICE (log 39). -/
def Part.noAnswer (s : Part) : Part :=
  match s.dl.flying with
  | none => s
  | some e =>
    if s.dl.unheard e then { s with dl := s.dl.endFlight }
    else
      let n := (s.station e.address).noAnswers + 1
      if n < Config.noAnswerLimit then { s with dl := (s.dl.setNoAnswers e.address n).land }
      else ({ s with dl := (s.dl.setNoAnswers e.address 0).endFlight }).silence e.address .noAnswer

/-- A good answer is handed to the record of station a with its door byte, and its condition byte for QUERY (R95, R98, R101,
R103). -/
def Part.takeAnswer (s : Part) (a : Nat) (door : Byte) (condition : Option Byte) : Part :=
  let s1 := (s.hear a .answer).takeDoorByte a door
  match condition with
  | some c => s1.takeCondition a c
  | none => s1

/-- The answer bytes of a kind, and their check, as received. -/
def answerGood (bytes : List Byte) (check : Byte) : Bool := decide (crc8 bytes = check)

/-- An answer to the frame in flight: of this kind, with these bytes and this check (R74, R75). -/
def Part.receiveAnswer (s : Part) (kind : EntryKind) (door : Byte) (condition : Option Byte) (check : Byte) : Part :=
  match s.dl.flying with
  | none => s
  | some e =>
    if e.kind = kind ∧ answerGood (door :: condition.toList) check = true then
      let s1 := if s.dl.unheard e then s else s.takeAnswer e.address door condition
      { s1 with dl := s1.dl.endFlight }
    else s.noAnswer

/-! ### Station frames -/

/-- An event that is due is taken before the answer is formed; one that is not due is none (R99). DESIGN CHOICE (log 35). -/
def Part.takeEarly (s : Part) : Early → Part
  | .evaluation z =>
    if s.due.contains (.evaluate z) then (s.settleDue fun d => decide (d = .evaluate z)).evaluate z else s
  | .demand g => if s.due.contains (.demand g) then (s.settleDue fun d => decide (d = .demand g)).computeDemand g else s
  | .pass n => if (nthChange s.due n).isSome then s.takeNth n else s

/-- An ACCEPTED frame is handed to station a's record (R95, R98 to R102). A PRESENCE_REPORT leaves the door fields, so a SILENT
station becomes PRESENT with its door UNKNOWN, and a HELLO notice comes before DOOR, a CONDITION notice after it.
DESIGN CHOICE (log 24, 68). -/
def Part.handFrame (s : Part) (a : Nat) : StationFrame → Part
  | .doorReport d => (s.hear a .frame).takeDoorByte a d
  | .hello t r d => ((s.takeHello a t r).hear a .frame).takeDoorByte a d
  | .presence m =>
    let s1 := s.hear a .frame
    let st := s1.station a
    (s1.setStation a { st with motion := satAdd 65535 st.motion m.toNat }).takePresence st.cfg.zone
  | .status d c => ((s.hear a .frame).takeDoorByte a d).takeCondition a c

/-- The answer to an ACCEPTED frame of station a is formed and stored as the outputs last formed (R73, R103). -/
def Part.formAnswer (s : Part) (a : Nat) : Part :=
  let o := s.formedOutputs a
  let dl := s.dl.setStation a { s.station a with lastFormed := o }
  { s with dl := { dl with answering := some { address := a, bytes := answerBytes o } } }

/-- The first driving edge of a span makes a READY line BUSY (R76). -/
def LineState.driven : LineState → LineState
  | .ready => .busy
  | other => other

/-- The line as a frame of another node finds it: an answer of the controller not sent whole is dropped, a frame of the
controller in flight has missed its answer (R95), and a READY line is BUSY (R76). DEDUCED (log 37). An entry that waits joins no
lead pulse here, since DRIVING_EDGE tells that (R68). DESIGN CHOICE (log 86). -/
def Part.frameArrives (s : Part) : Part :=
  if s.dl.line = .dead then s
  else
    let s1 := s.noAnswer
    { s1 with dl := { s1.dl with answering := none, line := s1.dl.line.driven } }

/-- A frame with an ACCEPTED result (R71 to R73, R99). -/
def Part.acceptFrame (s : Part) (a : Nat) (f : StationFrame) (early : List Early) : Part :=
  let s1 := ({ s with dl := s.dl.recordResult (some a) .accepted }).handFrame a f
  if s.dl.line = .dead then s1 else (early.foldl Part.takeEarly s1).formAnswer a

/-- A station frame that arrived whole with a good check (R71 order 4 and 5); a STUCK line receives nothing (R77).
DEDUCED (log 36). A CLEARING line receives, and stays CLEARING until its rest. DESIGN CHOICE (log 87). -/
def Part.receiveFrame (s : Part) (address : Byte) (f : StationFrame) (early : List Early) : Part :=
  if s.dl.line = .stuck then s
  else
    let s1 := s.frameArrives
    let a := address.toNat
    if s1.dl.rejects a then { s1 with dl := s1.dl.recordResult (some a) .notAccepted } else s1.acceptFrame a f early

/-- The controller's answer has been sent whole (R73, R103). -/
def Part.answerSent (s : Part) : Part :=
  match s.dl.answering with
  | none => s
  | some ans =>
    let a := ans.address
    let dl := (({ s.dl with answering := none }).setPending a false).leave fun e =>
      decide (e.address = a) && decide (e.kind = EntryKind.setOutputs) && !e.inFlight
    let s1 := { s with dl := dl }
    if s1.formedOutputs a = (s1.station a).lastFormed then s1 else { s1 with dl := (s1.dl.requestOutputs a).1 }

/-! ### Line states -/

/-- The LINE notice of a change (R79). -/
def Part.postLine (s : Part) (old : LineState) : Part :=
  s.post .line 0 (u8 old.code ++ u8 s.dl.line.code ++ u16 s.dl.errors)

/-- The part with its line state set. -/
def Part.setLine (s : Part) (l : LineState) : Part := { s with dl := { s.dl with line := l } }

/-- The line goes STUCK from READY, BUSY or CLEARING (R77). An entry in flight goes back to waiting, also one that has won and
awaits its answer, without a missing answer. DEDUCED (log 36, 38), DESIGN CHOICE (log 67). -/
def Part.goStuck (s : Part) : Part :=
  match s.dl.line with
  | .stuck => s
  | .dead => s
  | old => ({ s with dl := { s.dl.land with answering := none, line := .stuck } }).postLine old.driven

/-- A STUCK line is released and rests (R77, R82). -/
def Part.releaseStuck (s : Part) : Part :=
  if s.dl.line = .stuck then (s.lineClear.setLine .ready).postLine .stuck else s

/-- The line goes DEAD from any other state (R78). -/
def Part.goDead (s : Part) : Part :=
  if s.dl.line = .dead then s
  else
    ({ s with dl := { s.dl.land with answering := none, line := .dead, deadProbe := some Config.deadProbePeriod } }).postLine
      s.dl.line

/-- A probe of a DEAD line falls due (R78): skipped on a driven line, and ended by an echo. It acts whatever the second to the
next probe has left. DESIGN CHOICE (log 77). -/
def Part.probeDead (s : Part) (released echoed : Bool) : Part :=
  if s.dl.line = .dead then
    if released && echoed then ({ s with dl := { s.dl with line := .busy, deadProbe := none } }).postLine .dead
    else { s with dl := { s.dl with deadProbe := some Config.deadProbePeriod } }
  else s

/-- A line clear is received (R82). -/
def Part.receiveClear (s : Part) : Part :=
  match s.dl.line with
  | .ready => s.lineClear.setLine .busy
  | .busy => s.lineClear.setLine .busy
  | .dead => s.lineClear
  | .clearing => s
  | .stuck => s

/-- A BUSY or CLEARING line rests: a frame in flight that was not answered has missed its answer, an unfinished answer is
dropped, and the line is READY (R75, R76). DEDUCED (log 37). -/
def Part.comeToRest (s : Part) : Part :=
  let s1 := s.noAnswer
  { s1 with dl := { s1.dl with answering := none, line := .ready } }

/-- A rest of the line (R65, R76); on a STUCK line it follows the release and ends STUCK as STUCK_RELEASE does (R77, R82).
DEDUCED (log 36). -/
def Part.restLine (s : Part) : Part :=
  match s.dl.line with
  | .ready => s
  | .busy => s.comeToRest
  | .clearing => s.comeToRest
  | .stuck => s.releaseStuck
  | .dead => s

/-- The controller starts a frame from a rested line, or joins another node's lead pulse (R68, R76). -/
def Part.beginFrame (s : Part) : Part := if s.dl.line = .ready then s.startFrame else s

/-- Another node's driving edge on a READY line; a controller ready to send joins the lead pulse (R68, R76). -/
def Part.drivingEdge (s : Part) : Part :=
  if s.dl.line = .ready then (if s.dl.queue.isEmpty then s.setLine .busy else s.startFrame) else s

/-- The controller has lost arbitration (R69). -/
def Part.loseArbitration (s : Part) : Part := { s with dl := s.dl.land }

/-- A line clear is sent by LINE_RESET (R81); refused while the line is DEAD. -/
def Part.sendClear (s : Part) : Part × Verdict :=
  match s.dl.line with
  | .ready => (s.lineClear.setLine .clearing, .done 0 [])
  | .busy => (s.lineClear.setLine .clearing, .done 0 [])
  | .clearing => (s, .done 0 [])
  | .stuck => (s.lineClear, .done 0 [])
  | .dead => (s, .refused .state 0)

/-! ### Frames received span by span -/

/-- A frame whose header arrived whole has ended: its result is counted and recorded, and an ACCEPTED frame is handed on (R71,
R72). -/
def Part.endReceived (s : Part) (r : Received) : Part :=
  let s1 := s.frameArrives
  let result := s1.dl.classify r
  let address := (r.bytes[1]?).map BitVec.toNat
  match result, address, stationFrame (r.bytes.getD 0 0) ((r.bytes.drop 2).dropLast) with
  | .accepted, some a, some f => s1.acceptFrame a f []
  | _, _, _ => { s1 with dl := s1.dl.recordResult address result }

/-- A frame of another node has ended (R71, R72): a STUCK line receives none, and one without a whole header is dropped, its
driving edge leaving a READY line BUSY. DEDUCED (log 36). -/
def Part.frameEnded (s : Part) (r : Received) : Part :=
  if s.dl.line = .stuck then s else if r.bytes = [] then s.setLine s.dl.line.driven else s.endReceived r

/-- The answer to the frame in flight has ended: a good one is handed on, any other is a missing answer (R74, R75). -/
def Part.answerEnded (s : Part) (r : Received) : Part :=
  match s.dl.flying with
  | none => s
  | some e =>
    match r.ending, e.kind, r.loose, r.bytes with
    | .rested, .query, 0, [door, condition, check] => s.receiveAnswer .query door (some condition) check
    | .rested, .setOutputs, 0, [door, check] => s.receiveAnswer .setOutputs door none check
    | _, _, _, _ => s.noAnswer

/-- One event of the line is taken (R65). -/
def Part.takeLineEvent (s : Part) : LineEvent → Part
  | .frame r => s.frameEnded r
  | .answer r => s.answerEnded r
  | .clear => s.receiveClear
  | .stuck => s.goStuck
  | .rest => s.restLine

/-- The probe cycle: a QUERY for each ABSENT or SILENT enabled station, ascending, until the full queue drops one (R97). -/
def DoorLine.probeFrom (d : DoorLine) : List Nat → DoorLine
  | [] => d
  | a :: rest =>
    let st := d.station a
    if st.state = .absent ∨ st.state = .silent then
      let r := d.requestQuery a
      if r.2 then r.1 else r.1.probeFrom rest
    else d.probeFrom rest

/-- The probe timer expires (R97). DESIGN CHOICE (log 77). -/
def Part.probeCycle (s : Part) : Part := { s with dl := { s.dl.probeFrom addresses with probeTimer := Config.probePeriod } }

end Sys2Proof.Machine
end

