-- ==== Sys2Proof/Machine/Operands.lean ====
section
/-! DEFINITION. The operands of the requests: each owner's checks in the order its chapter gives, with the refusal code and field
number, and the clamping of tuning values with the field first cut (R189, R201). -/

namespace Sys2Proof.Machine

/-! ### Checks and cuts -/

/-- What an owner's checks make of a request's fields: a refusal, or the values with the number of the field first cut, 0 for
none. -/
inductive Checked (α : Type) where
  | refuse (code : Code) (field : Nat)
  | accept (value : α) (cut : Byte)
  deriving DecidableEq, Repr

/-- The first check that fails refuses; none failing accepts. A check is a failing condition with its code and field. -/
def checks {α : Type} : List (Bool × Code × Nat) → α → Byte → Checked α
  | [], v, cut => .accept v cut
  | (bad, code, field) :: rest, v, cut => if bad then .refuse code field else checks rest v cut

/-- The number of the first field cut, in field order; 0 when none was (R201). -/
def firstCut : List (Nat × Bool) → Byte
  | [] => 0
  | (field, cut) :: rest => if cut then BitVec.ofNat 8 field else firstCut rest

/-- A figure of a request lies outside its range. -/
def outside (lo hi v : Nat) : Bool := decide (clampN lo hi v ≠ v)

/-- A signed figure of a request lies outside its range. -/
def outsideZ (lo hi v : Int) : Bool := decide (clampZ lo hi v ≠ v)

/-- A two-byte field read as signed (R201). -/
def signed (h : Half) : Int := h.toInt

/-- A setpoint, 0..350 in 0.1 °C, clamped. DEDUCED (log 22). -/
def setpointOf (h : Half) : Nat := (clampZ 0 350 (signed h)).toNat

/-- A setpoint is cut by its clamp. -/
def setpointCut (h : Half) : Bool := outsideZ 0 350 (signed h)

/-- A yes/no byte that is neither. -/
def notFlag (b : Byte) : Bool := decide (1 < b.toNat)

/-- A yes/no byte as yes. -/
def flagOf (b : Byte) : Bool := decide (b = 1)

/-! ### Shift clock -/

/-- SET_CLOCK's fields clamped (R11): week minute, second, day count. -/
def clockOperands (m : Half) (sec : Byte) (days : Half) : (Nat × Nat × Nat) × Byte :=
  ((clampN 0 10079 m.toNat, clampN 0 59 sec.toNat, days.toNat),
    firstCut [(1, outside 0 10079 m.toNat), (2, outside 0 59 sec.toNat)])

/-- SET_TRIM's fields clamped (R10): A, Kq, T0. -/
def trimOperands (a : Half) (kq t0 : Byte) : (Int × Nat × Nat) × Byte :=
  ((clampZ (-512) 511 (signed a), kq.toNat, clampN 0 63 t0.toNat),
    firstCut [(1, outsideZ (-512) 511 (signed a)), (3, outside 0 63 t0.toNat)])

/-! ### Calendar -/

/-- CAL_WRITE_HEADER's fields (R18). -/
def headerOperands (f : HeaderFields) : Checked Header :=
  checks
    [(decide (19 < f.outdoor.toNat), .index, 7),
      (decide (f.fallbackPhase ≠ 0) && decide (f.fallbackPhase ≠ 2), .range, 10),
      (decide (7 < f.fallbackProfile.toNat), .index, 11)]
    { idleSetpoint := setpointOf f.idleSetpoint
      idleLight := clampN 0 100 f.idleLight.toNat
      idleVent := clampN 0 3 f.idleVent.toNat
      presenceLight := clampN 0 100 f.presenceLight.toNat
      presenceHold := clampN 1 120 f.presenceHold.toNat
      doorLight := clampN 0 100 f.doorLight.toNat
      outdoor := f.outdoor.toNat
      curtainThreshold := clampZ (-500) 300 (signed f.curtainThreshold)
      runOn := clampN 0 300 f.runOn.toNat
      fallbackActive := decide (f.fallbackPhase = 2)
      fallbackProfile := f.fallbackProfile.toNat }
    (firstCut
      [(1, setpointCut f.idleSetpoint), (2, outside 0 100 f.idleLight.toNat), (3, outside 0 3 f.idleVent.toNat),
        (4, outside 0 100 f.presenceLight.toNat), (5, outside 1 120 f.presenceHold.toNat),
        (6, outside 0 100 f.doorLight.toNat), (8, outsideZ (-500) 300 (signed f.curtainThreshold)),
        (9, outside 0 300 f.runOn.toNat)])

/-- CAL_WRITE_SHIFT's fields (R19). -/
def shiftOperands (entry : Byte) (f : ShiftFields) : Checked Shift :=
  checks
    [(decide (41 < entry.toNat), .index, 1), (notFlag f.inUse, .range, 2), (decide (7 < f.profile.toNat), .index, 6)]
    { inUse := flagOf f.inUse
      days := f.days.setWidth 7
      start := clampN 0 1439 f.start.toNat
      length := clampN 1 960 f.length.toNat
      profile := f.profile.toNat
      zones := f.zones.setWidth 12 }
    (firstCut [(4, outside 0 1439 f.start.toNat), (5, outside 1 960 f.length.toNat)])

/-- CAL_WRITE_PROFILE's fields (R20). -/
def profileOperands (profile : Byte) (f : ProfileFields) : Checked Profile :=
  checks [(decide (7 < profile.toNat), .index, 1)]
    { setActive := setpointOf f.setActive
      setWarmup := setpointOf f.setWarmup
      setWinddown := setpointOf f.setWinddown
      lightActive := clampN 0 100 f.lightActive.toNat
      lightOther := clampN 0 100 f.lightOther.toNat
      ventActive := clampN 0 3 f.ventActive.toNat
      ventWinddown := clampN 0 3 f.ventWinddown.toNat
      lead := clampN 0 120 f.lead.toNat
      hold := clampN 0 60 f.hold.toNat
      doorLimit := clampN 1 120 f.doorLimit.toNat }
    (firstCut
      [(2, setpointCut f.setActive), (3, setpointCut f.setWarmup), (4, setpointCut f.setWinddown),
        (5, outside 0 100 f.lightActive.toNat), (6, outside 0 100 f.lightOther.toNat),
        (7, outside 0 3 f.ventActive.toNat), (8, outside 0 3 f.ventWinddown.toNat), (9, outside 0 120 f.lead.toNat),
        (10, outside 0 60 f.hold.toNat), (11, outside 1 120 f.doorLimit.toNat)])

/-- CAL_WRITE_WINDOW's fields (R21). -/
def windowOperands (window : Byte) (f : WindowFields) : Checked LimitWindow :=
  checks [(decide (7 < window.toNat), .index, 1), (notFlag f.inUse, .range, 2)]
    { inUse := flagOf f.inUse
      days := f.days.setWidth 7
      start := clampN 0 1439 f.start.toNat
      stop := clampN 1 1440 f.stop.toNat
      limit := f.limit.toNat }
    (firstCut [(4, outside 0 1439 f.start.toNat), (5, outside 1 1440 f.stop.toNat)])

/-- A duration of an override in minutes, clamped to 1..720 (R35). -/
def overrideMinutes (d : Half) : Nat := clampN 1 720 d.toNat

/-- The cut of an override's duration, field 4. -/
def durationCut (d : Half) : Bool := outside 1 720 d.toNat

/-! ### Zones -/

/-- ZONE_WRITE ONE's fields (R113). -/
def zoneOperands (zone : Byte) (f : ZoneFields) : Checked ZoneConfig :=
  checks
    [(decide (11 < zone.toNat), .index, 2), (decide (19 < f.channel.toNat), .index, 3),
      (decide (5 < f.group.toNat), .index, 4), (decide (11 < f.dim.toNat) && decide (f.dim ≠ 0xFF), .index, 13)]
    { channel := f.channel.toNat
      group := f.group.toNat
      kd := clampN 0 100 f.kd.toNat
      kv := clampN 0 100 f.kv.toNat
      kp := f.kp.toNat
      ki := f.ki.toNat
      imax := clampN 0 30000 f.imax.toNat
      hyst := clampN 0 200 f.hyst.toNat
      fallback := clampN 0 3 f.fallback.toNat
      floor := clampN 0 100 f.floor.toNat
      dim := if f.dim = 0xFF then none else some f.dim.toNat }
    (firstCut
      [(5, outside 0 100 f.kd.toNat), (6, outside 0 100 f.kv.toNat), (9, outside 0 30000 f.imax.toNat),
        (10, outside 0 200 f.hyst.toNat), (11, outside 0 3 f.fallback.toNat), (12, outside 0 100 f.floor.toNat)])

/-- ZONE_WRITE TIMING's fields clamped (R115): evaluation interval, temperature hold limit. -/
def timingOperands (interval : Byte) (hold : Half) : (Nat × Nat) × Byte :=
  ((clampN 5 120 interval.toNat, clampN 0 3600 hold.toNat),
    firstCut [(2, outside 5 120 interval.toNat), (3, outside 0 3600 hold.toNat)])

/-! ### Measurement -/

/-- T1 < T2 < T3 of a ladder as written (R43). -/
def ladderAscends (f : ChannelFields) : Bool :=
  decide (signed f.t1 < signed f.t2) && decide (signed f.t2 < signed f.t3)

/-- A kind that the channel may not have: BOARD on 0..19, any other on 20 (R43). -/
def kindMisplaced (channel kind : Byte) : Bool := decide (channel.toNat = 20) != decide (kind = 4)

/-- CHAN_WRITE's fields (R43): within one check the fields in field order, a kind on a channel that may not have it named by the
kind, a ladder that fails by its first threshold and a window by its low edge, and the hystereses unsigned. DESIGN CHOICE
(log 63, 64). -/
def channelOperands (channel : Byte) (f : ChannelFields) : Checked ChanConfig :=
  checks
    [(decide (20 < channel.toNat), .index, 1), (decide (4 < f.kind.toNat), .range, 2), (notFlag f.enabled, .range, 3),
      (decide (3 < f.gain.toNat), .range, 4), (decide (3 < f.depth.toNat), .range, 8), (notFlag f.rail, .range, 9),
      (notFlag f.windowOn, .range, 10), (notFlag f.sense, .range, 11), (kindMisplaced channel f.kind, .conflict, 2),
      (decide (f.kind = 1) && decide (5 < f.group.toNat), .index, 16),
      (decide (f.kind = 1) && !ladderAscends f, .conflict, 17),
      (flagOf f.windowOn && decide (signed f.hi ≤ signed f.lo), .conflict, 12)]
    { kind := (ChanKind.ofCode f.kind.toNat).getD .generic
      enabled := flagOf f.enabled
      gain := (Gain.ofCode f.gain.toNat).getD .one
      settle := clampN 1 31 f.settle.toNat
      scaleLo := signed f.scaleLo
      scaleHi := signed f.scaleHi
      depth := (Depth.ofCode f.depth.toNat).getD .d1
      rail := flagOf f.rail
      windowOn := flagOf f.windowOn
      inside := flagOf f.sense
      lo := signed f.lo
      hi := signed f.hi
      lowHyst := clampN 0 32767 f.lowHyst.toNat
      highHyst := clampN 0 32767 f.highHyst.toNat
      group := f.group.toNat
      t1 := signed f.t1
      t2 := signed f.t2
      t3 := signed f.t3
      rise := clampN 0 32767 f.rise.toNat
      fall := clampN 0 32767 f.fall.toNat }
    (firstCut
      [(5, outside 1 31 f.settle.toNat), (14, outside 0 32767 f.lowHyst.toNat), (15, outside 0 32767 f.highHyst.toNat),
        (20, outside 0 32767 f.rise.toNat), (21, outside 0 32767 f.fall.toNat)])

/-- The field number of the first entry of a scan list above 20, none when every entry names a channel (R49). -/
def badEntry : Nat → List Byte → Option Nat
  | _, [] => none
  | field, e :: rest => if 20 < e.toNat then some field else badEntry (field + 1) rest

/-- A scan list with its two periods (R49). -/
structure ScanSettings where
  entries : List Nat
  period : Nat
  fast : Nat
  deriving DecidableEq, Repr

/-- The count of a SCAN_WRITE does not match its body, or lies outside 1..32 (R49). -/
def scanLengthWrong (count : Byte) (entries : List Byte) : Bool :=
  decide (count.toNat = 0) || decide (32 < count.toNat) || decide (entries.length ≠ count.toNat)

/-- SCAN_WRITE's fields after its length check (R49): the fast interval is cut to the period as stored.
DESIGN CHOICE (log 65). -/
def scanOperands (entries : List Byte) (period fast : Byte) : Checked ScanSettings :=
  let p := clampN 1 60 period.toNat
  let f := min p (clampN 1 60 fast.toNat)
  match badEntry 2 entries with
  | some field => .refuse .index field
  | none =>
    .accept { entries := entries.map BitVec.toNat, period := p, fast := f }
      (firstCut [(2 + entries.length, decide (p ≠ period.toNat)), (3 + entries.length, decide (f ≠ fast.toNat))])

/-! ### Load budget -/

/-- The number of owners a kind has, and the first of them (09, "The load record"). -/
def ownerRange : LoadKind → Option (Nat × Nat)
  | .heat => some (0, 11)
  | .light => some (0, 11)
  | .fan => some (0, 5)
  | .curtain => some (1, 48)
  | .aux => none
  | .unused => none

/-- The owner byte lies outside the range of the kind; all ones stands for none. DEDUCED (log 20). -/
def ownerWrong (kind : LoadKind) (owner : Byte) : Bool :=
  match ownerRange kind with
  | some (lo, hi) => decide (owner.toNat < lo) || decide (hi < owner.toNat)
  | none => decide (owner ≠ 0xFF)

/-- A binding from its form and number (forms SWITCH 0, DIM 1, DOOR 2, NONE 3). -/
def bindingOf (form number : Byte) : Binding :=
  match form.toNat with
  | 0 => .point number.toNat
  | 1 => .dim number.toNat
  | 2 => .door
  | _ => .nothing

/-- A switch point above 63 or a dim output above 11. -/
def Binding.outOfRange : Binding → Bool
  | .point n => decide (63 < n)
  | .dim n => decide (11 < n)
  | .door => false
  | .nothing => false

/-- A binding not allowed for the kind (R163 check 6). -/
def Binding.forbidden (b : Binding) (kind : LoadKind) : Bool :=
  match b with
  | .dim _ => decide (kind ≠ .light)
  | .point _ => decide (kind = .light)
  | .door => decide (kind ≠ .curtain)
  | .nothing => false

/-- A binding names an output that only one load may drive. -/
def Binding.names : Binding → Bool
  | .point _ => true
  | .dim _ => true
  | .door => false
  | .nothing => false

/-- A load's configuration from LOAD_WRITE's fields, clamped (R163). -/
def loadConfigOf (f : LoadFields) : LoadConfig :=
  { kind := (LoadKind.ofCode f.kind.toNat).getD .unused
    owner := if f.owner = 0xFF then none else some f.owner.toNat
    stage := f.stage.toNat
    rating := clampN 1 5000 f.rating.toNat
    rank := clampN 0 7 f.rank.toNat
    protection := (Protection.ofCode f.protection.toNat).getD .none
    floor := clampN 0 100 f.floor.toNat
    minOn := clampN 0 1800 f.minOn.toNat
    minOff := clampN 0 1800 f.minOff.toNat
    binding := bindingOf f.bindForm f.bindNumber
    enabled := flagOf f.enable }

/-- The loads of a table with their indices, from an index on. -/
def indexed : Nat → List LoadConfig → List (Nat × LoadConfig)
  | _, [] => []
  | i, c :: rest => (i, c) :: indexed (i + 1) rest

/-- The kind has owners, whose loads form chains (R162). -/
def LoadKind.owned : LoadKind → Bool
  | .heat => true
  | .light => true
  | .fan => true
  | .curtain => true
  | .aux => false
  | .unused => false

/-- The chain that a load belongs to in a table. -/
def chainOf (table : List (Nat × LoadConfig)) (c : LoadConfig) : List (Nat × LoadConfig) :=
  table.filter fun m => decide (m.2.kind = c.kind) && decide (m.2.owner = c.owner)

/-- Every chain of a table, once for each of its loads. -/
def chains (table : List (Nat × LoadConfig)) : List (List (Nat × LoadConfig)) :=
  (table.filter fun m => m.2.kind.owned).map fun m => chainOf table m.2

/-- A chain's stages are exactly 1..n, each once. -/
def stagesExact (chain : List (Nat × LoadConfig)) : Bool :=
  (List.range chain.length).all fun k => decide ((chain.filter fun m => decide (m.2.stage = k + 1)).length = 1)

/-- A relation holds between each load of a chain and the load of the stage above it. -/
def eachStep (rel : Nat × LoadConfig → Nat × LoadConfig → Bool) (chain : List (Nat × LoadConfig)) : Bool :=
  chain.all fun x => chain.all fun y => decide (y.2.stage ≠ x.2.stage + 1) || rel x y

/-- A chain's indices ascend with the stage. -/
def indicesAscend : List (Nat × LoadConfig) → Bool := eachStep fun x y => decide (x.1 < y.1)

/-- A chain's classes do not fall with the stage. -/
def classesAscend : List (Nat × LoadConfig) → Bool := eachStep fun x y => decide (x.2.rank ≤ y.2.rank)

/-- A chain's protections do not grow stronger with the stage. -/
def protectionsDescend : List (Nat × LoadConfig) → Bool :=
  eachStep fun x y => decide (y.2.protection.strength ≤ x.2.protection.strength)

/-- A chain's request enables run from its first stage. -/
def enablesRun : List (Nat × LoadConfig) → Bool := eachStep fun x y => x.2.enabled || !y.2.enabled

/-- Some chain of a table fails a property. -/
def someChain (ok : List (Nat × LoadConfig) → Bool) (table : List (Nat × LoadConfig)) : Bool :=
  (chains table).any fun c => !ok c

/-- A switch point or dim output is already bound to another load that is not UNUSED (R163 check 7). -/
def boundElsewhere (table : List (Nat × LoadConfig)) (i : Nat) (b : Binding) : Bool :=
  b.names && table.any fun m => decide (m.1 ≠ i) && decide (m.2.kind ≠ .unused) && decide (m.2.binding = b)

/-- LOAD_WRITE's checks 2 to 10 for a load index 0..127, in order (R163). DEDUCED (log 18). -/
def loadChecks (lb : Budget) (i : Nat) (f : LoadFields) : List (Bool × Code × Nat) :=
  let c := loadConfigOf f
  let table := indexed 0 (lb.table.set i c)
  let l := lb.load i
  [(decide (5 < f.kind.toNat), .range, 2), (decide (2 < f.protection.toNat), .range, 7),
    (decide (3 < f.bindForm.toNat), .range, 11), (notFlag f.enable, .range, 12),
    (ownerWrong c.kind f.owner, .index, 3), (decide (f.stage = 0) || decide (3 < f.stage.toNat), .index, 4),
    (c.binding.outOfRange, .index, 11), (l.grant.held && decide (l.cfg.kind ≠ c.kind), .state, 2),
    (l.grant.held && decide (l.cfg.owner ≠ c.owner), .state, 3),
    (l.grant.held && decide (l.cfg.binding ≠ c.binding), .state, 11),
    (decide (1 < f.stage.toNat) && (decide (c.kind = .light) || decide (c.kind = .curtain) || decide (c.kind = .aux)),
      .conflict, 4),
    (c.binding.forbidden c.kind, .conflict, 11), (boundElsewhere table i c.binding, .conflict, 11),
    (decide (c.protection = .guarded) && (decide (c.kind = .curtain) || decide (c.kind = .aux)), .conflict, 7),
    (someChain stagesExact table, .conflict, 4), (someChain indicesAscend table, .conflict, 1),
    (someChain classesAscend table, .conflict, 6), (someChain protectionsDescend table, .conflict, 7),
    (someChain enablesRun table, .conflict, 12), (decide (65535 < floorOf (table.map (·.2))), .conflict, 0)]

/-- LOAD_WRITE's fields (R163). -/
def loadOperands (lb : Budget) (load : Byte) (f : LoadFields) : Checked LoadConfig :=
  checks ((decide (127 < load.toNat), .index, 1) :: loadChecks lb load.toNat f) (loadConfigOf f)
    (firstCut
      [(5, outside 1 5000 f.rating.toNat), (6, outside 0 7 f.rank.toNat), (8, outside 0 100 f.floor.toNat),
        (9, outside 0 1800 f.minOn.toNat), (10, outside 0 1800 f.minOff.toNat)])

/-- The table with the request enables of a mask's loads set or cleared (R165). -/
def withEnables (lb : Budget) (mask : BitVec 128) (set : Bool) : Vector Load 128 :=
  Tab.build 128 fun i =>
    let l := lb.load i
    if mask.getLsbD i then { l with cfg := { l.cfg with enabled := set } } else l

/-- The number of loads whose request enable a mask and action change (R165). -/
def enablesChanged (lb : Budget) (mask : BitVec 128) (set : Bool) : Nat :=
  (Tab.where lb.loads fun i l => mask.getLsbD i && decide (l.cfg.enabled ≠ set)).length

/-- The table as it would stand fails the request-enable part of check 9, or check 10 (R165). -/
def enablesConflict (lb : Budget) : Bool :=
  someChain enablesRun (indexed 0 lb.table) || decide (65535 < lb.floor)

/-- AUX_REQUEST's checks and values (R166): request and urgency. -/
def auxOperands (lb : Budget) (load request : Byte) (urgency : Half) : Checked (Nat × Nat) :=
  checks
    [(decide (127 < load.toNat), .index, 1), (notFlag request, .range, 2),
      (decide ((lb.load load.toNat).cfg.kind ≠ .aux), .conflict, 1)]
    (request.toNat, clampN 0 1000 urgency.toNat) (firstCut [(3, outside 0 1000 urgency.toNat)])

end Sys2Proof.Machine
end

