-- ==== Sys2Proof/Machine/Reads.lean ====
section
/-! DEFINITION. The data of the replies that read a record (R13, R27, R62, R111, R132, R160, R183, R191), field by field in the
order their rules give, in the widths of R201. -/

namespace Sys2Proof.Machine

/-- The image of the 64 switch points as a mask (R183, R201): 8 bytes, point 0 in bit 0 of the first. DESIGN CHOICE (log 89). -/
def imageBytes (img : BitVec 64) : List Byte := leBytes 8 img.toNat

/-- A mask of 128 members over the loads that meet p, load 0 in bit 0 of the first byte. -/
def loadMask (lb : Budget) (p : Load → Bool) : List Byte :=
  leBytes 16 (((List.range 128).filter fun i => p (lb.load i)).foldl (fun n i => n + 2 ^ i) 0)

/-- A list whose length varies: its count, then its entries (R201). -/
def counted {α : Type} (l : List α) (entry : α → List Byte) : List Byte := u8 l.length ++ l.flatMap entry

/-- A signed two-byte figure that may be none, all ones for none: the Tz used, whose none reads as −0.1 °C (R132, R201).
DEDUCED (log 70). -/
def i16? (v : Option Int) : List Byte :=
  match v with
  | some x => i16 x
  | none => [0xFF, 0xFF]

/-- n bytes of all ones: none. DEDUCED (log 21). -/
def noneBytes (n : Nat) : List Byte := List.replicate n 0xFF

/-- ASK_STATUS (R191): the 25 data bytes of the STATUS reply. -/
def Part.statusData (s : Part) : List Byte :=
  let c := s.clock
  u8 c.state.code ++ u16 c.weekMinute ++ u8 c.second ++ u16 c.dayCount ++ u8 s.cal.editor.code ++ u8 s.dl.line.code ++
    u8 s.stationsPresent ++ u16 s.lb.el ++ u16 s.lb.grantedSum ++ u16 s.lb.floor ++ u8 s.link.notices.length ++
    u8 s.link.holding.length ++ flagByte s.link.saving.isSome ++ flagByte s.link.unsaved ++ u16 s.link.errors ++
    u16 s.dl.errors ++ u8 s.link.startCause.code ++ u8 s.link.source.code

/-- ASK_CLOCK (R13). -/
def Part.clockData (s : Part) : List Byte :=
  let c := s.clock
  u8 c.state.code ++ u16 c.weekMinute ++ u8 c.second ++ u16 c.tick ++ u16 c.dayCount ++ i16 c.cv ++ i16 c.tb ++
    u8 c.tbSource.code ++ flagByte c.cvClamped ++ u16 c.mark ++ i16 c.trimA ++ u8 c.trimKq ++ u8 c.trimT0 ++
    flagByte c.trimChanged

/-! ### Calendar (R27) -/

/-- Every header field. -/
def Header.data (h : Header) : List Byte :=
  u16 h.idleSetpoint ++ u8 h.idleLight ++ u8 h.idleVent ++ u8 h.presenceLight ++ u8 h.presenceHold ++ u8 h.doorLight ++
    u8 h.outdoor ++ i16 h.curtainThreshold ++ u16 h.runOn ++ u8 (if h.fallbackActive then 2 else 0) ++ u8 h.fallbackProfile

/-- Every field of a shift entry. -/
def Shift.data (e : Shift) : List Byte :=
  flagByte e.inUse ++ u8 e.days.toNat ++ u16 e.start ++ u16 e.length ++ u8 e.profile ++ u16 e.zones.toNat

/-- Every field of a profile. -/
def Profile.data (p : Profile) : List Byte :=
  u16 p.setActive ++ u16 p.setWarmup ++ u16 p.setWinddown ++ u8 p.lightActive ++ u8 p.lightOther ++ u8 p.ventActive ++
    u8 p.ventWinddown ++ u8 p.lead ++ u8 p.hold ++ u8 p.doorLimit

/-- Every field of a limit window. -/
def LimitWindow.data (w : LimitWindow) : List Byte :=
  flagByte w.inUse ++ u8 w.days.toNat ++ u16 w.start ++ u16 w.stop ++ u16 w.limit

/-- Item STATE. -/
def Part.calStateData (s : Part) : List Byte :=
  u8 s.cal.editor.code ++ present16 (s.cal.activeWindow.map (·.1)) ++ u8? (s.cal.activeWindow.map (·.2))

/-- A standing: phase, profile, source, the source by the codes of the notices. DEDUCED (log 62). -/
def Standing.data (st : Standing) : List Byte := u8 st.phase.code ++ u8? st.profile ++ u8 st.source.code

/-- An override kind by its place: ACTIVE 0, IDLE 1. -/
def OverrideKind.code : OverrideKind → Nat
  | .active _ => 0
  | .idle => 1

/-- Item ZONE. -/
def CalZone.data (z : CalZone) : List Byte :=
  z.calendar.data ++ z.effective.data ++ u8? (z.phaseOverride.map (·.kind.code)) ++
    u8? (z.phaseOverride.bind (·.kind.profile)) ++ u16? (z.phaseOverride.map (·.minutes)) ++
    u8? (z.lightOverride.map (·.level)) ++ u16? (z.lightOverride.map (·.minutes))

/-! ### Zones, channels, groups -/

/-- A zone's configuration as stored. -/
def ZoneConfig.data (c : ZoneConfig) : List Byte :=
  u8 c.channel ++ u8 c.group ++ u8 c.kd ++ u8 c.kv ++ u8 c.kp ++ u8 c.ki ++ u16 c.imax ++ u8 c.hyst ++ u8 c.fallback ++
    u8 c.floor ++ u8? c.dim

/-- ZONE_READ (R132). A stopped presence timer is sent as none, all ones. DESIGN CHOICE (log 96). -/
def Part.zoneData (s : Part) (z : Nat) : List Byte :=
  let r := s.zone z
  let st := s.effective z
  r.cfg.data ++ u8 s.zc.interval ++ u16 s.zc.hold ++ u8 r.mode.code ++ flagByte r.evaluated ++ i16? r.tz ++ u16 r.sp ++
    u8 r.quarters ++ u16 r.doorTerm ++ u16 r.ventTerm ++ i16 r.e ++ i16 r.p ++ u16 r.i ++ u16 r.iterm ++ u16 r.d ++ u8 r.s ++
    u8 r.g ++ u8 r.gFan ++ u8 (s.lb.count .heat z) ++ flagByte r.guard ++ u8 r.timer ++ u8 st.phase.code ++ u8? st.profile ++
    u8 r.lr ++ u8 r.lightSource.code ++ u16? r.presence ++ flagByte r.lightGuard ++ u8 r.direct

/-- A channel's configuration as stored. -/
def ChanConfig.data (c : ChanConfig) : List Byte :=
  u8 c.kind.code ++ flagByte c.enabled ++ u8 c.gain.code ++ u8 c.settle ++ i16 c.scaleLo ++ i16 c.scaleHi ++ u8 c.depth.code ++
    flagByte c.rail ++ flagByte c.windowOn ++ flagByte c.inside ++ i16 c.lo ++ i16 c.hi ++ u16 c.lowHyst ++ u16 c.highHyst ++
    u8 c.group ++ i16 c.t1 ++ i16 c.t2 ++ i16 c.t3 ++ u16 c.rise ++ u16 c.fall

/-- CHAN_READ CHANNEL (R62). -/
def Channel.data (c : Channel) : List Byte :=
  c.cfg.data ++ u16 c.lastRaw ++ u8 c.history.length ++ flagByte c.clearPending ++ i16 c.value ++ flagByte c.known ++
    u8 c.validity.code ++ u8 c.badRun ++ u8 c.goodRun ++ present16 c.age ++ u8 c.window.code ++ flagByte c.entered ++
    flagByte c.left

/-- A scan list, or none as all ones in place of its count. -/
def listData : Option (List Nat) → List Byte
  | some l => counted l u8
  | none => noneBytes 1

/-- The round state: BETWEEN, or IN_ROUND with its position. -/
def Round.data : Round → List Byte
  | .between => u8 0 ++ noneBytes 1
  | .inRound k => u8 1 ++ u8 k

/-- The converter: idle, or its channel and whether the conversion is a scan (0) or a priority (1) conversion. -/
def converterData : Option Conversion → List Byte
  | none => noneBytes 2
  | some v => u8 v.channel ++ flagByte v.priority

/-- CHAN_READ SCAN (R62). -/
def Measurement.scanData (m : Measurement) : List Byte :=
  counted m.active u8 ++ listData m.staged ++ u8 m.period ++ u8 m.fast ++ m.round.data ++ converterData m.converter ++
    counted m.priority fun e => u8 e.channel ++ flagByte e.measure

/-- FLAGS_CLEAR (R60): the two flags of every channel in the mask. -/
def Measurement.flagsData (m : Measurement) (mask : BitVec 24) : List Byte :=
  ((List.range 21).filter mask.getLsbD).flatMap fun c => flagByte (m.channel c).entered ++ flagByte (m.channel c).left

/-- GROUP_READ (R160). -/
def Part.groupData (s : Part) (g : Nat) : List Byte :=
  let r := s.group g
  let m := s.lb.count .fan g
  let members := (List.range 20).filter fun c => (s.gasOf c).member && decide ((s.gasOf c).group = g)
  u8 r.credit ++ u16 s.air.hold ++ u8 m ++
    counted members (fun c => u8 c ++ u8 (s.gasOf c).level ++ u8 (s.gasOf c).source.code ++ u16 (s.gasOf c).watch) ++
    counted (zonesOfGroup (Tab.each s.zc.zones (·.cfg)) g)
      (fun z => u8 z ++ u8 (s.effective z).phase.code ++ u8 (s.ventMinOf z)) ++
    u8 (s.openCount g) ++ u8 r.base ++ flagByte r.applied ++ u8 r.demand ++ flagByte r.guard ++
    counted (List.range m) (fun k => flagByte (Tab.get r.handed k).on ++ u16 (Tab.get r.handed k).urgency) ++
    u8 (s.lb.grantedCount .fan g)

/-! ### Stations (R111) -/

/-- The fields a station last reported, or none. -/
def reportedData : Option Reported → List Byte
  | none => noneBytes 5
  | some r => u8 r.position.code ++ flagByte r.trailer ++ flagByte r.restraint ++ u8 r.stage ++ flagByte r.light

/-- The four flags and the restart count of the last condition, a byte each, or none (R111). DEDUCED (log 21). -/
def conditionData : Option Byte → List Byte
  | none => noneBytes 5
  | some c =>
    flagByte (c.getLsbD 7) ++ flagByte (c.getLsbD 6) ++ flagByte (c.getLsbD 5) ++ flagByte (c.getLsbD 4) ++
      u8 (c.toNat % 16)

/-- The clock at an opening, or none. -/
def openedData : Option OpenedAt → List Byte
  | none => noneBytes 4
  | some o => u16 o.weekMinute ++ u8 o.second ++ flagByte o.clockSet

/-- An outputs figure. -/
def Outputs.data (o : Outputs) : List Byte := u8 o.stage ++ flagByte o.light

/-- A station's queue entry, kind SET_OUTPUTS 0 or QUERY 1 and whether it is IN_FLIGHT, or none. -/
def entryData : Option OutEntry → List Byte
  | none => noneBytes 2
  | some e => u8 (match e.kind with | .setOutputs => 0 | .query => 1) ++ flagByte e.inFlight

/-- STATION_READ ONE (R111). A stopped silence timer is sent as none, all ones. DESIGN CHOICE (log 96). -/
def Part.stationData (s : Part) (a : Nat) : List Byte :=
  let st := s.station a
  flagByte st.cfg.enabled ++ u8 st.cfg.zone ++ u8 st.state.code ++ u8? (st.lastResult.map (·.code)) ++ u8 st.noAnswers ++
    present8 (st.stationType.map (·.toNat)) ++ present8 (st.revision.map (·.toNat)) ++ reportedData st.reported ++
    conditionData st.condition ++ u8 st.door.code ++ flagByte st.docked ++ openedData st.openedAt ++
    present16 st.watch ++ flagByte st.limitSent ++ u16 st.opens ++ u16 st.openSeconds ++ u16 st.motion ++ u8 st.demand ++
    (s.formedOutputs a).data ++ st.lastFormed.data ++ flagByte st.pending ++ u16? st.silence ++ entryData (s.dl.entryOf a)

/-- STATION_READ SUMMARY: state and door state station by station (R111). DESIGN CHOICE (log 69). -/
def Part.stationSummary (s : Part) : List Byte :=
  u16 s.dl.timeout ++ (Tab.list s.dl.stations).flatMap (fun st => u8 st.state.code ++ u8 st.door.code) ++
    (List.range 12).flatMap (fun z => u8 (s.doorQuarters z)) ++ (List.range 12).flatMap fun z => u8 (s.dl.limit z)

/-! ### Load budget (R183) -/

/-- A load's configuration as stored. -/
def LoadConfig.data (c : LoadConfig) : List Byte :=
  u8 c.kind.code ++ u8? c.owner ++ u8 c.stage ++ u16 c.rating ++ u8 c.rank ++ u8 c.protection.code ++ u8 c.floor ++
    u16 c.minOn ++ u16 c.minOff ++ c.binding.bytes ++ flagByte c.enabled

/-- A grant: none all ones, on 1, or the level of a LIGHT. -/
def Grant.data : Grant → List Byte
  | .none => noneBytes 1
  | .on => u8 1
  | .level l => u8 l

/-- LOAD_READ ONE (R183); the place in the start queue counts from 0 at its head, and a stopped min-on or min-off timer is sent
as none, all ones. DESIGN CHOICE (log 78, 96). -/
def Budget.loadData (lb : Budget) (i : Nat) : List Byte :=
  let l := lb.load i
  l.cfg.data ++ u8 l.request ++ u16 l.urgency ++ l.grant.data ++ u8 l.state.code ++ u16? l.minOn ++ u16? l.minOff ++
    u8 l.refused.code ++ flagByte (lb.requested l) ++ flagByte (lb.holds l) ++ flagByte (lb.protects l.cfg) ++
    flagByte (lb.guardOf l.cfg) ++ u16 (l.cfg.draw l.grant) ++ u8? (lb.queue.idxOf? i)

/-- Who drives dim output n: the budget 0, a zone 1, or none, sent as 0xFF. DESIGN CHOICE (log 84). -/
def Part.dimDriver (s : Part) (n : Nat) : Option Nat :=
  if (s.lb.dimLoad n).isSome then some 0 else if (s.zoneDuty n).isSome then some 1 else none

/-- LOAD_READ SUMMARY (R183); the duty and the driver stand output by output, and a stopped spacing timer is sent as none, all
ones. DESIGN CHOICE (log 83, 96). -/
def Part.loadSummary (s : Part) : List Byte :=
  let lb := s.lb
  u16 lb.el ++ u16 lb.floor ++ u16 lb.grantedSum ++ u16 lb.base ++ present16 lb.window ++
    present16 (lb.cap.map (·.value)) ++ u16? (lb.cap.map (·.left)) ++ u8 lb.spacing ++ u8? lb.spacingTimer ++
    u8 lb.refusedLoads.length ++ u16 lb.refusedDraw ++ flagByte lb.anyForced ++
    loadMask lb (fun l => decide (l.refused ≠ .none)) ++ loadMask lb (fun l => decide (l.refused = .forced)) ++
    counted lb.queue u8 ++ imageBytes lb.image ++ flagByte lb.shifting.isSome ++ flagByte lb.marked ++
    (List.range 12).flatMap fun n => u8 (s.dimDuty n) ++ u8? (s.dimDriver n)

end Sys2Proof.Machine
end

