-- ==== Sys2Proof/Machine/Requests.lean ====
section
/-! DEFINITION. What each owner does with a request it is handed, and the verdict it forms (10, "The request catalogue"): one
definition for each request of the catalogue or form of one. -/

namespace Sys2Proof.Machine

/-! ### Shared forms of an owner's answer -/

/-- The values are stored by an owner, or the refusal answered (R189). -/
def Part.outcome {α : Type} (s : Part) (c : Checked α) (store : α → Part) (data : Part → List Byte) : Part × Verdict :=
  match c with
  | .refuse code field => (s, .refused code field)
  | .accept v cut => (store v, .done cut (data (store v)))

/-- An accepted write sets unsaved changes (R191). -/
def unsavedIfDone (r : Part × Verdict) : Part × Verdict :=
  match r.2 with
  | .done _ _ => (r.1.markUnsaved, r.2)
  | _ => r

/-- A configuration write: refused BUSY before its owner's checks while a save runs, and setting unsaved changes when
accepted (R191). -/
def Part.configWrite (s : Part) (act : Part → Part × Verdict) : Part × Verdict :=
  if s.link.saving.isSome then (s, .refused .busy 0) else unsavedIfDone (act s)

/-- A read of item data that a check may refuse. -/
def Part.read (s : Part) (bad : Bool) (field : Nat) (data : Part → List Byte) : Part × Verdict :=
  if bad then (s, .refused .index field) else (s, .done 0 (data s))

/-! ### Link port and shift clock -/

/-- ASK_STATUS (R191). -/
def Part.doAskStatus (s : Part) : Part × Verdict := (s, .done 0 s.statusData)

/-- SET_CLOCK (R11). -/
def Part.doSetClock (m : Half) (sec : Byte) (days : Half) (s : Part) : Part × Verdict :=
  let o := clockOperands m sec days
  (s.setClock o.1.1 o.1.2.1 o.1.2.2, .done o.2 [])

/-- ASK_CLOCK (R13). -/
def Part.doAskClock (s : Part) : Part × Verdict := (s, .done 0 s.clockData)

/-- The trim stored in the clock record, trim changed set (R10). -/
def Clock.withTrim (c : Clock) (a : Int) (kq t0 : Nat) : Clock :=
  { c with trimA := a, trimKq := kq, trimT0 := t0, trimChanged := true }

/-- SET_TRIM (R10). -/
def Part.doSetTrim (a : Half) (kq t0 : Byte) (s : Part) : Part × Verdict :=
  s.configWrite fun s =>
    let o := trimOperands a kq t0
    ({ s with clock := s.clock.withTrim o.1.1 o.1.2.1 o.1.2.2 }, .done o.2 [])

/-! ### Calendar unit -/

/-- The part with its editor set. -/
def Part.setEditor (s : Part) (e : Editor) : Part := { s with cal := { s.cal with editor := e } }

/-- CAL_OPEN (R22). DESIGN CHOICE (log 17). -/
def Part.doCalOpen (s : Part) : Part × Verdict :=
  match s.cal.editor with
  | .noEdit => (s.setEditor (.editing s.cal.running), .done 0 [])
  | .editing _ => (s, .refused .state 0)
  | .pending _ => (s, .refused .state 0)

/-- A write of a record of the edit copy (R18): taken in EDITING, STATE otherwise. -/
def Part.calWrite {α : Type} (s : Part) (c : Checked α) (store : CalCopy → α → CalCopy) : Part × Verdict :=
  match s.cal.editor with
  | .editing copy => s.outcome c (fun v => s.setEditor (.editing (store copy v))) fun _ => []
  | .noEdit => (s, .refused .state 0)
  | .pending _ => (s, .refused .state 0)

/-- CAL_WRITE_HEADER (R18). -/
def Part.doCalWriteHeader (f : HeaderFields) (s : Part) : Part × Verdict :=
  s.calWrite (headerOperands f) fun c h => { c with header := h }

/-- CAL_WRITE_SHIFT (R19). -/
def Part.doCalWriteShift (entry : Byte) (f : ShiftFields) (s : Part) : Part × Verdict :=
  s.calWrite (shiftOperands entry f) fun c e => { c with shifts := Tab.put c.shifts entry.toNat e }

/-- CAL_WRITE_PROFILE (R20). -/
def Part.doCalWriteProfile (profile : Byte) (f : ProfileFields) (s : Part) : Part × Verdict :=
  s.calWrite (profileOperands profile f) fun c p => { c with profiles := Tab.put c.profiles profile.toNat p }

/-- CAL_WRITE_WINDOW (R21). -/
def Part.doCalWriteWindow (window : Byte) (f : WindowFields) (s : Part) : Part × Verdict :=
  s.calWrite (windowOperands window f) fun c w => { c with windows := Tab.put c.windows window.toNat w }

/-- CAL_CLOSE (R24): validation, then PENDING or CONFLICT with the item that failed. -/
def Part.doCalClose (s : Part) : Part × Verdict :=
  match s.cal.editor with
  | .editing copy =>
    match copy.firstFailure with
    | some item => (s, .refused .conflict item)
    | none => (s.setEditor (.pending copy), .done 0 (u8 2))
  | .noEdit => (s, .refused .state 0)
  | .pending _ => (s, .refused .state 0)

/-- CAL_DROP (R25). -/
def Part.doCalDrop (s : Part) : Part × Verdict :=
  match s.cal.editor with
  | .noEdit => (s, .refused .state 0)
  | .editing _ => (s.setEditor .noEdit, .done 0 [])
  | .pending _ => (s.setEditor .noEdit, .done 0 [])

/-- A read of a calendar record (R27): copy selector, then number, then the editor state for the edit copy. -/
def Part.calRead (s : Part) (copy : Byte) (badNumber : Bool) (data : CalCopy → List Byte) : Part × Verdict :=
  if 1 < copy.toNat then (s, .refused .range 2)
  else if badNumber then (s, .refused .index 3)
  else if copy = 0 then (s, .done 0 (data s.cal.running))
  else
    match s.cal.editor.copy? with
    | some c => (s, .done 0 (data c))
    | none => (s, .refused .state 2)

/-- CAL_READ of HEADER (R27). -/
def Part.doCalReadHeader (copy : Byte) (s : Part) : Part × Verdict := s.calRead copy false fun c => c.header.data

/-- CAL_READ of SHIFT (R27). -/
def Part.doCalReadShift (copy entry : Byte) (s : Part) : Part × Verdict :=
  s.calRead copy (decide (41 < entry.toNat)) fun c => (c.shift entry.toNat).data

/-- CAL_READ of PROFILE (R27). -/
def Part.doCalReadProfile (copy profile : Byte) (s : Part) : Part × Verdict :=
  s.calRead copy (decide (7 < profile.toNat)) fun c => (c.profile profile.toNat).data

/-- CAL_READ of WINDOW (R27). -/
def Part.doCalReadWindow (copy window : Byte) (s : Part) : Part × Verdict :=
  s.calRead copy (decide (7 < window.toNat)) fun c => (c.window window.toNat).data

/-- CAL_READ of STATE (R27). -/
def Part.doCalReadState (s : Part) : Part × Verdict := (s, .done 0 s.calStateData)

/-- CAL_READ of ZONE (R27). -/
def Part.doCalReadZone (zone : Byte) (s : Part) : Part × Verdict :=
  s.read (decide (11 < zone.toNat)) 3 fun s => (s.calZone zone.toNat).data

/-- ZONE_OVERRIDE PHASE_ACTIVE (R35). -/
def Part.doOverrideActive (zone profile : Byte) (d : Half) (s : Part) : Part × Verdict :=
  s.outcome
    (checks [(decide (11 < zone.toNat), .index, 1), (decide (7 < profile.toNat), .index, 3)] (overrideMinutes d)
      (firstCut [(4, durationCut d)]))
    (fun m => s.setPhaseOverride zone.toNat { kind := .active profile.toNat, minutes := m })
    fun _ => u16 (overrideMinutes d)

/-- ZONE_OVERRIDE PHASE_IDLE (R35). -/
def Part.doOverrideIdle (zone : Byte) (d : Half) (s : Part) : Part × Verdict :=
  s.outcome (checks [(decide (11 < zone.toNat), .index, 1)] (overrideMinutes d) (firstCut [(4, durationCut d)]))
    (fun m => s.setPhaseOverride zone.toNat { kind := .idle, minutes := m })
    fun _ => u16 (overrideMinutes d)

/-- ZONE_OVERRIDE LIGHT (R36). -/
def Part.doOverrideLight (zone level : Byte) (d : Half) (s : Part) : Part × Verdict :=
  s.outcome
    (checks [(decide (11 < zone.toNat), .index, 1)] (clampN 0 100 level.toNat)
      (firstCut [(3, outside 0 100 level.toNat), (4, durationCut d)]))
    (fun l => s.setLightOverride zone.toNat { level := l, minutes := overrideMinutes d })
    fun _ => u16 (overrideMinutes d)

/-- The data of a cancel (R37): whether an override was in force, and the minutes it had left, sent as none where there was none.
DESIGN CHOICE (log 90). -/
def cancelData (left : Option Nat) : List Byte := flagByte left.isSome ++ u16? left

/-- ZONE_OVERRIDE CANCEL_PHASE (R37). -/
def Part.doCancelPhase (zone : Byte) (s : Part) : Part × Verdict :=
  if 11 < zone.toNat then (s, .refused .index 1)
  else
    match (s.calZone zone.toNat).phaseOverride with
    | none => (s, .done 0 (cancelData none))
    | some o => (s.cancelPhase zone.toNat o, .done 0 (cancelData (some o.minutes)))

/-- ZONE_OVERRIDE CANCEL_LIGHT (R37). -/
def Part.doCancelLight (zone : Byte) (s : Part) : Part × Verdict :=
  if 11 < zone.toNat then (s, .refused .index 1)
  else
    match (s.calZone zone.toNat).lightOverride with
    | none => (s, .done 0 (cancelData none))
    | some o => (s.cancelLight zone.toNat o, .done 0 (cancelData (some o.minutes)))

/-! ### Zone conditioner -/

/-- Zone z's record with a written configuration, I cut to Imax (R114). -/
def Zone.withConfig (zone : Zone) (cfg : ZoneConfig) : Zone := { zone with cfg := cfg, i := min zone.i cfg.imax }

/-- An accepted ZONE_WRITE ONE: the effects of its changed fields, then the evaluation (R114). DEDUCED (log 56). -/
def Part.writeZone (s : Part) (z : Nat) (cfg : ZoneConfig) : Part :=
  let old := (s.zone z).cfg
  let s1 := s.setZone z ((s.zone z).withConfig cfg)
  let s2 :=
    if old.channel = cfg.channel then s1 else s1.setFreezeGuard z (decide ((s1.channel cfg.channel).window = .low))
  let s3 := if old.group = cfg.group then s2 else s2.oweGroups old.group cfg.group
  s3.evaluate z

/-- ZONE_WRITE ONE (R113, R114). -/
def Part.doZoneWriteOne (zone : Byte) (f : ZoneFields) (s : Part) : Part × Verdict :=
  s.configWrite fun s => s.outcome (zoneOperands zone f) (fun cfg => s.writeZone zone.toNat cfg) fun _ => []

/-- ZONE_WRITE TIMING (R115). -/
def Part.doZoneWriteTiming (interval : Byte) (hold : Half) (s : Part) : Part × Verdict :=
  s.configWrite fun s =>
    let o := timingOperands interval hold
    ({ s with zc := { s.zc with interval := o.1.1, hold := o.1.2 } }, .done o.2 [])

/-- ZONE_READ (R132). -/
def Part.doZoneRead (zone : Byte) (s : Part) : Part × Verdict :=
  s.read (decide (11 < zone.toNat)) 1 fun s => s.zoneData zone.toNat

/-! ### Measurement unit -/

/-- CHAN_WRITE (R43, R44, R45). -/
def Part.doChanWrite (channel : Byte) (f : ChannelFields) (s : Part) : Part × Verdict :=
  s.configWrite fun s =>
    s.outcome (channelOperands channel f) (fun cfg => s.writeChannel channel.toNat cfg) fun _ => []

/-- CHAN_READ CHANNEL (R62). -/
def Part.doChanReadChannel (channel : Byte) (s : Part) : Part × Verdict :=
  s.read (decide (20 < channel.toNat)) 2 fun s => (s.channel channel.toNat).data

/-- CHAN_READ SCAN (R62). -/
def Part.doChanReadScan (s : Part) : Part × Verdict := (s, .done 0 s.mu.scanData)

/-- The unit with a scan list staged and its periods stored (R49). -/
def Measurement.stage (m : Measurement) (v : ScanSettings) : Measurement :=
  { m with staged := some v.entries, period := v.period, fast := v.fast }

/-- SCAN_WRITE (R49). -/
def Part.doScanWrite (count : Byte) (entries : List Byte) (period fast : Byte) (s : Part) : Part × Verdict :=
  if scanLengthWrong count entries then (s, .refused .length 0)
  else
    s.configWrite fun s => s.outcome (scanOperands entries period fast) (fun v => { s with mu := s.mu.stage v }) fun _ => []

/-- MEASURE (R52). -/
def Part.doMeasure (channel : Byte) (s : Part) : Part × Verdict :=
  if 20 < channel.toNat then (s, .refused .index 1) else s.measure channel.toNat

/-- The unit with the flags of a mask's channels cleared (R60). DEDUCED (log 51). -/
def Measurement.clearFlags (m : Measurement) (mask : BitVec 24) : Measurement :=
  { m with
    channels := Tab.build 21 fun c =>
      if mask.getLsbD c then { m.channel c with entered := false, left := false } else m.channel c }

/-- FLAGS_CLEAR (R60). -/
def Part.doFlagsClear (mask : BitVec 24) (s : Part) : Part × Verdict :=
  ({ s with mu := s.mu.clearFlags mask }, .done 0 (s.mu.flagsData mask))

/-! ### Air quality unit -/

/-- GROUP_WRITE ONE (R152). -/
def Part.doGroupWriteOne (group credit : Byte) (s : Part) : Part × Verdict :=
  s.configWrite fun s =>
    s.outcome
      (checks [(decide (5 < group.toNat), .index, 2)] (clampN 0 48 credit.toNat)
        (firstCut [(3, outside 0 48 credit.toNat)]))
      (fun n => (s.setGroup group.toNat { s.group group.toNat with credit := n }).computeDemand group.toNat) fun _ => []

/-- GROUP_WRITE HOLD (R152). -/
def Part.doGroupWriteHold (limit : Half) (s : Part) : Part × Verdict :=
  s.configWrite fun s =>
    ({ s with air := { s.air with hold := clampN 0 600 limit.toNat } },
      .done (firstCut [(2, outside 0 600 limit.toNat)]) [])

/-- GROUP_READ (R160). -/
def Part.doGroupRead (group : Byte) (s : Part) : Part × Verdict :=
  s.read (decide (5 < group.toNat)) 1 fun s => s.groupData group.toNat

/-! ### Door line controller -/

/-- STATION_WRITE ONE (R90). -/
def Part.doStationWriteOne (address enabled zone : Byte) (s : Part) : Part × Verdict :=
  s.configWrite fun s =>
    s.outcome
      (checks
        [(!isAddress address.toNat, .index, 2), (notFlag enabled, .range, 3), (decide (11 < zone.toNat), .index, 4)]
        () 0)
      (fun _ => s.writeStation address.toNat (flagOf enabled) zone.toNat) fun _ => []

/-- The stations of a mask whose setting an action changes, in ascending address (R91). -/
def Part.maskStations (s : Part) (mask : BitVec 48) (enable : Bool) : List Nat :=
  addresses.filter fun a => mask.getLsbD (a - 1) && decide ((s.station a).enabled ≠ enable)

/-- STATION_WRITE MASK ENABLE (R91). -/
def Part.doStationMaskEnable (mask : BitVec 48) (s : Part) : Part × Verdict :=
  s.configWrite fun s =>
    let l := s.maskStations mask true
    (s.forEach l Part.enableStation, .done 0 (u8 l.length))

/-- STATION_WRITE MASK DISABLE (R91). -/
def Part.doStationMaskDisable (mask : BitVec 48) (s : Part) : Part × Verdict :=
  s.configWrite fun s =>
    let l := s.maskStations mask false
    (s.forEach l Part.disableStation, .done 0 (u8 l.length))

/-- STATION_WRITE TIMEOUT (R92). -/
def Part.doStationTimeout (timeout : Half) (s : Part) : Part × Verdict :=
  s.configWrite fun s =>
    ({ s with dl := { s.dl with timeout := clampN 30 300 timeout.toNat } },
      .done (firstCut [(2, outside 30 300 timeout.toNat)]) [])

/-- STATION_READ ONE (R111). -/
def Part.doStationReadOne (address : Byte) (s : Part) : Part × Verdict :=
  s.read (!isAddress address.toNat) 2 fun s => s.stationData address.toNat

/-- STATION_READ SUMMARY (R111). -/
def Part.doStationReadSummary (s : Part) : Part × Verdict := (s, .done 0 s.stationSummary)

/-- LINE_RESET (R81). -/
def Part.doLineReset (s : Part) : Part × Verdict := s.sendClear

/-! ### Load budget -/

/-- A load with a written configuration (R164). -/
def Load.withConfig (l : Load) (c : LoadConfig) : Load :=
  let moved := decide (l.cfg.kind ≠ c.kind) || decide (l.cfg.owner ≠ c.owner)
  let l1 := { l with cfg := c }
  let l2 := if moved then { l1 with request := 0, urgency := 0, refused := .none } else l1
  if (moved || decide (l.cfg.binding ≠ c.binding)) && decide (l.state = .resting) then
    { l2 with state := .off, minOff := none }
  else l2

/-- The zone conditioner is told of zone z's loads gained and lost (R116, R139). -/
def Part.tellZone (before : Budget) (s : Part) (z : Nat) : Part :=
  let s1 := if before.count .heat z = s.lb.count .heat z then s else s.takeStageCount z
  if before.count .light z = 0 ∧ s.lb.count .light z ≠ 0 then s1.gainLight z
  else if before.count .light z ≠ 0 ∧ s.lb.count .light z = 0 then s1.loseLight z
  else s1

/-- The zone conditioner is told of station a's CURTAIN load gained or lost (R139). -/
def Part.tellStation (before : Budget) (s : Part) (a : Nat) : Part :=
  if before.count .curtain a = 0 ∧ s.lb.count .curtain a ≠ 0 then s.gainCurtain a
  else if before.count .curtain a ≠ 0 ∧ s.lb.count .curtain a = 0 then s.loseCurtain a
  else s

/-- The air quality unit is told of group g's new M (R153). -/
def Part.tellGroup (before : Budget) (s : Part) (g : Nat) : Part :=
  if before.count .fan g = s.lb.count .fan g then s else s.takeFanCount g

/-- The owners whose loads have changed in number are told (R164). DESIGN CHOICE (log 54). -/
def Part.tellOwners (s : Part) (before : Budget) : Part :=
  ((s.forEach (List.range 12) (Part.tellZone before)).forEach addresses (Part.tellStation before)).forEach (List.range 6)
    (Part.tellGroup before)

/-- An accepted LOAD_WRITE (R164). -/
def Part.writeLoad (s : Part) (i : Nat) (c : LoadConfig) : Part :=
  (s.withTable (s.lb.setLoad i ((s.lb.load i).withConfig c))).tellOwners s.lb

/-- LOAD_WRITE (R163, R164). -/
def Part.doLoadWrite (load : Byte) (f : LoadFields) (s : Part) : Part × Verdict :=
  s.configWrite fun s => s.outcome (loadOperands s.lb load f) (fun c => s.writeLoad load.toNat c) fun _ => []

/-- LOAD_READ ONE (R183). -/
def Part.doLoadReadOne (load : Byte) (s : Part) : Part × Verdict :=
  s.read (decide (127 < load.toNat)) 2 fun s => s.lb.loadData load.toNat

/-- LOAD_READ SUMMARY (R183). -/
def Part.doLoadReadSummary (s : Part) : Part × Verdict := (s, .done 0 s.loadSummary)

/-- LOAD_ENABLE with an action (R165); a CONFLICT names field 1, the mask. DESIGN CHOICE (log 94). -/
def Part.enableLoads (s : Part) (mask : BitVec 128) (set : Bool) : Part × Verdict :=
  let lb := { s.lb with loads := withEnables s.lb mask set }
  if enablesConflict lb then (s, .refused .conflict 1)
  else (s.withTable lb, .done 0 (u8 (enablesChanged s.lb mask set)))

/-- LOAD_ENABLE SET (R165). -/
def Part.doLoadEnableSet (mask : BitVec 128) (s : Part) : Part × Verdict := s.configWrite fun s => s.enableLoads mask true

/-- LOAD_ENABLE CLEAR (R165). -/
def Part.doLoadEnableClear (mask : BitVec 128) (s : Part) : Part × Verdict :=
  s.configWrite fun s => s.enableLoads mask false

/-- A request of load i by the host is stored, with a pass when it changes (R166). -/
def Part.storeAux (s : Part) (i request urgency : Nat) : Part :=
  let r := s.lb.storeRequest (some i) request urgency
  if r.2 then s.withTable r.1 else s

/-- AUX_REQUEST (R166). -/
def Part.doAuxRequest (load request : Byte) (urgency : Half) (s : Part) : Part × Verdict :=
  s.outcome (auxOperands s.lb load request urgency) (fun v => s.storeAux load.toNat v.1 v.2) fun _ => []

/-- LIMIT_WRITE (R169). -/
def Part.doLimitWrite (base : Half) (spacing : Byte) (s : Part) : Part × Verdict :=
  s.configWrite fun s =>
    let s1 := s.withLimits { s.lb with base := base.toNat, spacing := clampN 0 30 spacing.toNat }
    (s1, .done (firstCut [(2, outside 0 30 spacing.toNat)]) (u16 s1.lb.el))

/-- LIMIT_CAP SET (R170). -/
def Part.doLimitCapSet (value : Half) (minutes : Byte) (s : Part) : Part × Verdict :=
  let s1 := s.withLimits
    { s.lb with cap := some { value := value.toNat, left := clampN 1 240 minutes.toNat * 60 } }
  (s1, .done (firstCut [(3, outside 1 240 minutes.toNat)]) (u16 s1.lb.el))

/-- LIMIT_CAP CANCEL (R170). -/
def Part.doLimitCapCancel (s : Part) : Part × Verdict :=
  let s1 := s.withLimits { s.lb with cap := none }
  (s1, .done 0 (u16 s1.lb.el ++ u16? (s.lb.cap.map (·.left))))

/-! ### Link port -/

/-- NOTICE_MASK (R192): the reply carries the mask held before. -/
def Part.doNoticeMask (mask : Half) (s : Part) : Part × Verdict :=
  s.configWrite fun s =>
    ({ s with link := { s.link with mask := mask.setWidth 14 } }, .done 0 (u16 s.link.mask.toNat))

/-- The working configuration of every block as it stands (10, "The configuration store"; R49 for the scan list).
DESIGN CHOICE (log 10). -/
def Part.working (s : Part) : WorkingConfig :=
  { calendar := s.cal.running
    trimA := s.clock.trimA, trimKq := s.clock.trimKq, trimT0 := s.clock.trimT0
    zones := Tab.each s.zc.zones (·.cfg), interval := s.zc.interval, tempHold := s.zc.hold
    channels := Tab.each s.mu.channels (·.cfg), scanList := s.mu.staged.getD s.mu.active, scanPeriod := s.mu.period
    fastInterval := s.mu.fast
    credits := Tab.each s.air.groups (·.credit), gasHold := s.air.hold
    stations := Tab.each s.dl.stations (·.cfg), timeout := s.dl.timeout
    loads := Tab.each s.lb.loads (·.cfg), base := s.lb.base, spacing := s.lb.spacing
    mask := s.link.mask }

/-- SAVE_CONFIG (R195): a save starts with a snapshot, and the reply is deferred; BUSY while one runs.
DEDUCED (log 49). -/
def Part.doSaveConfig (s : Part) : Part × Verdict :=
  if s.link.saving.isSome then (s, .refused .busy 0)
  else ({ s with link := { s.link with saving := some s.working, unsaved := false } }, .deferred)

/-- RESTART (R199): DONE, the restart taking effect when the reply has been sent; BUSY while a save runs. -/
def Part.doRestart (s : Part) : Part × Verdict :=
  if s.link.saving.isSome then (s, .refused .busy 0) else (s, .done 0 [])

/-! ### The catalogue -/

/-- A row that is no request, which no body spells. -/
def Part.notRequest (s : Part) : Part × Verdict := (s, .refused .kind 0)

/-- A request is handed to its owner (R188). -/
def Part.serve (i : Instr) (s : Part) : Part × Verdict :=
  match i with
  | .askStatus _ => s.doAskStatus
  | .setClock _ m sec days => s.doSetClock m sec days
  | .askClock _ => s.doAskClock
  | .setTrim _ a kq t0 => s.doSetTrim a kq t0
  | .calOpen _ => s.doCalOpen
  | .calWriteHeader _ f => s.doCalWriteHeader f
  | .calWriteShift _ n f => s.doCalWriteShift n f
  | .calWriteProfile _ n f => s.doCalWriteProfile n f
  | .calWriteWindow _ n f => s.doCalWriteWindow n f
  | .calClose _ => s.doCalClose
  | .calDrop _ => s.doCalDrop
  | .calReadHeader _ c => s.doCalReadHeader c
  | .calReadShift _ c n => s.doCalReadShift c n
  | .calReadProfile _ c n => s.doCalReadProfile c n
  | .calReadWindow _ c n => s.doCalReadWindow c n
  | .calReadState _ => s.doCalReadState
  | .calReadZone _ z => s.doCalReadZone z
  | .zoneWriteOne _ z f => s.doZoneWriteOne z f
  | .zoneWriteTiming _ i h => s.doZoneWriteTiming i h
  | .zoneRead _ z => s.doZoneRead z
  | .zoneOverridePhaseActive _ z p d => s.doOverrideActive z p d
  | .zoneOverridePhaseIdle _ z d => s.doOverrideIdle z d
  | .zoneOverrideLight _ z l d => s.doOverrideLight z l d
  | .zoneOverrideCancelPhase _ z => s.doCancelPhase z
  | .zoneOverrideCancelLight _ z => s.doCancelLight z
  | .chanWrite _ c f => s.doChanWrite c f
  | .chanReadChannel _ c => s.doChanReadChannel c
  | .chanReadScan _ => s.doChanReadScan
  | .scanWrite _ n es p f => s.doScanWrite n es p f
  | .measure _ c => s.doMeasure c
  | .flagsClear _ m => s.doFlagsClear m
  | .groupWriteOne _ g c => s.doGroupWriteOne g c
  | .groupWriteHold _ h => s.doGroupWriteHold h
  | .groupRead _ g => s.doGroupRead g
  | .stationWriteOne _ a e z => s.doStationWriteOne a e z
  | .stationWriteMaskEnable _ m => s.doStationMaskEnable m
  | .stationWriteMaskDisable _ m => s.doStationMaskDisable m
  | .stationWriteTimeout _ h => s.doStationTimeout h
  | .stationReadOne _ a => s.doStationReadOne a
  | .stationReadSummary _ => s.doStationReadSummary
  | .lineReset _ => s.doLineReset
  | .loadWrite _ n f => s.doLoadWrite n f
  | .loadReadOne _ n => s.doLoadReadOne n
  | .loadReadSummary _ => s.doLoadReadSummary
  | .loadEnableSet _ m => s.doLoadEnableSet m
  | .loadEnableClear _ m => s.doLoadEnableClear m
  | .auxRequest _ n r u => s.doAuxRequest n r u
  | .limitWrite _ b sp => s.doLimitWrite b sp
  | .limitCapSet _ v m => s.doLimitCapSet v m
  | .limitCapCancel _ => s.doLimitCapCancel
  | .noticeMask _ m => s.doNoticeMask m
  | .saveConfig _ => s.doSaveConfig
  | .restart _ => s.doRestart
  | .requestUnknownKind _ _ _ => s.notRequest
  | .powerOn _ _ => s.notRequest
  | .resetAsserted => s.notRequest
  | .linkFrameReceived _ _ _ _ => s.notRequest
  | .linkGapTimeout => s.notRequest
  | .linkFrameSent => s.notRequest
  | .saveComplete => s.notRequest
  | .restartEffect => s.notRequest
  | .quarterSecondMark => s.notRequest
  | .correctionCycle => s.notRequest
  | .minuteBoundary => s.notRequest
  | .scanTimerExpiry => s.notRequest
  | .fastScanTimerExpiry => s.notRequest
  | .conversionComplete _ => s.notRequest
  | .validAgeSecond => s.notRequest
  | .gasConversion _ => s.notRequest
  | .holdCheck => s.notRequest
  | .groupDemandCompute _ => s.notRequest
  | .frameStart => s.notRequest
  | .arbitrationLost => s.notRequest
  | .doorReport _ _ _ => s.notRequest
  | .hello _ _ _ _ _ => s.notRequest
  | .statusReport _ _ _ _ => s.notRequest
  | .presenceReport _ _ => s.notRequest
  | .stationFrameRejected _ => s.notRequest
  | .answerSent => s.notRequest
  | .queryAnswer _ _ _ => s.notRequest
  | .setOutputsAnswer _ _ => s.notRequest
  | .noAnswer => s.notRequest
  | .lineRest => s.notRequest
  | .lineClearReceived => s.notRequest
  | .lineStuck => s.notRequest
  | .stuckRelease => s.notRequest
  | .lineDead => s.notRequest
  | .deadProbe _ _ => s.notRequest
  | .silenceTimerExpiry _ => s.notRequest
  | .probeTimerExpiry => s.notRequest
  | .doorSecondTick => s.notRequest
  | .phaseHandoffDoorLine _ => s.notRequest
  | .zoneEvaluation _ => s.notRequest
  | .evaluationTimerExpiry _ => s.notRequest
  | .freezeGuardEdge _ _ => s.notRequest
  | .presenceTimerExpiry _ => s.notRequest
  | .runOnExpiry _ => s.notRequest
  | .allocationPass _ => s.notRequest
  | .spacingTimerExpiry => s.notRequest
  | .minOnExpiry _ => s.notRequest
  | .minOffExpiry _ => s.notRequest
  | .capExpiry => s.notRequest
  | .outputRefreshLatch => s.notRequest
  | .periodicRefresh => s.notRequest
  | .crystalCycle => s.notRequest
  | .drivingEdge => s.notRequest
  | .dimPeriodStart _ => s.notRequest
  | .linkByteReceived _ => s.notRequest

end Sys2Proof.Machine
end

