-- ==== Sys2Proof/Machine/LinkPort.lean ====
section
/-! DEFINITION. The link port (10): the receiver (R186), the holding area (R187), the taking of requests (R188, R189), the
transmitter (R190), the end of a save (R195), power-on (R196), reset (R198) and the effect of RESTART (R199). -/

namespace Sys2Proof.Machine

/-! ### The receiver (R186) -/

/-- A frame is discarded: the error count rises and the receiver hunts. -/
def Link.discard (l : Link) : Link := { l with receiver := .hunt, errors := satAdd 65535 l.errors 1 }

/-- One byte of the receiver: the link port after it, and the body of a frame received whole. -/
def Link.receiveByte (l : Link) (b : Byte) : Link × Option (List Byte) :=
  match l.receiver with
  | .hunt => (if b = Config.beginByte then { l with receiver := .length } else l, none)
  | .length =>
    if b.toNat < 2 ∨ 250 < b.toNat then (l.discard, none) else ({ l with receiver := .body b b.toNat [] }, none)
  | .body len left got =>
    if left ≤ 1 then ({ l with receiver := .check len (got ++ [b]) none }, none)
    else ({ l with receiver := .body len (left - 1) (got ++ [b]) }, none)
  | .check len got none => ({ l with receiver := .check len got (some b) }, none)
  | .check len got (some high) =>
    if crc16 (len :: got) = high ++ b then ({ l with receiver := .hunt }, some got) else (l.discard, none)

/-- A gap inside a frame discards it. DESIGN CHOICE (log 58). -/
def Link.gap (l : Link) : Link :=
  match l.receiver with
  | .hunt => l
  | .length => l.discard
  | .body _ _ _ => l.discard
  | .check _ _ _ => l.discard

/-! ### Holding and taking -/

/-- A body received whole joins the holding area, or is refused BUSY, or is discarded and counted (R187). The reply being sent
holds none of the 8 places that decide between the last two. DESIGN CHOICE (log 100). -/
def Link.hold (l : Link) (body : List Byte) : Link :=
  if l.holding.length < Config.holdingPlaces then { l with holding := l.holding ++ [body] }
  else if l.replies.length < Config.replyPlaces then
    l.ready ((Verdict.refused .busy 0).reply (bodyTag body) (bodyKind body) false)
  else { l with errors := satAdd 65535 l.errors 1 }

/-- The tag of a request whose reply is deferred is kept, and the request leaves the link port's hands (R188). -/
def Link.defer (l : Link) (tag kind : Byte) : Link :=
  if kind = 0x13 then { l with inHand := none, deferredMeasure := some tag }
  else { l with inHand := none, deferredSave := some tag }

/-- What becomes of the request in hand by its verdict (R188). -/
def Part.settle (tag kind : Byte) (r : Part × Verdict) : Part :=
  match r.2 with
  | .deferred => { r.1 with link := r.1.link.defer tag kind }
  | v => { r.1 with link := r.1.link.ready (v.reply tag kind true) }

/-- A request is taken: it is in hand, its owner acts, and its reply joins the reply list (R188). -/
def Part.take (s : Part) (tag kind : Byte) (act : Part → Part × Verdict) : Part :=
  Part.settle tag kind (act { s with link := { s.link with inHand := some (tag, kind) } })

/-- What is done with a body's reading (R189). DEDUCED (log 16). -/
def Part.actOn (d : Decoded) (s : Part) : Part × Verdict :=
  match d with
  | .request i => s.serve i
  | .refuse code field => (s, .refused code field)
  | .refuseWrite code field => s.configWrite fun s => (s, .refused code field)

/-- A body is taken from the head of the holding area. -/
def Part.takeBody (s : Part) (body : List Byte) : Part :=
  s.take (bodyTag body) (bodyKind body) (Part.actOn (decodeRequest body))

/-- Requests are taken from the holding area, in order, while none is in hand (R188). -/
def Part.pumpFrom : List (List Byte) → Part → Part
  | [], s => { s with link := { s.link with holding := [] } }
  | b :: rest, s =>
    if s.link.inHand.isSome then { s with link := { s.link with holding := b :: rest } }
    else pumpFrom rest (({ s with link := { s.link with holding := rest } }).takeBody b)

/-- Requests are taken while none is in hand (R188). -/
def Part.pump (s : Part) : Part := Part.pumpFrom s.link.holding s

/-- A body received whole (R187, R188). -/
def Part.receiveBody (s : Part) (body : List Byte) : Part := ({ s with link := s.link.hold body }).pump

/-- One byte arriving on LRX (R186). -/
def Part.receiveByte (s : Part) (b : Byte) : Part :=
  let r := s.link.receiveByte b
  let s1 := { s with link := r.1 }
  match r.2 with
  | some body => s1.receiveBody body
  | none => s1

/-- The bytes of a link frame with a length byte, a body and two CRC bytes (R185). -/
def linkFrame (length : Byte) (body : List Byte) (high low : Byte) : List Byte :=
  Config.beginByte :: length :: (body ++ [high, low])

/-- The frame of a body, with its own length and CRC (R185). -/
def frameOf (body : List Byte) : List Byte :=
  let length := BitVec.ofNat 8 body.length
  let crc := crc16 (length :: body)
  linkFrame length body (BitVec.ofNat 8 (crc.toNat / 256)) (BitVec.ofNat 8 crc.toNat)

/-- A request that arrives as a command: taken at once when none is in hand and none is held; otherwise its body joins the
holding area as a frame received whole does (R187, R188). DESIGN CHOICE (log 13). -/
def Part.request (s : Part) (i : Instr) (tag kind : Byte) (act : Part → Part × Verdict) : Part :=
  if s.link.inHand = none ∧ s.link.holding = [] then s.take tag kind act else s.receiveBody (encodeRequest i)

/-! ### The transmitter -/

/-- The notice record of a notice (11, "The notice record"). -/
def Notice.record (n : Notice) : List Byte :=
  u8 n.kind.code ++ u8 ((if n.gap then 128 else 0) + (if n.clockSet then 64 else 0)) ++ u16 n.dayCount ++ u16 n.weekMinute ++
    u8 n.second ++ u8 n.subject ++ n.detail

/-- The bytes on LTX of the frame being sent (R185). -/
def Transmitter.bytes : Transmitter → List Byte
  | .idle => []
  | .reply r => frameOf r.body
  | .notice n => frameOf (Config.noticeKind :: 0 :: n.record)

/-- The frame on its way out is the DONE reply to RESTART (R199). -/
def Transmitter.isRestart : Transmitter → Bool
  | .idle => false
  | .notice _ => false
  | .reply r => r.ofHand && decide (r.kind = 0x22) && decide (r.body.head? = some Config.doneKind)

/-- The transmitter's frame has ended: a reply of the request in hand releases it (R188, R190). -/
def Link.frameEnds (l : Link) : Link :=
  match l.transmitter with
  | .idle => l
  | .notice _ => { l with transmitter := .idle }
  | .reply r => { l with transmitter := .idle, inHand := if r.ofHand then none else l.inHand }

/-- A save has been written whole: the store holds the snapshot, and the deferred reply joins the list (R195). -/
def Link.saveEnds (l : Link) : Link :=
  match l.saving with
  | none => l
  | some image =>
    let l1 := { l with saving := none, store := some image }
    match l.deferredSave with
    | none => l1
    | some tag => { l1 with deferredSave := none }.ready ((Verdict.done 0 []).reply tag 0x21 false)

/-! ### Starts -/

/-- The restart's effect (R199): the link port and every block at their values after RESTART, the working configuration, the
clock and the store kept. A line that was STUCK or DEAD posts its LINE notice after STARTUP (R89). DEDUCED (log 9, 40). -/
def Part.restarted (s : Part) : Part :=
  let link := Link.atStart s.clock .restart s.link.mask s.link.unsaved s.link.source s.link.speed s.link.store
    s.link.storeGood
  let s1 := Part.started s.working s.clock link s.lb.relays s.lb.dimPins
  match s.dl.line with
  | .stuck => s1.postLine .stuck
  | .dead => s1.postLine .dead
  | .ready => s1
  | .busy => s1
  | .clearing => s1

/-- The image the store reads at power-on: none while a save was being written, or when its CRC fails (R195, R196).
DESIGN CHOICE (log 10, 11). -/
def Link.imageRead (l : Link) (storeReads : Bool) : Option WorkingConfig :=
  if storeReads && l.saving.isNone then l.store else none

/-- Power-on (R196): the start from the store and the straps; the relay boards and dim outputs hold what they last had.
DEDUCED (log 9), DESIGN CHOICE (log 11). -/
def Part.powerUp (s : Part) (straps : BitVec 2) (storeReads : Bool) : Part :=
  Part.poweredOn straps (s.link.imageRead storeReads) s.lb.relays s.lb.dimPins

/-- The part is held in reset (R198): a save in progress leaves the store without a good image (R195). -/
def Part.heldInReset (s : Part) : Part :=
  { s with
    running := false
    link := { s.link with saving := none, store := if s.link.saving.isSome then none else s.link.store } }

/-- The frame on its way out has been sent whole (R188, R190, R199). DESIGN CHOICE (log 12), DEDUCED (log 60). -/
def Part.frameSent (s : Part) : Part :=
  if s.link.transmitter.isRestart then s.restarted else ({ s with link := s.link.frameEnds }).pump

/-- The effect of RESTART, at the moment its DONE reply has been sent whole (R199). DESIGN CHOICE (log 12). -/
def Part.takeRestart (s : Part) : Part := if s.link.transmitter.isRestart then s.restarted else s

/-! ### How a command acts -/

/-- The end of every event: an idle transmitter picks its next frame (R190), and not before. DESIGN CHOICE (log 81). -/
def Part.close (s : Part) : Part := { s with link := s.link.kick }

/-- What the line carried, span by span (R65): each event of the spans, in their order, is an event of the part that closes by
itself. An answer is told only of a frame in flight. DESIGN CHOICE (log 34, 75). -/
def Part.receive (s : Part) : Heard → Part
  | .frame spans => (readFrame spans).foldl (fun p e => (p.takeLineEvent e).close) s
  | .answer spans => if s.dl.flying = none then s else (readAnswer spans).foldl (fun p e => (p.takeLineEvent e).close) s

/-- A command acts on a running part; a part held in reset takes none (R198). DEDUCED (log 7). -/
def State.act (s : State) (f : Part → Part) : Host.Outcome State Fault Refusal :=
  if s.part.running then .next { s with part := (f s.part).close } else .next s

/-- A request row acts on the part. -/
def State.request (s : State) (i : Instr) (tag kind : Byte) (f : Part → Part × Verdict) :
    Host.Outcome State Fault Refusal :=
  s.act fun p => p.request i tag kind f

end Sys2Proof.Machine
end

