-- ==== Sys2Proof/Machine/Timers.lean ====
section
/-! DEFINITION. The timers of the blocks: what their expiries do (R47, R51, R117, R137, R141, R170, R177, R178, R180), the
one-second advances that have a row of their own, and the second that passes on an empty queue for the timers that have
none. -/

namespace Sys2Proof.Machine

/-- A timer has run out: it runs and has no second left. A restarted timer has not. -/
def ranOut (left : Option Nat) : Bool := decide (left = some 0)

/-! ### Measurement unit -/

/-- The scan timer expires (R47). DESIGN CHOICE (log 77). -/
def Part.scanExpires (s : Part) : Part :=
  let mu := { s.mu with scanTimer := s.mu.period }
  { s with mu := match mu.round with
      | .between => mu.startRound
      | .inRound _ => mu }

/-- The fast-scan timer expires (R51). DESIGN CHOICE (log 77). -/
def Part.fastExpires (s : Part) : Part :=
  ({ s with mu := { s.mu with fastTimer := s.mu.fast } }).forEach (List.range 20) Part.fastRequest

/-- A second of the age timer (R42). -/
def Channel.older (c : Channel) : Channel := { c with age := c.age.map fun a => satAdd 65535 a 1 }

/-- A second of the unit's age timer (R42). -/
def Part.ageSecond (s : Part) : Part := { s with mu := { s.mu with channels := Tab.each s.mu.channels Channel.older } }

/-! ### Zone conditioner -/

/-- The presence timer of zone z expires (R137); one that has not run out does not. DEDUCED (log 6). -/
def Part.presenceExpires (s : Part) (z : Nat) : Part := if ranOut (s.zone z).presence then s.withPresence z none else s

/-- The run-on of station a expires (R141); one that has not run out does not. DEDUCED (log 6). -/
def Part.runOnTimerExpires (s : Part) (a : Nat) : Part := if ranOut (s.runOn a) then s.runOnExpires a else s

/-! ### Door line controller -/

/-- The silence timer of station a expires (R96); one that has not run out does not. DEDUCED (log 6). -/
def Part.silenceExpires (s : Part) (a : Nat) : Part :=
  if ranOut (s.station a).silence then Part.silence s a .silence else s

/-! ### Load budget -/

/-- The spacing timer expires: a start event (R178); one that has not run out does not expire. DEDUCED (log 6). -/
def Part.spacingExpires (s : Part) : Part := if ranOut s.lb.spacingTimer then s.startEvent else s

/-- The min-on timer of load i expires (R177); one that has not run out does not. DEDUCED (log 6). -/
def Part.minOnExpires (s : Part) (i : Nat) : Part :=
  let l := s.lb.load i
  if ranOut l.minOn then s.withTable (s.lb.setLoad i { l with minOn := none }) else s

/-- The min-off timer of load i expires: a RESTING load goes OFF and a pass runs (R177); one that has not run out does not
expire. DEDUCED (log 6). -/
def Part.minOffExpires (s : Part) (i : Nat) : Part :=
  let l := s.lb.load i
  if ranOut l.minOff && decide (l.state = .resting) then
    s.withTable (s.lb.setLoad i { l with state := .off, minOff := none })
  else s

/-- The cap expires: it is removed and a pass runs (R170, R171); a cap whose seconds have not run out stands.
DEDUCED (log 6, 53). -/
def Part.capExpires (s : Part) : Part := if ranOut (s.lb.cap.map (·.left)) then s.withTable { s.lb with cap := none } else s

/-- A refresh of the output chain ends with its latch, its points having been shifted out since its start, and a marked second
one starts (R180). -/
def Budget.latch (lb : Budget) : Budget :=
  match lb.shifting with
  | none => lb
  | some img =>
    { lb with
      relays := relaysAfter lb.relays img, shifting := if lb.marked then some lb.image else none, marked := false }

/-- A 1 kHz period of dim output n starts with the duty then set (R181). -/
def Part.dimPeriod (s : Part) (n : Nat) : Part := { s with lb := { s.lb with dimPins := Tab.put s.lb.dimPins n (s.dimDuty n) } }

/-! ### A second without a row -/

/-- Seconds left after one more, stopping at 0. -/
def runDown (left : Option Nat) : Option Nat := left.map (· - 1)

/-- The zone conditioner's second timer: evaluation, presence and run-on timers (R117, R137, R141). -/
def Conditioner.second (z : Conditioner) : Conditioner :=
  { z with
    zones := Tab.each z.zones fun r => { r with timer := r.timer - 1, presence := runDown r.presence }
    runOns := Tab.each z.runOns runDown }

/-- The budget's second timer: min-on, min-off, cap and spacing timers (R170, R177, R178). -/
def Budget.second (lb : Budget) : Budget :=
  { lb with
    loads := Tab.each lb.loads fun l => { l with minOn := runDown l.minOn, minOff := runDown l.minOff }
    cap := lb.cap.map fun c => { c with left := c.left - 1 }
    spacingTimer := runDown lb.spacingTimer }

/-- The scan and fast-scan timers (R47, R51). -/
def Measurement.second (m : Measurement) : Measurement := { m with scanTimer := m.scanTimer - 1, fastTimer := m.fastTimer - 1 }

/-- The probe timer and the probe of a DEAD line (R78, R97). -/
def DoorLine.second (d : DoorLine) : DoorLine := { d with probeTimer := d.probeTimer - 1, deadProbe := runDown d.deadProbe }

/-- A second of every timer whose running down has no row of the table; a timer at 0 waits there for its expiry.
DESIGN CHOICE (log 5). -/
def Part.second (s : Part) : Part := { s with mu := s.mu.second, dl := s.dl.second, zc := s.zc.second, lb := s.lb.second }

end Sys2Proof.Machine
end

