-- ==== Sys2Proof/Machine/AirCommands.lean ====
section
/-! DEFINITION. The commands of the air quality unit family (08). -/

namespace Sys2Proof.Machine

/-- GROUP_WRITE ONE (R152). -/
def execGroupWriteOne (tag group credit : Byte) (s : State) : Host.Outcome State Fault Refusal :=
  s.request (.groupWriteOne tag group credit) tag 0x15 (Part.doGroupWriteOne group credit)

/-- GROUP_WRITE HOLD (R152). -/
def execGroupWriteHold (tag : Byte) (limit : Half) (s : State) : Host.Outcome State Fault Refusal :=
  s.request (.groupWriteHold tag limit) tag 0x15 (Part.doGroupWriteHold limit)

/-- GROUP_READ (R160). -/
def execGroupRead (tag group : Byte) (s : State) : Host.Outcome State Fault Refusal :=
  s.request (.groupRead tag group) tag 0x16 (Part.doGroupRead group)

/-- The oldest conversion of channel c handed to the air quality unit and not yet taken. -/
def gasDue (c : Nat) : List Due → Option (Int × Validity × Option Nat)
  | [] => none
  | .gas c' v w a :: rest => if c' = c then some (v, w, a) else gasDue c rest
  | .evaluate _ :: rest => gasDue c rest
  | .freezeEdge _ _ :: rest => gasDue c rest
  | .demand _ :: rest => gasDue c rest
  | .doorLimit _ _ _ :: rest => gasDue c rest
  | .budget _ :: rest => gasDue c rest

/-- A conversion handed on is one of channel c. -/
def isGasOf (c : Nat) : Due → Bool
  | .gas c' _ _ _ => decide (c' = c)
  | .evaluate _ => false
  | .freezeEdge _ _ => false
  | .demand _ => false
  | .doorLimit _ _ _ => false
  | .budget _ => false

/-- The air quality unit takes a conversion of channel c: the oldest handed to it, else the record as it stands.
DESIGN CHOICE (log 3, 30). -/
def Part.takeConversion (s : Part) (c : Nat) : Part :=
  match gasDue c s.due with
  | some (v, w, a) => (s.settleDue (isGasOf c)).takeGas c v w a
  | none => s.takeGas c (s.channel c).value (s.channel c).validity (s.channel c).age

/-- GAS_CONVERSION (R147 to R149). -/
def execGasConversion (channel : Nat) (s : State) : Host.Outcome State Fault Refusal :=
  s.act fun p => if channel < 20 then p.takeConversion channel else p

/-- HOLD_CHECK (R150). -/
def execHoldCheck (s : State) : Host.Outcome State Fault Refusal := s.act Part.runHoldCheck

/-- GROUP_DEMAND_COMPUTE (R154, R155): a trigger handed to the air quality unit is taken. -/
def execGroupDemandCompute (group : Nat) (s : State) : Host.Outcome State Fault Refusal :=
  s.act fun p => if group < 6 then (p.settleDue fun d => decide (d = .demand group)).computeDemand group else p

end Sys2Proof.Machine
end

