-- ==== Sys2Proof/Machine/CalendarCommands.lean ====
section
/-! DEFINITION. The commands of the calendar unit family (02). -/

namespace Sys2Proof.Machine

/-- CAL_OPEN (R22). -/
def execCalOpen (tag : Byte) (s : State) : Host.Outcome State Fault Refusal :=
  s.request (.calOpen tag) tag 0x05 Part.doCalOpen

/-- CAL_WRITE_HEADER (R18). -/
def execCalWriteHeader (tag : Byte) (fields : HeaderFields) (s : State) : Host.Outcome State Fault Refusal :=
  s.request (.calWriteHeader tag fields) tag 0x06 (Part.doCalWriteHeader fields)

/-- CAL_WRITE_SHIFT (R19). -/
def execCalWriteShift (tag entry : Byte) (fields : ShiftFields) (s : State) : Host.Outcome State Fault Refusal :=
  s.request (.calWriteShift tag entry fields) tag 0x07 (Part.doCalWriteShift entry fields)

/-- CAL_WRITE_PROFILE (R20). -/
def execCalWriteProfile (tag profile : Byte) (fields : ProfileFields) (s : State) : Host.Outcome State Fault Refusal :=
  s.request (.calWriteProfile tag profile fields) tag 0x08 (Part.doCalWriteProfile profile fields)

/-- CAL_WRITE_WINDOW (R21). -/
def execCalWriteWindow (tag window : Byte) (fields : WindowFields) (s : State) : Host.Outcome State Fault Refusal :=
  s.request (.calWriteWindow tag window fields) tag 0x09 (Part.doCalWriteWindow window fields)

/-- CAL_CLOSE (R23, R24). -/
def execCalClose (tag : Byte) (s : State) : Host.Outcome State Fault Refusal :=
  s.request (.calClose tag) tag 0x0A Part.doCalClose

/-- CAL_DROP (R25). -/
def execCalDrop (tag : Byte) (s : State) : Host.Outcome State Fault Refusal :=
  s.request (.calDrop tag) tag 0x0B Part.doCalDrop

/-- CAL_READ HEADER (R27). -/
def execCalReadHeader (tag copy : Byte) (s : State) : Host.Outcome State Fault Refusal :=
  s.request (.calReadHeader tag copy) tag 0x0C (Part.doCalReadHeader copy)

/-- CAL_READ SHIFT (R27). -/
def execCalReadShift (tag copy entry : Byte) (s : State) : Host.Outcome State Fault Refusal :=
  s.request (.calReadShift tag copy entry) tag 0x0C (Part.doCalReadShift copy entry)

/-- CAL_READ PROFILE (R27). -/
def execCalReadProfile (tag copy profile : Byte) (s : State) : Host.Outcome State Fault Refusal :=
  s.request (.calReadProfile tag copy profile) tag 0x0C (Part.doCalReadProfile copy profile)

/-- CAL_READ WINDOW (R27). -/
def execCalReadWindow (tag copy window : Byte) (s : State) : Host.Outcome State Fault Refusal :=
  s.request (.calReadWindow tag copy window) tag 0x0C (Part.doCalReadWindow copy window)

/-- CAL_READ STATE (R27). -/
def execCalReadState (tag : Byte) (s : State) : Host.Outcome State Fault Refusal :=
  s.request (.calReadState tag) tag 0x0C Part.doCalReadState

/-- CAL_READ ZONE (R27). -/
def execCalReadZone (tag zone : Byte) (s : State) : Host.Outcome State Fault Refusal :=
  s.request (.calReadZone tag zone) tag 0x0C (Part.doCalReadZone zone)

/-- ZONE_OVERRIDE PHASE_ACTIVE (R35). -/
def execZoneOverridePhaseActive (tag zone profile : Byte) (minutes : Half) (s : State) :
    Host.Outcome State Fault Refusal :=
  s.request (.zoneOverridePhaseActive tag zone profile minutes) tag 0x0F (Part.doOverrideActive zone profile minutes)

/-- ZONE_OVERRIDE PHASE_IDLE (R35). -/
def execZoneOverridePhaseIdle (tag zone : Byte) (minutes : Half) (s : State) : Host.Outcome State Fault Refusal :=
  s.request (.zoneOverridePhaseIdle tag zone minutes) tag 0x0F (Part.doOverrideIdle zone minutes)

/-- ZONE_OVERRIDE LIGHT (R36). -/
def execZoneOverrideLight (tag zone level : Byte) (minutes : Half) (s : State) : Host.Outcome State Fault Refusal :=
  s.request (.zoneOverrideLight tag zone level minutes) tag 0x0F (Part.doOverrideLight zone level minutes)

/-- ZONE_OVERRIDE CANCEL_PHASE (R37). -/
def execZoneOverrideCancelPhase (tag zone : Byte) (s : State) : Host.Outcome State Fault Refusal :=
  s.request (.zoneOverrideCancelPhase tag zone) tag 0x0F (Part.doCancelPhase zone)

/-- ZONE_OVERRIDE CANCEL_LIGHT (R37). -/
def execZoneOverrideCancelLight (tag zone : Byte) (s : State) : Host.Outcome State Fault Refusal :=
  s.request (.zoneOverrideCancelLight tag zone) tag 0x0F (Part.doCancelLight zone)

end Sys2Proof.Machine
end

