-- ==== Sys2Proof/Machine/ClockCommands.lean ====
section
/-! DEFINITION. The commands of the shift clock family (01). -/

namespace Sys2Proof.Machine

/-- SET_CLOCK (R11). -/
def execSetClock (tag : Byte) (weekMinute : Half) (second : Byte) (dayCount : Half) (s : State) :
    Host.Outcome State Fault Refusal :=
  s.request (.setClock tag weekMinute second dayCount) tag 0x02 (Part.doSetClock weekMinute second dayCount)

/-- ASK_CLOCK (R13). -/
def execAskClock (tag : Byte) (s : State) : Host.Outcome State Fault Refusal :=
  s.request (.askClock tag) tag 0x03 Part.doAskClock

/-- SET_TRIM (R10). -/
def execSetTrim (tag : Byte) (a : Half) (kq t0 : Byte) (s : State) : Host.Outcome State Fault Refusal :=
  s.request (.setTrim tag a kq t0) tag 0x04 (Part.doSetTrim a kq t0)

/-- CRYSTAL_CYCLE (R1): one cycle of the crystal, with whatever it carries. -/
def execCrystalCycle (s : State) : Host.Outcome State Fault Refusal := s.act Part.cycle

/-- CORRECTION_CYCLE (R8, R9): the cycle after a mark, with the correction the mark carries. -/
def execCorrectionCycle (s : State) : Host.Outcome State Fault Refusal := s.act fun p => p.cycle

/-- QUARTER_SECOND_MARK (R4): the cycles up to the next mark pass, and the mark's cycle is taken. -/
def execQuarterSecondMark (s : State) : Host.Outcome State Fault Refusal :=
  s.act fun p => ({ p with clock := p.clock.toQuarterEnd }).cycle

/-- MINUTE_BOUNDARY (R2, R14, R32): the marks up to the next wrap of the second pass, and the wrap's cycle is taken with the
calendar unit's work. -/
def execMinuteBoundary (s : State) : Host.Outcome State Fault Refusal :=
  s.act fun p => ({ p with clock := p.clock.toMinuteEnd p.boardChannel }).cycle

end Sys2Proof.Machine
end

