-- ==== Sys2Proof/Machine/LineCommands.lean ====
section
/-! DEFINITION. The commands of the door line and station families (04, 05). -/

namespace Sys2Proof.Machine

/-- STATION_WRITE ONE (R90). -/
def execStationWriteOne (tag address enabled zone : Byte) (s : State) : Host.Outcome State Fault Refusal :=
  s.request (.stationWriteOne tag address enabled zone) tag 0x17 (Part.doStationWriteOne address enabled zone)

/-- STATION_WRITE MASK ENABLE (R91). -/
def execStationWriteMaskEnable (tag : Byte) (mask : BitVec 48) (s : State) : Host.Outcome State Fault Refusal :=
  s.request (.stationWriteMaskEnable tag mask) tag 0x17 (Part.doStationMaskEnable mask)

/-- STATION_WRITE MASK DISABLE (R91). -/
def execStationWriteMaskDisable (tag : Byte) (mask : BitVec 48) (s : State) : Host.Outcome State Fault Refusal :=
  s.request (.stationWriteMaskDisable tag mask) tag 0x17 (Part.doStationMaskDisable mask)

/-- STATION_WRITE TIMEOUT (R92). -/
def execStationWriteTimeout (tag : Byte) (timeout : Half) (s : State) : Host.Outcome State Fault Refusal :=
  s.request (.stationWriteTimeout tag timeout) tag 0x17 (Part.doStationTimeout timeout)

/-- STATION_READ ONE (R111). -/
def execStationReadOne (tag address : Byte) (s : State) : Host.Outcome State Fault Refusal :=
  s.request (.stationReadOne tag address) tag 0x18 (Part.doStationReadOne address)

/-- STATION_READ SUMMARY (R111). -/
def execStationReadSummary (tag : Byte) (s : State) : Host.Outcome State Fault Refusal :=
  s.request (.stationReadSummary tag) tag 0x18 Part.doStationReadSummary

/-- LINE_RESET (R81). -/
def execLineReset (tag : Byte) (s : State) : Host.Outcome State Fault Refusal :=
  s.request (.lineReset tag) tag 0x19 Part.doLineReset

/-- FRAME_START (R68). -/
def execFrameStart (s : State) : Host.Outcome State Fault Refusal := s.act Part.beginFrame

/-- ARBITRATION_LOST (R69). -/
def execArbitrationLost (s : State) : Host.Outcome State Fault Refusal := s.act Part.loseArbitration

/-- DOOR_REPORT (R99). -/
def execDoorReport (address door : Byte) (early : List Early) (s : State) : Host.Outcome State Fault Refusal :=
  s.act fun p => p.receiveFrame address (.doorReport door) early

/-- HELLO (R100). -/
def execHello (address station revision door : Byte) (early : List Early) (s : State) : Host.Outcome State Fault Refusal :=
  s.act fun p => p.receiveFrame address (.hello station revision door) early

/-- STATUS_REPORT (R101). -/
def execStatusReport (address door condition : Byte) (early : List Early) (s : State) : Host.Outcome State Fault Refusal :=
  s.act fun p => p.receiveFrame address (.status door condition) early

/-- PRESENCE_REPORT (R102). -/
def execPresenceReport (address motion : Byte) (s : State) : Host.Outcome State Fault Refusal :=
  s.act fun p => p.receiveFrame address (.presence motion) []

/-- STATION_FRAME_REJECTED (R65, R71, R72, R74, R75): what the line carried, classified span by span. DESIGN CHOICE (log 34). -/
def execStationFrameRejected (heard : Heard) (s : State) : Host.Outcome State Fault Refusal := s.act fun p => p.receive heard

/-- ANSWER_SENT (R73, R103). -/
def execAnswerSent (s : State) : Host.Outcome State Fault Refusal := s.act Part.answerSent

/-- QUERY_ANSWER (R74, R103). -/
def execQueryAnswer (door condition check : Byte) (s : State) : Host.Outcome State Fault Refusal :=
  s.act fun p => p.receiveAnswer .query door (some condition) check

/-- SET_OUTPUTS_ANSWER (R74, R103). -/
def execSetOutputsAnswer (door check : Byte) (s : State) : Host.Outcome State Fault Refusal :=
  s.act fun p => p.receiveAnswer .setOutputs door none check

/-- NO_ANSWER (R75). -/
def execNoAnswer (s : State) : Host.Outcome State Fault Refusal := s.act Part.noAnswer

/-- LINE_REST (R65, R76, R77). -/
def execLineRest (s : State) : Host.Outcome State Fault Refusal := s.act Part.restLine

/-- LINE_CLEAR_RECEIVED (R82, R83). -/
def execLineClearReceived (s : State) : Host.Outcome State Fault Refusal := s.act Part.receiveClear

/-- LINE_STUCK (R77). -/
def execLineStuck (s : State) : Host.Outcome State Fault Refusal := s.act Part.goStuck

/-- STUCK_RELEASE (R77, R82). -/
def execStuckRelease (s : State) : Host.Outcome State Fault Refusal := s.act Part.releaseStuck

/-- LINE_DEAD (R70, R78). -/
def execLineDead (s : State) : Host.Outcome State Fault Refusal := s.act Part.goDead

/-- DEAD_PROBE (R78). DESIGN CHOICE (log 42). -/
def execDeadProbe (released echoed : Bool) (s : State) : Host.Outcome State Fault Refusal :=
  s.act fun p => p.probeDead released echoed

/-- DRIVING_EDGE (R76). -/
def execDrivingEdge (s : State) : Host.Outcome State Fault Refusal := s.act Part.drivingEdge

/-- SILENCE_TIMER_EXPIRY (R96). DESIGN CHOICE (log 50). -/
def execSilenceTimerExpiry (address : Nat) (s : State) : Host.Outcome State Fault Refusal :=
  s.act fun p => if isAddress address then p.silenceExpires address else p

/-- PROBE_TIMER_EXPIRY (R97). -/
def execProbeTimerExpiry (s : State) : Host.Outcome State Fault Refusal := s.act Part.probeCycle

/-- DOOR_SECOND_TICK (R106, R107). -/
def execDoorSecondTick (s : State) : Host.Outcome State Fault Refusal := s.act Part.doorSecond

/-- The oldest hand-off of zone z to the door line controller and not yet taken: its limit and shift-start mark. -/
def limitDue (z : Nat) : List Due → Option (Nat × Bool)
  | [] => none
  | .doorLimit z' l m :: rest => if z' = z then some (l, m) else limitDue z rest
  | .evaluate _ :: rest => limitDue z rest
  | .freezeEdge _ _ :: rest => limitDue z rest
  | .gas _ _ _ _ :: rest => limitDue z rest
  | .demand _ :: rest => limitDue z rest
  | .budget _ :: rest => limitDue z rest

/-- A hand-off to the door line controller is of zone z. -/
def isLimitOf (z : Nat) : Due → Bool
  | .doorLimit z' _ _ => decide (z' = z)
  | .evaluate _ => false
  | .freezeEdge _ _ => false
  | .gas _ _ _ _ => false
  | .demand _ => false
  | .budget _ => false

/-- The controller takes a hand-off of zone z: the oldest due, else the limit of the phase last handed, without a mark.
DESIGN CHOICE (log 3, 31). -/
def Part.takePhaseLimit (s : Part) (z : Nat) : Part :=
  match limitDue z s.due with
  | some (l, m) => (s.settleDue (isLimitOf z)).takeLimit z l m
  | none => s.takeLimit z (s.cal.running.doorLimit (s.effective z)) false

/-- PHASE_HANDOFF_DOOR_LINE (R106, R108). DESIGN CHOICE (log 50). -/
def execPhaseHandoffDoorLine (zone : Nat) (s : State) : Host.Outcome State Fault Refusal :=
  s.act fun p => if zone < 12 then p.takePhaseLimit zone else p

end Sys2Proof.Machine
end

