-- ==== Sys2Proof/Machine/LinkCommands.lean ====
section
/-! DEFINITION. The commands of the link port family: starts and reset, the link's frames and bytes, and the requests whose
owner is the link port (10). -/

namespace Sys2Proof.Machine

/-- POWER_ON (R196): supply good and NRST released. -/
def execPowerOn (straps : BitVec 2) (storeReads : Bool) (s : State) : Host.Outcome State Fault Refusal :=
  .next { s with part := s.part.powerUp straps storeReads }

/-- RESET_ASSERTED (R198): the supply fails or NRST is driven low. -/
def execResetAsserted (s : State) : Host.Outcome State Fault Refusal := .next { s with part := s.part.heldInReset }

/-- LINK_FRAME_RECEIVED (R185, R186): the bytes of a frame arrive one after another. DESIGN CHOICE (log 14). -/
def execLinkFrameReceived (length : Byte) (body : List Byte) (high low : Byte) (s : State) :
    Host.Outcome State Fault Refusal :=
  s.act fun p => (linkFrame length body high low).foldl Part.receiveByte p

/-- LINK_GAP_TIMEOUT (R186): more than 50 ms between two bytes of a frame. -/
def execLinkGapTimeout (s : State) : Host.Outcome State Fault Refusal := s.act fun p => { p with link := p.link.gap }

/-- REQUEST_UNKNOWN_KIND (R187 to R189): a body received whole, read by its kind when it is taken.
DESIGN CHOICE (log 15). -/
def execRequestUnknownKind (kind tag : Byte) (fields : List Byte) (s : State) : Host.Outcome State Fault Refusal :=
  s.act fun p => p.receiveBody (kind :: tag :: fields)

/-- LINK_FRAME_SENT (R188, R190): the transmitter's frame has been sent whole. -/
def execLinkFrameSent (s : State) : Host.Outcome State Fault Refusal := s.act Part.frameSent

/-- LINK_BYTE_RECEIVED (R186). -/
def execLinkByteReceived (byte : Byte) (s : State) : Host.Outcome State Fault Refusal := s.act fun p => p.receiveByte byte

/-- ASK_STATUS (R191). -/
def execAskStatus (tag : Byte) (s : State) : Host.Outcome State Fault Refusal :=
  s.request (.askStatus tag) tag 0x01 Part.doAskStatus

/-- NOTICE_MASK (R192). -/
def execNoticeMask (tag : Byte) (mask : Half) (s : State) : Host.Outcome State Fault Refusal :=
  s.request (.noticeMask tag mask) tag 0x20 (Part.doNoticeMask mask)

/-- SAVE_CONFIG (R195). -/
def execSaveConfig (tag : Byte) (s : State) : Host.Outcome State Fault Refusal :=
  s.request (.saveConfig tag) tag 0x21 Part.doSaveConfig

/-- SAVE_COMPLETE (R195): the write of the store ends. -/
def execSaveComplete (s : State) : Host.Outcome State Fault Refusal := s.act fun p => { p with link := p.link.saveEnds }

/-- RESTART (R199). -/
def execRestart (tag : Byte) (s : State) : Host.Outcome State Fault Refusal :=
  s.request (.restart tag) tag 0x22 Part.doRestart

/-- RESTART_EFFECT (R199): the DONE reply to RESTART has been sent whole. -/
def execRestartEffect (s : State) : Host.Outcome State Fault Refusal := s.act Part.takeRestart

end Sys2Proof.Machine
end

