-- ==== Sys2Proof/Machine/LoadCommands.lean ====
section
/-! DEFINITION. The commands of the load budget family (09). -/

namespace Sys2Proof.Machine

/-- LOAD_WRITE (R163, R164). -/
def execLoadWrite (tag load : Byte) (fields : LoadFields) (s : State) : Host.Outcome State Fault Refusal :=
  s.request (.loadWrite tag load fields) tag 0x1A (Part.doLoadWrite load fields)

/-- LOAD_READ ONE (R183). -/
def execLoadReadOne (tag load : Byte) (s : State) : Host.Outcome State Fault Refusal :=
  s.request (.loadReadOne tag load) tag 0x1B (Part.doLoadReadOne load)

/-- LOAD_READ SUMMARY (R183). -/
def execLoadReadSummary (tag : Byte) (s : State) : Host.Outcome State Fault Refusal :=
  s.request (.loadReadSummary tag) tag 0x1B Part.doLoadReadSummary

/-- LOAD_ENABLE SET (R165). -/
def execLoadEnableSet (tag : Byte) (mask : BitVec 128) (s : State) : Host.Outcome State Fault Refusal :=
  s.request (.loadEnableSet tag mask) tag 0x1C (Part.doLoadEnableSet mask)

/-- LOAD_ENABLE CLEAR (R165). -/
def execLoadEnableClear (tag : Byte) (mask : BitVec 128) (s : State) : Host.Outcome State Fault Refusal :=
  s.request (.loadEnableClear tag mask) tag 0x1C (Part.doLoadEnableClear mask)

/-- AUX_REQUEST (R166). -/
def execAuxRequest (tag load request : Byte) (urgency : Half) (s : State) : Host.Outcome State Fault Refusal :=
  s.request (.auxRequest tag load request urgency) tag 0x1D (Part.doAuxRequest load request urgency)

/-- LIMIT_WRITE (R169). -/
def execLimitWrite (tag : Byte) (base : Half) (spacing : Byte) (s : State) : Host.Outcome State Fault Refusal :=
  s.request (.limitWrite tag base spacing) tag 0x1E (Part.doLimitWrite base spacing)

/-- LIMIT_CAP SET (R170). -/
def execLimitCapSet (tag : Byte) (value : Half) (minutes : Byte) (s : State) : Host.Outcome State Fault Refusal :=
  s.request (.limitCapSet tag value minutes) tag 0x1F (Part.doLimitCapSet value minutes)

/-- LIMIT_CAP CANCEL (R170). -/
def execLimitCapCancel (tag : Byte) (s : State) : Host.Outcome State Fault Refusal :=
  s.request (.limitCapCancel tag) tag 0x1F Part.doLimitCapCancel

/-- ALLOCATION_PASS (R171): a change handed to the budget is taken with its pass. -/
def execAllocationPass (change : Nat) (s : State) : Host.Outcome State Fault Refusal := s.act fun p => p.takeNth change

/-- SPACING_TIMER_EXPIRY (R178). -/
def execSpacingTimerExpiry (s : State) : Host.Outcome State Fault Refusal := s.act Part.spacingExpires

/-- MIN_ON_EXPIRY (R177). -/
def execMinOnExpiry (load : Nat) (s : State) : Host.Outcome State Fault Refusal :=
  s.act fun p => if load < 128 then p.minOnExpires load else p

/-- MIN_OFF_EXPIRY (R177). -/
def execMinOffExpiry (load : Nat) (s : State) : Host.Outcome State Fault Refusal :=
  s.act fun p => if load < 128 then p.minOffExpires load else p

/-- CAP_EXPIRY (R170). -/
def execCapExpiry (s : State) : Host.Outcome State Fault Refusal := s.act Part.capExpires

/-- OUTPUT_REFRESH_LATCH (R180). -/
def execOutputRefreshLatch (s : State) : Host.Outcome State Fault Refusal := s.act fun p => { p with lb := p.lb.latch }

/-- PERIODIC_REFRESH (R180). -/
def execPeriodicRefresh (s : State) : Host.Outcome State Fault Refusal := s.act fun p => { p with lb := p.lb.refresh }

/-- DIM_PERIOD_START (R138, R181). -/
def execDimPeriodStart (output : Nat) (s : State) : Host.Outcome State Fault Refusal :=
  s.act fun p => if output < 12 then p.dimPeriod output else p

end Sys2Proof.Machine
end

