-- ==== Sys2Proof/Machine/MeasureCommands.lean ====
section
/-! DEFINITION. The commands of the measurement unit family (03). -/

namespace Sys2Proof.Machine

/-- CHAN_WRITE (R43 to R45). -/
def execChanWrite (tag channel : Byte) (fields : ChannelFields) (s : State) : Host.Outcome State Fault Refusal :=
  s.request (.chanWrite tag channel fields) tag 0x10 (Part.doChanWrite channel fields)

/-- CHAN_READ CHANNEL (R62). -/
def execChanReadChannel (tag channel : Byte) (s : State) : Host.Outcome State Fault Refusal :=
  s.request (.chanReadChannel tag channel) tag 0x11 (Part.doChanReadChannel channel)

/-- CHAN_READ SCAN (R62). -/
def execChanReadScan (tag : Byte) (s : State) : Host.Outcome State Fault Refusal :=
  s.request (.chanReadScan tag) tag 0x11 Part.doChanReadScan

/-- SCAN_WRITE (R49). -/
def execScanWrite (tag count : Byte) (entries : List Byte) (period fast : Byte) (s : State) :
    Host.Outcome State Fault Refusal :=
  s.request (.scanWrite tag count entries period fast) tag 0x12 (Part.doScanWrite count entries period fast)

/-- MEASURE (R52). -/
def execMeasure (tag channel : Byte) (s : State) : Host.Outcome State Fault Refusal :=
  s.request (.measure tag channel) tag 0x13 (Part.doMeasure channel)

/-- FLAGS_CLEAR (R60). -/
def execFlagsClear (tag : Byte) (mask : BitVec 24) (s : State) : Host.Outcome State Fault Refusal :=
  s.request (.flagsClear tag mask) tag 0x14 (Part.doFlagsClear mask)

/-- SCAN_TIMER_EXPIRY (R47). -/
def execScanTimerExpiry (s : State) : Host.Outcome State Fault Refusal := s.act Part.scanExpires

/-- FAST_SCAN_TIMER_EXPIRY (R51). -/
def execFastScanTimerExpiry (s : State) : Host.Outcome State Fault Refusal := s.act Part.fastExpires

/-- CONVERSION_COMPLETE (R46, R61): the conversion in flight ends, its input at this many nanovolts. -/
def execConversionComplete (nanovolts : Int) (s : State) : Host.Outcome State Fault Refusal :=
  s.act fun p => p.completeConversion nanovolts

/-- VALID_AGE_SECOND (R42). -/
def execValidAgeSecond (s : State) : Host.Outcome State Fault Refusal := s.act Part.ageSecond

end Sys2Proof.Machine
end

