-- ==== Sys2Proof/Machine/ZoneCommands.lean ====
section
/-! DEFINITION. The commands of the zone conditioner family (06, 07). An event row that names no zone 0..11, no station 1..48
or no channel is no event of the part and changes nothing. -/

namespace Sys2Proof.Machine

/-- ZONE_WRITE ONE (R113, R114). -/
def execZoneWriteOne (tag zone : Byte) (fields : ZoneFields) (s : State) : Host.Outcome State Fault Refusal :=
  s.request (.zoneWriteOne tag zone fields) tag 0x0D (Part.doZoneWriteOne zone fields)

/-- ZONE_WRITE TIMING (R115). -/
def execZoneWriteTiming (tag interval : Byte) (hold : Half) (s : State) : Host.Outcome State Fault Refusal :=
  s.request (.zoneWriteTiming tag interval hold) tag 0x0D (Part.doZoneWriteTiming interval hold)

/-- ZONE_READ (R132). -/
def execZoneRead (tag zone : Byte) (s : State) : Host.Outcome State Fault Refusal :=
  s.request (.zoneRead tag zone) tag 0x0E (Part.doZoneRead zone)

/-- ZONE_EVALUATION (R117, R118): a trigger handed to the zone conditioner is taken. -/
def execZoneEvaluation (zone : Nat) (s : State) : Host.Outcome State Fault Refusal :=
  s.act fun p => if zone < 12 then (p.settleDue fun d => decide (d = .evaluate zone)).evaluate zone else p

/-- EVALUATION_TIMER_EXPIRY (R117). DESIGN CHOICE (log 77). -/
def execEvaluationTimerExpiry (zone : Nat) (s : State) : Host.Outcome State Fault Refusal :=
  s.act fun p => if zone < 12 then p.evaluate zone else p

/-- FREEZE_GUARD_EDGE (R127): an ALARM_LOW edge handed to the zone conditioner is taken. -/
def execFreezeGuardEdge (channel : Nat) (alarm : Bool) (s : State) : Host.Outcome State Fault Refusal :=
  s.act fun p =>
    if channel < 20 then (p.settleDue fun d => decide (d = .freezeEdge channel alarm)).takeFreezeEdge channel alarm else p

/-- PRESENCE_TIMER_EXPIRY (R137). -/
def execPresenceTimerExpiry (zone : Nat) (s : State) : Host.Outcome State Fault Refusal :=
  s.act fun p => if zone < 12 then p.presenceExpires zone else p

/-- RUN_ON_EXPIRY (R141). -/
def execRunOnExpiry (address : Nat) (s : State) : Host.Outcome State Fault Refusal :=
  s.act fun p => if isAddress address then p.runOnTimerExpires address else p

end Sys2Proof.Machine
end

