-- ==== Sys2Proof/Machine/Dispatch.lean ====
section
/-! DEFINITION. One arm per command. -/

namespace Sys2Proof.Machine

/-- The effect of a command on everything but the queue of waiting commands. -/
def exec (i : Instr) (s : State) : Host.Outcome State Fault Refusal :=
  match i with
  | .powerOn straps storeReads => Sys2Proof.Machine.execPowerOn straps storeReads s
  | .resetAsserted => Sys2Proof.Machine.execResetAsserted s
  | .linkFrameReceived length body crcHigh crcLow => Sys2Proof.Machine.execLinkFrameReceived length body crcHigh crcLow s
  | .linkGapTimeout => Sys2Proof.Machine.execLinkGapTimeout s
  | .requestUnknownKind kind tag fields => Sys2Proof.Machine.execRequestUnknownKind kind tag fields s
  | .linkFrameSent => Sys2Proof.Machine.execLinkFrameSent s
  | .askStatus tag => Sys2Proof.Machine.execAskStatus tag s
  | .setClock tag weekMinute second dayCount => Sys2Proof.Machine.execSetClock tag weekMinute second dayCount s
  | .askClock tag => Sys2Proof.Machine.execAskClock tag s
  | .setTrim tag a kq t0 => Sys2Proof.Machine.execSetTrim tag a kq t0 s
  | .calOpen tag => Sys2Proof.Machine.execCalOpen tag s
  | .calWriteHeader tag fields => Sys2Proof.Machine.execCalWriteHeader tag fields s
  | .calWriteShift tag entry fields => Sys2Proof.Machine.execCalWriteShift tag entry fields s
  | .calWriteProfile tag profile fields => Sys2Proof.Machine.execCalWriteProfile tag profile fields s
  | .calWriteWindow tag window fields => Sys2Proof.Machine.execCalWriteWindow tag window fields s
  | .calClose tag => Sys2Proof.Machine.execCalClose tag s
  | .calDrop tag => Sys2Proof.Machine.execCalDrop tag s
  | .calReadHeader tag copy => Sys2Proof.Machine.execCalReadHeader tag copy s
  | .calReadShift tag copy entry => Sys2Proof.Machine.execCalReadShift tag copy entry s
  | .calReadProfile tag copy profile => Sys2Proof.Machine.execCalReadProfile tag copy profile s
  | .calReadWindow tag copy window => Sys2Proof.Machine.execCalReadWindow tag copy window s
  | .calReadState tag => Sys2Proof.Machine.execCalReadState tag s
  | .calReadZone tag zone => Sys2Proof.Machine.execCalReadZone tag zone s
  | .zoneWriteOne tag zone fields => Sys2Proof.Machine.execZoneWriteOne tag zone fields s
  | .zoneWriteTiming tag interval hold => Sys2Proof.Machine.execZoneWriteTiming tag interval hold s
  | .zoneRead tag zone => Sys2Proof.Machine.execZoneRead tag zone s
  | .zoneOverridePhaseActive tag zone profile minutes => Sys2Proof.Machine.execZoneOverridePhaseActive tag zone profile minutes s
  | .zoneOverridePhaseIdle tag zone minutes => Sys2Proof.Machine.execZoneOverridePhaseIdle tag zone minutes s
  | .zoneOverrideLight tag zone level minutes => Sys2Proof.Machine.execZoneOverrideLight tag zone level minutes s
  | .zoneOverrideCancelPhase tag zone => Sys2Proof.Machine.execZoneOverrideCancelPhase tag zone s
  | .zoneOverrideCancelLight tag zone => Sys2Proof.Machine.execZoneOverrideCancelLight tag zone s
  | .chanWrite tag channel fields => Sys2Proof.Machine.execChanWrite tag channel fields s
  | .chanReadChannel tag channel => Sys2Proof.Machine.execChanReadChannel tag channel s
  | .chanReadScan tag => Sys2Proof.Machine.execChanReadScan tag s
  | .scanWrite tag count entries period fast => Sys2Proof.Machine.execScanWrite tag count entries period fast s
  | .measure tag channel => Sys2Proof.Machine.execMeasure tag channel s
  | .flagsClear tag mask => Sys2Proof.Machine.execFlagsClear tag mask s
  | .groupWriteOne tag group credit => Sys2Proof.Machine.execGroupWriteOne tag group credit s
  | .groupWriteHold tag limit => Sys2Proof.Machine.execGroupWriteHold tag limit s
  | .groupRead tag group => Sys2Proof.Machine.execGroupRead tag group s
  | .stationWriteOne tag address enabled zone => Sys2Proof.Machine.execStationWriteOne tag address enabled zone s
  | .stationWriteMaskEnable tag mask => Sys2Proof.Machine.execStationWriteMaskEnable tag mask s
  | .stationWriteMaskDisable tag mask => Sys2Proof.Machine.execStationWriteMaskDisable tag mask s
  | .stationWriteTimeout tag timeout => Sys2Proof.Machine.execStationWriteTimeout tag timeout s
  | .stationReadOne tag address => Sys2Proof.Machine.execStationReadOne tag address s
  | .stationReadSummary tag => Sys2Proof.Machine.execStationReadSummary tag s
  | .lineReset tag => Sys2Proof.Machine.execLineReset tag s
  | .loadWrite tag load fields => Sys2Proof.Machine.execLoadWrite tag load fields s
  | .loadReadOne tag load => Sys2Proof.Machine.execLoadReadOne tag load s
  | .loadReadSummary tag => Sys2Proof.Machine.execLoadReadSummary tag s
  | .loadEnableSet tag mask => Sys2Proof.Machine.execLoadEnableSet tag mask s
  | .loadEnableClear tag mask => Sys2Proof.Machine.execLoadEnableClear tag mask s
  | .auxRequest tag load request urgency => Sys2Proof.Machine.execAuxRequest tag load request urgency s
  | .limitWrite tag base spacing => Sys2Proof.Machine.execLimitWrite tag base spacing s
  | .limitCapSet tag value minutes => Sys2Proof.Machine.execLimitCapSet tag value minutes s
  | .limitCapCancel tag => Sys2Proof.Machine.execLimitCapCancel tag s
  | .noticeMask tag mask => Sys2Proof.Machine.execNoticeMask tag mask s
  | .saveConfig tag => Sys2Proof.Machine.execSaveConfig tag s
  | .saveComplete => Sys2Proof.Machine.execSaveComplete s
  | .restart tag => Sys2Proof.Machine.execRestart tag s
  | .restartEffect => Sys2Proof.Machine.execRestartEffect s
  | .quarterSecondMark => Sys2Proof.Machine.execQuarterSecondMark s
  | .correctionCycle => Sys2Proof.Machine.execCorrectionCycle s
  | .minuteBoundary => Sys2Proof.Machine.execMinuteBoundary s
  | .scanTimerExpiry => Sys2Proof.Machine.execScanTimerExpiry s
  | .fastScanTimerExpiry => Sys2Proof.Machine.execFastScanTimerExpiry s
  | .conversionComplete nanovolts => Sys2Proof.Machine.execConversionComplete nanovolts s
  | .validAgeSecond => Sys2Proof.Machine.execValidAgeSecond s
  | .gasConversion channel => Sys2Proof.Machine.execGasConversion channel s
  | .holdCheck => Sys2Proof.Machine.execHoldCheck s
  | .groupDemandCompute group => Sys2Proof.Machine.execGroupDemandCompute group s
  | .frameStart => Sys2Proof.Machine.execFrameStart s
  | .arbitrationLost => Sys2Proof.Machine.execArbitrationLost s
  | .doorReport address door early => Sys2Proof.Machine.execDoorReport address door early s
  | .hello address station revision door early => Sys2Proof.Machine.execHello address station revision door early s
  | .statusReport address door condition early => Sys2Proof.Machine.execStatusReport address door condition early s
  | .presenceReport address motion => Sys2Proof.Machine.execPresenceReport address motion s
  | .stationFrameRejected heard => Sys2Proof.Machine.execStationFrameRejected heard s
  | .answerSent => Sys2Proof.Machine.execAnswerSent s
  | .queryAnswer door condition check => Sys2Proof.Machine.execQueryAnswer door condition check s
  | .setOutputsAnswer door check => Sys2Proof.Machine.execSetOutputsAnswer door check s
  | .noAnswer => Sys2Proof.Machine.execNoAnswer s
  | .lineRest => Sys2Proof.Machine.execLineRest s
  | .lineClearReceived => Sys2Proof.Machine.execLineClearReceived s
  | .lineStuck => Sys2Proof.Machine.execLineStuck s
  | .stuckRelease => Sys2Proof.Machine.execStuckRelease s
  | .lineDead => Sys2Proof.Machine.execLineDead s
  | .deadProbe released echoed => Sys2Proof.Machine.execDeadProbe released echoed s
  | .silenceTimerExpiry address => Sys2Proof.Machine.execSilenceTimerExpiry address s
  | .probeTimerExpiry => Sys2Proof.Machine.execProbeTimerExpiry s
  | .doorSecondTick => Sys2Proof.Machine.execDoorSecondTick s
  | .phaseHandoffDoorLine zone => Sys2Proof.Machine.execPhaseHandoffDoorLine zone s
  | .zoneEvaluation zone => Sys2Proof.Machine.execZoneEvaluation zone s
  | .evaluationTimerExpiry zone => Sys2Proof.Machine.execEvaluationTimerExpiry zone s
  | .freezeGuardEdge channel alarm => Sys2Proof.Machine.execFreezeGuardEdge channel alarm s
  | .presenceTimerExpiry zone => Sys2Proof.Machine.execPresenceTimerExpiry zone s
  | .runOnExpiry address => Sys2Proof.Machine.execRunOnExpiry address s
  | .allocationPass change => Sys2Proof.Machine.execAllocationPass change s
  | .spacingTimerExpiry => Sys2Proof.Machine.execSpacingTimerExpiry s
  | .minOnExpiry load => Sys2Proof.Machine.execMinOnExpiry load s
  | .minOffExpiry load => Sys2Proof.Machine.execMinOffExpiry load s
  | .capExpiry => Sys2Proof.Machine.execCapExpiry s
  | .outputRefreshLatch => Sys2Proof.Machine.execOutputRefreshLatch s
  | .periodicRefresh => Sys2Proof.Machine.execPeriodicRefresh s
  | .crystalCycle => Sys2Proof.Machine.execCrystalCycle s
  | .drivingEdge => Sys2Proof.Machine.execDrivingEdge s
  | .dimPeriodStart output => Sys2Proof.Machine.execDimPeriodStart output s
  | .linkByteReceived byte => Sys2Proof.Machine.execLinkByteReceived byte s

end Sys2Proof.Machine
end

