-- ==== Sys2Proof/Machine/Step.lean ====
section
/-! DEFINITION. One step of the machine: the command at the front of the queue is taken; an empty queue lets a second of the
timers without a row pass. -/

namespace Sys2Proof.Machine

/-- With nothing waiting, a second passes for the timers whose running down has no row; a part held in reset idles.
DESIGN CHOICE (log 5). -/
def State.idle (s : State) : State := if s.part.running then { s with part := s.part.second } else s

/-- One step: the command at the front of the queue acts, with the rest of the queue left waiting. -/
def step (s : State) : Host.Outcome State Fault Refusal :=
  match s.pending with
  | [] => .next s.idle
  | c :: rest => exec c { s with pending := rest }

/-- The command a table word spells, put at the front of the queue; unchanged where the word spells none. -/
def State.withFetchWord (s : State) (nbits w : Nat) : State :=
  match decodeTableWord nbits w with
  | some i => { s with pending := i :: s.pending }
  | none => s

end Sys2Proof.Machine
end

