-- ==== Sys2Proof/WellFormed.lean ====
section
/-! DEFINITION. Which commands are well formed: the ranges of the numbers an event row names (00_scope.md, "Numbering"), and the
shapes that the row itself states (a frame received whole has its own length and CRC, a good answer its check). A request's
fields may hold any bytes: its owner's checks refuse what is out of range. An ill-formed event row is still given a meaning by
exec: it is taken as what its operands spell, or changes nothing where they name nothing. -/

namespace Sys2Proof

open Sys2Proof.Machine

/-- A zone number 0..11. -/
def zoneOk (z : Nat) : Bool := decide (z < 12)

/-- A station address 1..48. -/
def addressOk (a : Nat) : Bool := decide (1 ≤ a) && decide (a ≤ 48)

/-- A load index 0..127. -/
def loadOk (l : Nat) : Bool := decide (l < 128)

/-- An external channel number 0..19. -/
def channelOk (c : Nat) : Bool := decide (c < 20)

/-- A link frame received whole: a good length, that of its body, and a matching CRC (R185, R186). -/
def frameOk (length : Byte) (body : List Byte) (high low : Byte) : Bool :=
  decide (2 ≤ length.toNat) && decide (length.toNat ≤ 250) && decide (body.length = length.toNat) &&
    decide (crc16 (length :: body) = high ++ low)

/-- A scan list of 1..32 entries, as many as its count names (R49). -/
def scanOk (count : Byte) (entries : List Byte) : Bool :=
  decide (1 ≤ count.toNat) && decide (count.toNat ≤ 32) && decide (entries.length = count.toNat)

/-- A kind code that the catalogue does not hold (11, "Kind codes"), in a body of at most 250 bytes. -/
def unknownOk (kind : Byte) (fields : List Byte) : Bool :=
  (decide (kind.toNat = 0) || decide (34 < kind.toNat)) && decide (fields.length ≤ 248)

/-- An early event names a zone 0..11 or a fan group 0..5. -/
def earlyOk : Early → Bool
  | .evaluation z => zoneOk z
  | .demand g => decide (g < 6)
  | .pass _ => true

/-- A command is well formed. -/
def Instr.wellFormed : Instr → Bool
  | .linkFrameReceived length body high low => frameOk length body high low
  | .requestUnknownKind kind _ fields => unknownOk kind fields
  | .scanWrite _ count entries _ _ => scanOk count entries
  | .gasConversion c => channelOk c
  | .groupDemandCompute g => decide (g < 6)
  | .doorReport a _ early => addressOk a.toNat && early.all earlyOk
  | .hello a _ _ _ early => addressOk a.toNat && early.all earlyOk
  | .statusReport a _ _ early => addressOk a.toNat && early.all earlyOk
  | .presenceReport a _ => addressOk a.toNat
  | .stationFrameRejected heard => decide (heard ≠ .frame [])
  | .queryAnswer door condition check => decide (crc8 [door, condition] = check)
  | .setOutputsAnswer door check => decide (crc8 [door] = check)
  | .silenceTimerExpiry a => addressOk a
  | .phaseHandoffDoorLine z => zoneOk z
  | .zoneEvaluation z => zoneOk z
  | .evaluationTimerExpiry z => zoneOk z
  | .freezeGuardEdge c _ => channelOk c
  | .presenceTimerExpiry z => zoneOk z
  | .runOnExpiry a => addressOk a
  | .minOnExpiry l => loadOk l
  | .minOffExpiry l => loadOk l
  | .dimPeriodStart n => decide (n < 12)
  | .powerOn _ _ => true
  | .resetAsserted => true
  | .linkGapTimeout => true
  | .linkFrameSent => true
  | .askStatus _ => true
  | .setClock _ _ _ _ => true
  | .askClock _ => true
  | .setTrim _ _ _ _ => true
  | .calOpen _ => true
  | .calWriteHeader _ _ => true
  | .calWriteShift _ _ _ => true
  | .calWriteProfile _ _ _ => true
  | .calWriteWindow _ _ _ => true
  | .calClose _ => true
  | .calDrop _ => true
  | .calReadHeader _ _ => true
  | .calReadShift _ _ _ => true
  | .calReadProfile _ _ _ => true
  | .calReadWindow _ _ _ => true
  | .calReadState _ => true
  | .calReadZone _ _ => true
  | .zoneWriteOne _ _ _ => true
  | .zoneWriteTiming _ _ _ => true
  | .zoneRead _ _ => true
  | .zoneOverridePhaseActive _ _ _ _ => true
  | .zoneOverridePhaseIdle _ _ _ => true
  | .zoneOverrideLight _ _ _ _ => true
  | .zoneOverrideCancelPhase _ _ => true
  | .zoneOverrideCancelLight _ _ => true
  | .chanWrite _ _ _ => true
  | .chanReadChannel _ _ => true
  | .chanReadScan _ => true
  | .measure _ _ => true
  | .flagsClear _ _ => true
  | .groupWriteOne _ _ _ => true
  | .groupWriteHold _ _ => true
  | .groupRead _ _ => true
  | .stationWriteOne _ _ _ _ => true
  | .stationWriteMaskEnable _ _ => true
  | .stationWriteMaskDisable _ _ => true
  | .stationWriteTimeout _ _ => true
  | .stationReadOne _ _ => true
  | .stationReadSummary _ => true
  | .lineReset _ => true
  | .loadWrite _ _ _ => true
  | .loadReadOne _ _ => true
  | .loadReadSummary _ => true
  | .loadEnableSet _ _ => true
  | .loadEnableClear _ _ => true
  | .auxRequest _ _ _ _ => true
  | .limitWrite _ _ _ => true
  | .limitCapSet _ _ _ => true
  | .limitCapCancel _ => true
  | .noticeMask _ _ => true
  | .saveConfig _ => true
  | .saveComplete => true
  | .restart _ => true
  | .restartEffect => true
  | .quarterSecondMark => true
  | .correctionCycle => true
  | .minuteBoundary => true
  | .scanTimerExpiry => true
  | .fastScanTimerExpiry => true
  | .conversionComplete _ => true
  | .validAgeSecond => true
  | .holdCheck => true
  | .frameStart => true
  | .arbitrationLost => true
  | .answerSent => true
  | .noAnswer => true
  | .lineRest => true
  | .lineClearReceived => true
  | .lineStuck => true
  | .stuckRelease => true
  | .lineDead => true
  | .deadProbe _ _ => true
  | .probeTimerExpiry => true
  | .doorSecondTick => true
  | .allocationPass _ => true
  | .spacingTimerExpiry => true
  | .capExpiry => true
  | .outputRefreshLatch => true
  | .periodicRefresh => true
  | .crystalCycle => true
  | .drivingEdge => true
  | .linkByteReceived _ => true

end Sys2Proof
end

