-- ==== Sys2Proof/Safety.lean ====
section
/-! DEFINITION. The terms of the claims: when a command acts at once, the replies and notices on their way out, what a
command leaves unchanged, and the invariants of the load budget, the queues and the clock. -/

namespace Sys2Proof.Machine

/-! ### When a command acts -/

/-- A request sent now is taken at once: the part runs, no request is in hand and none is held (R188). -/
structure State.Ready (s : State) : Prop where
  runs : s.part.running = true
  free : s.part.link.inHand = none
  noneHeld : s.part.link.holding = []
  /-- replies wait outside the reply list only while it holds some (R190) -/
  inOrder : s.part.link.waiting ≠ [] → s.part.link.replies ≠ []

/-- A configuration write sent now is taken at once and not refused BUSY: no save runs (R191). -/
structure State.Writable (s : State) : Prop where
  ready : s.Ready
  noSave : s.part.link.saving = none

/-! ### Replies on their way out -/

/-- The body of the reply the transmitter is sending, if it is sending one. -/
def Transmitter.replyBody : Transmitter → List (List Byte)
  | .idle => []
  | .notice _ => []
  | .reply r => [r.body]

/-- The bodies of the replies not yet sent whole, oldest first: the one being sent, the reply list, and those waiting for a
place in it (R190). -/
def Link.outgoing (l : Link) : List (List Byte) := l.transmitter.replyBody ++ (l.replies ++ l.waiting).map (·.body)

/-- The link port with the replies on their way out and the request in hand set aside. -/
def Link.aside (l : Link) : Link := { l with transmitter := .idle, replies := [], waiting := [], inHand := none }

/-- The part with the replies on their way out and the request in hand set aside. -/
def Part.aside (p : Part) : Part := { p with link := p.link.aside }

/-! ### Notices on their way out -/

/-- The notice the transmitter is sending, if it is sending one. -/
def Transmitter.noticeSent : Transmitter → List Notice
  | .idle => []
  | .notice n => [n]
  | .reply _ => []

/-- The notices not yet sent whole, oldest first: the one being sent, and the notice queue (R190, R193). -/
def Link.unsent (l : Link) : List Notice := l.transmitter.noticeSent ++ l.notices

/-- What a rule gives of a notice: its kind, its subject index and its detail bytes. -/
structure Posting where
  kind : NoticeKind
  subject : Nat
  detail : List Byte
  deriving DecidableEq, Repr

/-- The notice of a posting, stamped from a clock: the time fields of a RUNNING clock, 0 of an UNSET one, the detail filled to
four bytes (R15, R193, R202). -/
def Posting.stamped (w : Posting) (c : Clock) : Notice :=
  let set := decide (c.state = .running)
  { kind := w.kind, gap := false, clockSet := set
    dayCount := if set then c.dayCount else 0
    weekMinute := if set then c.weekMinute else 0
    second := if set then c.second else 0
    subject := w.subject, detail := (w.detail ++ [0, 0, 0, 0]).take 4 }

/-- The postings that a notice mask admits (R193). -/
def admitted (mask : BitVec 14) (ws : List Posting) : List Posting := ws.filter fun w => mask.getLsbD (w.kind.code - 1)

/-- Between p and q exactly the notices of these postings that the mask admits are created, in this order: where the queue has
places for them all, they stand after the notices that were not yet sent. -/
def Posts (ws : List Posting) (p q : Part) : Prop :=
  let created := admitted p.link.mask ws
  p.link.notices.length + created.length ≤ Config.noticePlaces →
    q.link.unsent = p.link.unsent ++ created.map (·.stamped q.clock)

/-- As Posts, for an event with at most n passes of the load budget between its first and its last notices: each pass posts one
BUDGET notice or none. -/
def PostsAround (first : List Posting) (n : Nat) (last : List Posting) (p q : Part) : Prop :=
  let stamp := fun (ws : List Posting) => (admitted p.link.mask ws).map (·.stamped q.clock)
  p.link.notices.length + (stamp first).length + n + (stamp last).length ≤ Config.noticePlaces →
    ∃ budget : List Notice, budget.length ≤ n ∧ (∀ x ∈ budget, x.kind = .budget) ∧
      q.link.unsent = p.link.unsent ++ stamp first ++ budget ++ stamp last

/-! ### Answers and events -/

/-- Request i of this tag and kind is taken at once: exec answers a next state in which the reply formed from verdict v stands
last among the replies on their way out, the request is in hand, the queue of commands is as it was, and the part is one that
`after` accepts. -/
def Answers (i : Instr) (s : State) (tag kind : Byte) (v : Verdict) (after : Part → Prop) : Prop :=
  ∃ t, exec i s = .next t ∧ t.pending = s.pending ∧
    t.part.link.outgoing = s.part.link.outgoing ++ [v.body tag kind] ∧ t.part.link.inHand = some (tag, kind) ∧ after t.part

/-- Request i is taken at once and answered with verdict v, and but for the replies on their way out and the request in hand
the part is then p. -/
def AnswersWith (i : Instr) (s : State) (tag kind : Byte) (v : Verdict) (p : Part) : Prop :=
  Answers i s tag kind v fun q => q.aside = p.aside

/-- Event c takes the part to p, whose transmitter, when idle, then picks its next frame (R190). -/
def Becomes (c : Instr) (s : State) (p : Part) : Prop := exec c s = .next { s with part := p.close }

/-- Event c completes: exec answers a next state with the queue of commands as it was and a part that `after` accepts. -/
def Ends (c : Instr) (s : State) (after : Part → Prop) : Prop :=
  ∃ t, exec c s = .next t ∧ t.pending = s.pending ∧ after t.part

/-- Commands executed one after another, each on the state that the one before it leaves. -/
def execAll (s : State) : List Instr → Host.Outcome State Fault Refusal
  | [] => .next s
  | c :: rest =>
    match exec c s with
    | .next t => execAll t rest
    | stopped => stopped

/-- A request row of the catalogue, other than one of an unknown kind. -/
def inCatalogue (i : Instr) : Bool :=
  match i with
  | .requestUnknownKind _ _ _ => false
  | _ => !(encodeRequest i).isEmpty

/-! ### What a command leaves unchanged -/

/-- The pieces of the part that a claim may say are unchanged. -/
inductive Piece where
  | clock | runningCalendar | editor | zonePhases | limitWindow | measurement | doorLine | conditioner | airQuality | budget
  /-- the receiver, the holding area and the error count -/
  | receiver
  /-- the store, the save in progress, unsaved changes, the start figures and the notice mask -/
  | settings
  /-- the frame being sent, but that an idle transmitter may pick one -/
  | sending
  /-- the replies on their way out, the request in hand and the deferred tags -/
  | replies
  /-- the notices on their way out -/
  | notices
  /-- the events handed between blocks and not yet taken -/
  | handed
  | running
  deriving DecidableEq, Repr

/-- A piece is the same in two parts. -/
def Piece.Same (p q : Part) : Piece → Prop
  | .clock => q.clock = p.clock
  | .runningCalendar => q.cal.running = p.cal.running
  | .editor => q.cal.editor = p.cal.editor
  | .zonePhases => q.cal.zones = p.cal.zones
  | .limitWindow => q.cal.activeWindow = p.cal.activeWindow ∧ q.cal.handedLimit = p.cal.handedLimit
  | .measurement => q.mu = p.mu
  | .doorLine => q.dl = p.dl
  | .conditioner => q.zc = p.zc
  | .airQuality => q.air = p.air
  | .budget => q.lb = p.lb
  | .receiver => q.link.receiver = p.link.receiver ∧ q.link.holding = p.link.holding ∧ q.link.errors = p.link.errors
  | .settings =>
    q.link.store = p.link.store ∧ q.link.storeGood = p.link.storeGood ∧ q.link.saving = p.link.saving ∧
      q.link.unsaved = p.link.unsaved ∧ q.link.startCause = p.link.startCause ∧ q.link.source = p.link.source ∧
      q.link.speed = p.link.speed ∧ q.link.mask = p.link.mask
  | .sending => p.link.transmitter ≠ .idle → q.link.transmitter = p.link.transmitter
  | .replies =>
    q.link.outgoing = p.link.outgoing ∧ q.link.inHand = p.link.inHand ∧ q.link.deferredMeasure = p.link.deferredMeasure ∧
      q.link.deferredSave = p.link.deferredSave
  | .notices => q.link.unsent = p.link.unsent
  | .handed => q.due = p.due
  | .running => q.running = p.running

/-- Every piece of the part but those listed is unchanged. -/
def ChangesOnly (pieces : List Piece) (p q : Part) : Prop := ∀ x, x ∉ pieces → x.Same p q

/-! ### The load budget -/

/-- The draws of all granted loads together never exceed the effective limit (09, "The allocation pass"). -/
def Budget.DemandLaw (lb : Budget) : Prop := lb.grantedSum ≤ lb.el

/-- A HEAT or FAN load above stage 1 that holds a grant stands on a granted load of the stage below, of its own kind and owner
(R172). -/
def Budget.ChainLaw (lb : Budget) : Prop :=
  ∀ i < 128, (lb.load i).grant.held = true → (lb.load i).cfg.isChain = true → 1 < (lb.load i).cfg.stage →
    ∃ j < 128, (lb.load j).grant.held = true ∧ (lb.load j).cfg.kind = (lb.load i).cfg.kind ∧
      (lb.load j).cfg.owner = (lb.load i).cfg.owner ∧ (lb.load j).cfg.stage + 1 = (lb.load i).cfg.stage

/-- Grants, load states and the two load timers agree: a grant is held exactly in STARTING and ON, and only by a load that is
in use and request-enabled; min-on runs only in ON and min-off exactly in RESTING (R165, R172, R176). -/
structure Budget.StatesLaw (lb : Budget) : Prop where
  held : ∀ i < 128, (lb.load i).grant.held = true ↔ (lb.load i).state = .starting ∨ (lb.load i).state = .on
  enabled : ∀ i < 128, (lb.load i).grant.held = true → (lb.load i).cfg.enabled = true ∧ (lb.load i).cfg.kind ≠ .unused
  minOn : ∀ i < 128, (lb.load i).minOn.isSome = true → (lb.load i).state = .on
  minOff : ∀ i < 128, (lb.load i).minOff.isSome = true ↔ (lb.load i).state = .resting

/-- The BUDGET baseline is the refused set as it stands (R179). -/
def Budget.RefusedLaw (lb : Budget) : Prop := ∀ i < 128, Tab.get lb.baseline i = (lb.load i).refused

/-- The start queue holds the loads in STARTING, each once, and does not wait with the spacing timer stopped (R178). -/
structure Budget.QueueLaw (lb : Budget) : Prop where
  once : lb.queue.Nodup
  starting : ∀ i, i ∈ lb.queue ↔ i < 128 ∧ (lb.load i).state = .starting
  timed : lb.queue ≠ [] → lb.spacingTimer.isSome = true

/-! ### Queues of the link port, the door line and the measurement unit -/

/-- A scan list has 1 to 32 entries (R49). -/
def ScanListLaw (l : List Nat) : Prop := 1 ≤ l.length ∧ l.length ≤ 32

/-- The bytes gathered of a frame's body are as many as its length byte, of 2 to 250, says or are still to come (R186). -/
def Receiver.PlacesLaw : Receiver → Prop
  | .hunt => True
  | .length => True
  | .body len left got => 2 ≤ len.toNat ∧ len.toNat ≤ 250 ∧ 1 ≤ left ∧ got.length + left = len.toNat
  | .check len got _ => 2 ≤ len.toNat ∧ len.toNat ≤ 250 ∧ got.length = len.toNat

/-- No list holds more than its places, a scan list, in use, staged, being saved or stored, is of 1 to 32 entries, and replies
wait outside the reply list only while it is full (R49, R50, R53, R85, R186, R187, R190, R193). -/
structure Part.PlacesLaw (p : Part) : Prop where
  receiver : p.link.receiver.PlacesLaw
  holding : p.link.holding.length ≤ Config.holdingPlaces
  replies : p.link.replies.length ≤ Config.replyPlaces
  waiting : p.link.waiting ≠ [] → p.link.replies.length = Config.replyPlaces
  notices : p.link.notices.length ≤ Config.noticePlaces
  outbound : p.dl.queue.length ≤ Config.outboundPlaces
  priority : p.mu.priority.length ≤ Config.priorityPlaces
  active : ScanListLaw p.mu.active
  staged : ∀ l, p.mu.staged = some l → ScanListLaw l
  saving : ∀ image, p.link.saving = some image → ScanListLaw image.scanList
  stored : ∀ image, p.link.store = some image → ScanListLaw image.scanList
  histories : ∀ c < 21, (p.channel c).history.length ≤ 8

/-- At most one entry stands in the outbound queue for each station, only its head can be in flight, and it is in flight only
on a BUSY line and exactly while a frame of the controller's is being sent or awaits its answer (R68, R85, R86). -/
structure DoorLine.FlightLaw (d : DoorLine) : Prop where
  once : (d.queue.map (·.address)).Nodup
  head : ∀ e ∈ d.queue.drop 1, e.inFlight = false
  busy : d.flying.isSome = true → d.line = .busy
  sending : d.sending.isSome = true ↔ d.flying.isSome = true

/-! ### The clock -/

/-- Every counter of the clock record is in its range (01, "Time base and counters"). -/
structure Clock.InRange (c : Clock) : Prop where
  weekMinute : c.weekMinute < Config.minutesPerWeek
  second : c.second < 60
  tick : c.tick < Config.ticksPerSecond
  dayCount : c.dayCount < 65536
  mark : c.mark < Config.marksPerPeriod
  cv : c.cv.natAbs ≤ 1023
  correction : c.correction = .plain ∨ c.correction = correctionFor c.mark c.cv

/-- Where the clock stands in the week, in crystal ticks. -/
def Clock.position (c : Clock) : Nat := (c.weekMinute * 60 + c.second) * Config.ticksPerSecond + c.tick

/-- Crystal ticks in a week. -/
def ticksPerWeek : Nat := Config.minutesPerWeek * 60 * Config.ticksPerSecond

end Sys2Proof.Machine
end

