-- ==== Sys2Proof/Certificates/Slice0/Obligations.lean ====
section
/-! DEFINITION. The statements for the provers, each a Prop that cites the rules it formalises. Names from Machine/ are the
model's own; the terms Answers, Becomes, Ends and the laws are those of Safety.lean. -/

open Sys2Proof Sys2Proof.Machine

/-! ### The notices of the events -/

/-- A posting, made where its condition holds. -/
def told (b : Prop) [Decidable b] (kind : NoticeKind) (subject : Nat) (detail : List Byte) : List Posting :=
  if b then [{ kind := kind, subject := subject, detail := detail }] else []

/-- The PHASE notice of zone z, where its effective phase, profile or source changes (R34). -/
def phaseTold (p q : Part) (z : Nat) : List Posting :=
  let old := (p.calZone z).effective
  let new := (q.calZone z).effective
  told (new ≠ old) .phase z (u8 old.phase.code ++ u8 new.phase.code ++ u8 (new.profile.getD 255) ++ u8 new.source.code)

/-- The SENSOR_LOST notice of an evaluation of zone z, which sets LOST from another mode or at the first evaluation (R120). -/
def lostTold (p q : Part) (z : Nat) : List Posting :=
  let old := p.zone z
  let cfg := (q.zone z).cfg
  told ((q.zone z).mode = .lost ∧ (old.mode ≠ .lost ∨ old.evaluated = false)) .sensorLost z
    (u8 cfg.channel ++ u8 (p.channel cfg.channel).validity.code ++ u8 old.mode.code ++
      u8 (min cfg.fallback (q.lb.count .heat z)))

/-- The AIR notice of a change of a level (R151). Its sort LEVEL, which no list of the manual codes, is sent as 0: the model's
choice (log entry 88). -/
def levelTold (c old new : Nat) (cause : LevelCause) : List Posting :=
  told (new ≠ old) .air c (0 :: (u8 old ++ u8 new ++ u8 cause.code))

/-- The AIR notice of a change of group g's alarm guard (R159). Its sort GUARD, which no list of the manual codes, is sent as 1:
the model's choice (log entry 88). -/
def guardTold (p q : Part) (g : Nat) : List Posting :=
  told ((q.group g).guard ≠ (p.group g).guard) .air g
    (1 :: (flagByte (p.group g).guard ++ flagByte (q.group g).guard ++ u8 (q.group g).demand))

/-- The STATION notice of a change of state into or out of PRESENT, with the last frame result or none (R110). -/
def stationTold (a : Nat) (old new : StationState) (cause : StationCause) (last : Option RxResult) : List Posting :=
  told (old = .present ∧ new ≠ .present ∨ old ≠ .present ∧ new = .present) .station a
    (u8 old.code ++ u8 new.code ++ u8 cause.code ++ u8 ((last.map RxResult.code).getD 255))

/-- The DOOR_OPEN_LONG notice of an open watch that stands at or above a limit in minutes, not yet sent (R107). -/
def longTold (a : Nat) (watch : Option Nat) (sent : Bool) (zone limit : Nat) : List Posting :=
  match watch with
  | some w => told (limit * 60 ≤ w ∧ sent = false) .doorOpenLong a (u8 zone ++ u8 limit ++ u16 (w / 60))
  | none => []

/-- The notices of a door change of station a from its record st (R104, R107): DOOR_OPEN_LONG of a watch that starts at or above
its limit, then DOOR. -/
def doorTold (a : Nat) (st : Station) (door : DoorState) (docked : Bool) (limit : Nat) : List Posting :=
  let stood := st.door = .opened ∧ st.docked = false
  let sent := st.limitSent && decide (st.door ≠ .closed)
  longTold a (if door = .opened ∧ docked = false ∧ ¬ stood then some 0 else none) sent st.cfg.zone limit ++
    told (st.door ≠ door ∨ st.docked ≠ docked) .door a
      (u8 st.door.code ++ u8 door.code ++ u8 (2 * st.docked.toNat + docked.toNat) ++ u8 st.cfg.zone)

/-- The notices of a station with record st that leaves for a state with its door UNKNOWN (R94, R96, R83). -/
def leaveTold (a : Nat) (st : Station) (new : StationState) (cause : StationCause) : List Posting :=
  stationTold a st.state new cause st.lastResult ++ doorTold a st .unknown false 0

/-- The notices of the stations that a line clear makes ABSENT, in ascending address (R110). -/
def clearTold (p : Part) : List Posting :=
  (List.range 48).flatMap fun k =>
    let st := p.station (k + 1)
    if st.state = .disabled then [] else leaveTold (k + 1) st .absent .lineClear

/-- The LINE notice of a change of line state (R79). -/
def lineTold (old new : LineState) (errors : Nat) : List Posting :=
  [{ kind := .line, subject := 0, detail := u8 old.code ++ u8 new.code ++ u16 errors }]

/-- The draw of a load at a grant (R168). -/
def drawOf (c : LoadConfig) : Grant → Nat
  | .none => 0
  | .on => c.rating
  | .level l => (c.rating * l + 99) / 100

/-- The BUDGET notice of a pass, where the refused set differs from that of the pass before: the loads in the set, their draw,
a LIGHT's at its request, with the forced flag in the top bit, and the effective limit (R179). -/
def budgetTold (p q : Part) : List Posting :=
  let flag := fun i => (q.lb.load i).refused
  let set := (List.range 128).filter fun i => decide (flag i ≠ .none)
  let draw := (set.map fun i =>
    let l := q.lb.load i
    drawOf l.cfg (if l.cfg.kind = .light then .level l.request else .on)).sum
  let forced := set.any fun i => decide (flag i = .forced)
  told (((List.range 128).any fun i => decide (flag i ≠ Tab.get p.lb.baseline i)) = true) .budget set.length
    (u16 (min 32767 draw + (if forced then 32768 else 0)) ++ u16 q.lb.el)

/-- A window limit handed to the load budget and not yet taken. -/
def waitingLimit : Due → Bool
  | .budget (.window _) => true
  | .budget (.startWindow _) => true
  | _ => false

/-- The passes that a window limit handed in an event may run: one, and one for each limit handed that still waits. -/
def windowPasses (p q : Part) : Nat :=
  if q.cal.handedLimit = p.cal.handedLimit then 0 else p.due.countP waitingLimit + 1

/-! ### The hand-offs of the zones -/

/-- Zone z is handed to the three consumers: where its effective phase, profile or source changes, and at a commit always
(R34). -/
def ZoneHanded (p q : Part) (commits : Bool) (z : Nat) : Prop :=
  (q.calZone z).effective ≠ (p.calZone z).effective ∨ commits = true

/-- What the hand-off of zone z leaves to be taken, by the zone conditioner, the air quality unit and the door line controller:
its evaluation, its group's demand, and its door-open limit with the shift-start mark (R34); before them its light guard, where
the zone conditioner finds it changed (R136). Nothing for a zone that is not handed. -/
def handedOn (p q : Part) (commits : Bool) (z : Nat) : List Due :=
  let old := (p.calZone z).effective
  let new := (q.calZone z).effective
  if new ≠ old ∨ commits = true then
    (if (q.zone z).lightGuard = (p.zone z).lightGuard then [] else [.budget (.lightGuard z (q.zone z).lightGuard)]) ++
      [.evaluate z, .demand (p.zone z).cfg.group,
        .doorLimit z (q.cal.running.doorLimit new)
          (decide (new.phase = .active ∧ (old.phase ≠ .active ∨ old.source ≠ new.source)))]
  else []

/-- What the zone conditioner takes up of the hand-offs at once: a zone handed IDLE from another phase has its I cleared, and
the light guard of a zone handed stands while its phase is not IDLE or its presence timer runs (R130, R136). The rest of its
records stays. -/
def PhasesTakenUp (p q : Part) (commits : Bool) : Prop :=
  q.zc = { p.zc with zones := q.zc.zones } ∧
  ∀ z < 12,
    let old := p.zone z
    let phase := (q.calZone z).effective.phase
    (ZoneHanded p q commits z →
      q.zone z =
        { old with
          i := if phase = .idle ∧ (p.calZone z).effective.phase ≠ .idle then 0 else old.i
          lightGuard := decide (phase ≠ .idle) || old.presence.isSome }) ∧
    (¬ ZoneHanded p q commits z → q.zone z = old)

/-- The events due with those a new window limit takes along: every limit that still waits, when the limit handed changes. -/
def limitsTaken (p q : Part) (due : List Due) : List Due :=
  if q.cal.handedLimit = p.cal.handedLimit then due else due.filter fun d => !waitingLimit d

/-! ### The hand-offs of the doors -/

/-- What a change of station a's door state or docked status hands to the zone conditioner and the air quality unit: an
evaluation of its zone, and the demand of that zone's group (R104 step 4). Nothing where neither changes. The order of the two
is the model's choice (log entry 2). -/
def doorHanded (p : Part) (a : Nat) (door : DoorState) (docked : Bool) : List Due :=
  let st := p.station a
  if st.door ≠ door ∨ st.docked ≠ docked then [.evaluate st.cfg.zone, .demand (p.zone st.cfg.zone).cfg.group] else []

/-- What station a hands on as it leaves with its door UNKNOWN and its curtain demand 0: the change of its door (R104), and the
curtain heat request of its CURTAIN load withdrawn where one stands (R109). -/
def leaveHanded (p : Part) (a : Nat) : List Due :=
  doorHanded p a .unknown false ++
    if p.lb.count .curtain a ≠ 0 ∧ p.curtainHanded a = true then [.budget (.curtain a false)] else []

/-- In the zone conditioner the stations that `left` names lose their curtain demand: the run-on of each is cancelled (R140),
and the request of its CURTAIN load, where it has one, is 0 (R109). The rest of the unit stays. -/
def DemandsEnd (p q : Part) (left : Nat → Prop) : Prop :=
  q.zc = { p.zc with runOns := q.zc.runOns, curtainHanded := q.zc.curtainHanded } ∧
  ∀ a, 1 ≤ a → a ≤ 48 →
    (left a → q.runOn a = none ∧
      (p.lb.count .curtain a ≠ 0 → q.curtainHanded a = false) ∧
      (p.lb.count .curtain a = 0 → q.curtainHanded a = p.curtainHanded a)) ∧
    (¬ left a → q.runOn a = p.runOn a ∧ q.curtainHanded a = p.curtainHanded a)

/-! ### The machine -/

/-- A step with a command at the front of the queue is exec of that command with the queue's rest. -/
def Obligations.StepTakesTheFrontCommand : Prop :=
  ∀ (c : Instr) (rest : List Instr) (s : State), step { s with pending := c :: rest } = exec c { s with pending := rest }

/-- Every command completes in every state, and no command touches the queue of commands. That no command ends in a fault,
and that a row told out of its season (of a part held in reset, a timer that has not run out, a number out of range) is a step
without a change, is the model's choice (log entries 6, 7, 50 and 59). -/
def Obligations.EveryCommandCompletes : Prop :=
  ∀ (c : Instr) (s : State), ∃ t, exec c s = .next t ∧ t.pending = s.pending

/-- With no command waiting a running part lets one second pass on the timers whose running down has no row, each stopping
at 0: scan, fast-scan, probe, the probe of a DEAD line, evaluation, presence, run-on, min-on, min-off, cap and spacing; nothing
else changes, and a part held in reset idles. The row-less second is the model's choice (log entry 5). -/
def Obligations.AnEmptyQueueLetsASecondPass : Prop :=
  ∀ s : State, s.pending = [] →
    (s.part.running = false → step s = .next s) ∧
    (s.part.running = true → ∃ t, step s = .next t ∧ t.pending = [] ∧
      ChangesOnly [.measurement, .doorLine, .conditioner, .budget] s.part t.part ∧
      t.part.mu =
        { s.part.mu with scanTimer := s.part.mu.scanTimer - 1, fastTimer := s.part.mu.fastTimer - 1 } ∧
      t.part.dl =
        { s.part.dl with
          probeTimer := s.part.dl.probeTimer - 1, deadProbe := s.part.dl.deadProbe.map (· - 1) } ∧
      t.part.zc = { s.part.zc with zones := t.part.zc.zones, runOns := t.part.zc.runOns } ∧
      (∀ z < 12, t.part.zone z =
        { s.part.zone z with
          timer := (s.part.zone z).timer - 1, presence := (s.part.zone z).presence.map (· - 1) }) ∧
      (∀ a, 1 ≤ a → a ≤ 48 → t.part.runOn a = (s.part.runOn a).map (· - 1)) ∧
      t.part.lb =
        { s.part.lb with
          loads := t.part.lb.loads, cap := s.part.lb.cap.map fun c => { c with left := c.left - 1 }
          spacingTimer := s.part.lb.spacingTimer.map (· - 1) } ∧
      (∀ i < 128, t.part.lb.load i =
        { s.part.lb.load i with
          minOn := (s.part.lb.load i).minOn.map (· - 1), minOff := (s.part.lb.load i).minOff.map (· - 1) }))

/-! ### Reads -/

/-- ASK_STATUS, ASK_CLOCK and the reads of records answer DONE with the record's data and change nothing; a read of a calendar
copy answers from the running copy (selector 0), or from the edit copy where there is one (selector 1). The bytes of the data
that no rule places or values, those of a timer that is stopped among them, are the model's choice (log entries 19, 21, 62, 69,
70, 78, 80, 83, 84, 85, 89 and 96). -/
def Obligations.RecordReadsAnswerAndChangeNothing : Prop :=
  ∀ (s : State) (tag sel n : Byte), s.Ready →
    AnswersWith (.askStatus tag) s tag 0x01 (.done 0 s.part.statusData) s.part ∧
    AnswersWith (.askClock tag) s tag 0x03 (.done 0 s.part.clockData) s.part ∧
    AnswersWith (.calReadState tag) s tag 0x0C (.done 0 s.part.calStateData) s.part ∧
    (n.toNat ≤ 11 → AnswersWith (.calReadZone tag n) s tag 0x0C (.done 0 (s.part.calZone n.toNat).data) s.part) ∧
    (n.toNat ≤ 11 → AnswersWith (.zoneRead tag n) s tag 0x0E (.done 0 (s.part.zoneData n.toNat)) s.part) ∧
    (n.toNat ≤ 20 → AnswersWith (.chanReadChannel tag n) s tag 0x11 (.done 0 (s.part.channel n.toNat).data) s.part) ∧
    AnswersWith (.chanReadScan tag) s tag 0x11 (.done 0 s.part.mu.scanData) s.part ∧
    (n.toNat ≤ 5 → AnswersWith (.groupRead tag n) s tag 0x16 (.done 0 (s.part.groupData n.toNat)) s.part) ∧
    (1 ≤ n.toNat ∧ n.toNat ≤ 48 →
      AnswersWith (.stationReadOne tag n) s tag 0x18 (.done 0 (s.part.stationData n.toNat)) s.part) ∧
    AnswersWith (.stationReadSummary tag) s tag 0x18 (.done 0 s.part.stationSummary) s.part ∧
    (n.toNat ≤ 127 → AnswersWith (.loadReadOne tag n) s tag 0x1B (.done 0 (s.part.lb.loadData n.toNat)) s.part) ∧
    AnswersWith (.loadReadSummary tag) s tag 0x1B (.done 0 s.part.loadSummary) s.part ∧
    ∀ copy : CalCopy, (sel = 0 ∧ copy = s.part.cal.running ∨ sel = 1 ∧ s.part.cal.editor.copy? = some copy) →
      AnswersWith (.calReadHeader tag sel) s tag 0x0C (.done 0 copy.header.data) s.part ∧
      (n.toNat ≤ 41 → AnswersWith (.calReadShift tag sel n) s tag 0x0C (.done 0 (copy.shift n.toNat).data) s.part) ∧
      (n.toNat ≤ 7 → AnswersWith (.calReadProfile tag sel n) s tag 0x0C (.done 0 (copy.profile n.toNat).data) s.part) ∧
      (n.toNat ≤ 7 → AnswersWith (.calReadWindow tag sel n) s tag 0x0C (.done 0 (copy.window n.toNat).data) s.part)

/-- The number of field bytes of each kind of request that has no forms, SCAN_WRITE apart (R201). -/
def fieldLengths : List (Byte × Nat) :=
  [(0x01, 0), (0x02, 5), (0x03, 0), (0x04, 4), (0x05, 0), (0x06, 14), (0x07, 10), (0x08, 14), (0x09, 9), (0x0A, 0), (0x0B, 0),
    (0x0C, 3), (0x0E, 1), (0x0F, 5), (0x10, 32), (0x11, 2), (0x13, 1), (0x14, 3), (0x16, 1), (0x18, 2), (0x19, 0), (0x1A, 16),
    (0x1B, 2), (0x1C, 17), (0x1D, 4), (0x1E, 3), (0x1F, 4), (0x20, 2), (0x21, 0), (0x22, 0)]

/-- The forms of ZONE_WRITE, GROUP_WRITE and STATION_WRITE, each with its field bytes after the form byte (R201). -/
def formLengths : List (Byte × Byte × Nat) :=
  [(0x0D, 0, 13), (0x0D, 1, 3), (0x15, 0, 2), (0x15, 1, 2), (0x17, 0, 3), (0x17, 1, 7), (0x17, 2, 2)]

/-- A read of a number beyond its records is refused INDEX, from either calendar copy; a read of the edit copy where there is
none STATE; a copy selector that names no copy RANGE; a body whose item, form or action its kind does not have RANGE; a
body that is not the length its kind, its form or its own count calls for LENGTH; and a body of a kind that the catalogue does
not hold KIND; each changes nothing. The order of an unknown form or action among the checks, and the field number of the STATE
refusals, are the model's choice (log entries 16, 17 and 23). -/
def Obligations.UnknownKindsAndRecordsAreRefused : Prop :=
  ∀ (s : State) (tag n sel : Byte), s.Ready →
    (11 < n.toNat → AnswersWith (.calReadZone tag n) s tag 0x0C (.refused .index 3) s.part) ∧
    (11 < n.toNat → AnswersWith (.zoneRead tag n) s tag 0x0E (.refused .index 1) s.part) ∧
    (20 < n.toNat → AnswersWith (.chanReadChannel tag n) s tag 0x11 (.refused .index 2) s.part) ∧
    (5 < n.toNat → AnswersWith (.groupRead tag n) s tag 0x16 (.refused .index 1) s.part) ∧
    (n.toNat = 0 ∨ 48 < n.toNat → AnswersWith (.stationReadOne tag n) s tag 0x18 (.refused .index 2) s.part) ∧
    (127 < n.toNat → AnswersWith (.loadReadOne tag n) s tag 0x1B (.refused .index 2) s.part) ∧
    (sel.toNat ≤ 1 →
      (41 < n.toNat → AnswersWith (.calReadShift tag sel n) s tag 0x0C (.refused .index 3) s.part) ∧
      (7 < n.toNat → AnswersWith (.calReadProfile tag sel n) s tag 0x0C (.refused .index 3) s.part) ∧
      (7 < n.toNat → AnswersWith (.calReadWindow tag sel n) s tag 0x0C (.refused .index 3) s.part)) ∧
    (1 < sel.toNat →
      ∀ i ∈ [Instr.calReadHeader tag sel, .calReadShift tag sel n, .calReadProfile tag sel n, .calReadWindow tag sel n],
        AnswersWith i s tag 0x0C (.refused .range 2) s.part) ∧
    (s.part.cal.editor = .noEdit →
      AnswersWith (.calReadHeader tag 1) s tag 0x0C (.refused .state 2) s.part ∧
      (n.toNat ≤ 41 → AnswersWith (.calReadShift tag 1 n) s tag 0x0C (.refused .state 2) s.part) ∧
      (n.toNat ≤ 7 → AnswersWith (.calReadProfile tag 1 n) s tag 0x0C (.refused .state 2) s.part) ∧
      (n.toNat ≤ 7 → AnswersWith (.calReadWindow tag 1 n) s tag 0x0C (.refused .state 2) s.part)) ∧
    (s.part.link.receiver = .hunt → ∀ item : Byte,
      let frame := fun (body : List Byte) =>
        let length := BitVec.ofNat 8 body.length
        let crc := crc16 (length :: body)
        Instr.linkFrameReceived length body (crc.extractLsb' 8 8) (crc.extractLsb' 0 8)
      (5 < item.toNat → AnswersWith (frame [0x0C, tag, item, sel, n]) s tag 0x0C (.refused .range 1) s.part) ∧
      (1 < item.toNat → ∀ kind ∈ [(0x11 : Byte), 0x18, 0x1B],
        AnswersWith (frame [kind, tag, item, n]) s tag kind (.refused .range 1) s.part) ∧
      (∀ kind length fields, (kind, length) ∈ fieldLengths → fields.length ≠ length → fields.length ≤ 248 →
        AnswersWith (frame (kind :: tag :: fields)) s tag kind (.refused .length 0) s.part) ∧
      (∀ kind form length fields, (kind, form, length) ∈ formLengths → fields.length ≠ length → fields.length ≤ 247 →
        AnswersWith (frame (kind :: tag :: form :: fields)) s tag kind (.refused .length 0) s.part) ∧
      (∀ kind ∈ [(0x0D : Byte), 0x12, 0x15, 0x17],
        AnswersWith (frame [kind, tag]) s tag kind (.refused .length 0) s.part) ∧
      (∀ fields : List Byte, fields.length ≤ 247 →
        (item = 0 ∨ 32 < item.toNat ∨ fields.length ≠ item.toNat + 2 →
          AnswersWith (frame (0x12 :: tag :: item :: fields)) s tag 0x12 (.refused .length 0) s.part) ∧
        (1 < item.toNat → ∀ kind ∈ [(0x0D : Byte), 0x15],
          AnswersWith (frame (kind :: tag :: item :: fields)) s tag kind (.refused .range 1) s.part) ∧
        (2 < item.toNat → AnswersWith (frame (0x17 :: tag :: item :: fields)) s tag 0x17 (.refused .range 1) s.part) ∧
        (4 < item.toNat → fields.length = 3 →
          AnswersWith (frame (0x0F :: tag :: n :: item :: fields)) s tag 0x0F
            (if n.toNat ≤ 11 then .refused .range 2 else .refused .index 1) s.part) ∧
        (1 < item.toNat →
          (fields.length = 3 →
            AnswersWith (frame (0x1F :: tag :: item :: fields)) s tag 0x1F (.refused .range 1) s.part) ∧
          (fields.length = 6 →
            AnswersWith (frame (0x17 :: tag :: 1 :: (fields ++ [item]))) s tag 0x17
              (if s.part.link.saving = none then .refused .range 3 else .refused .busy 0) s.part) ∧
          (fields.length = 16 →
            AnswersWith (frame (0x1C :: tag :: (fields ++ [item]))) s tag 0x1C
              (if s.part.link.saving = none then .refused .range 2 else .refused .busy 0) s.part)))) ∧
    (∀ (kind : Byte) (fields : List Byte), kind = 0 ∨ 34 < kind.toNat →
      AnswersWith (.requestUnknownKind kind tag fields) s tag kind (.refused .kind 0) s.part)

/-! ### The link port -/

/-- Reading the body of a well-formed request of the catalogue gives the request back. -/
def Obligations.DecodeOfAnEncodedRequest : Prop :=
  ∀ i : Instr, inCatalogue i = true → i.wellFormed = true → decodeRequest (encodeRequest i) = .request i

/-- A well-formed request that arrives as a frame whole, on a hunting receiver with nothing in hand, is the request itself. That
a request row is taken as its frame would be is the model's choice (log entry 13). -/
def Obligations.AFrameOfARequestIsTheRequest : Prop :=
  ∀ (i : Instr) (s : State), i.wellFormed = true → encodeRequest i ≠ [] → s.Ready → s.part.link.receiver = .hunt →
    let body := encodeRequest i
    let length := BitVec.ofNat 8 body.length
    let crc := crc16 (length :: body)
    exec (.linkFrameReceived length body (crc.extractLsb' 8 8) (crc.extractLsb' 0 8)) s = exec i s

/-- A frame of a good length on a hunting receiver: with a matching CRC its body is received, otherwise it is discarded, the
error count rises by one up to 65535, and nothing else changes. -/
def Obligations.AFrameIsTakenByItsCrc : Prop :=
  ∀ (s : State) (body : List Byte) (high low : Byte), s.part.running = true → s.part.link.receiver = .hunt →
    2 ≤ body.length → body.length ≤ 250 →
    let length := BitVec.ofNat 8 body.length
    Becomes (.linkFrameReceived length body high low) s
      (if crc16 (length :: body) = high ++ low then s.part.receiveBody body
        else { s.part with link := { s.part.link with errors := min 65535 (s.part.link.errors + 1) } })

/-- The receiver takes one byte: it hunts for 0xA5, takes a length of 2 to 250 and discards any other, takes the body to its
last byte and then the two bytes of its check, on which the body is received or the frame discarded; a gap inside a frame
discards it, and a gap while hunting is none. -/
def Obligations.TheReceiverBuildsFramesByteByByte : Prop :=
  ∀ (s : State) (b len : Byte) (left : Nat) (got : List Byte), s.part.running = true →
    let link := s.part.link
    let discarded : Link := { link with receiver := .hunt, errors := min 65535 (link.errors + 1) }
    (link.receiver = .hunt → b = 0xA5 →
      Becomes (.linkByteReceived b) s { s.part with link := { link with receiver := .length } }) ∧
    (link.receiver = .hunt → b ≠ 0xA5 → Becomes (.linkByteReceived b) s s.part) ∧
    (link.receiver = .length → b.toNat < 2 ∨ 250 < b.toNat →
      Becomes (.linkByteReceived b) s { s.part with link := discarded }) ∧
    (link.receiver = .length → 2 ≤ b.toNat → b.toNat ≤ 250 →
      Becomes (.linkByteReceived b) s { s.part with link := { link with receiver := .body b b.toNat [] } }) ∧
    (link.receiver = .body len (left + 2) got →
      Becomes (.linkByteReceived b) s { s.part with link := { link with receiver := .body len (left + 1) (got ++ [b]) } }) ∧
    (link.receiver = .body len 1 got →
      Becomes (.linkByteReceived b) s { s.part with link := { link with receiver := .check len (got ++ [b]) none } }) ∧
    (link.receiver = .check len got none →
      Becomes (.linkByteReceived b) s { s.part with link := { link with receiver := .check len got (some b) } }) ∧
    (∀ high, link.receiver = .check len got (some high) →
      (crc16 (len :: got) = high ++ b →
        Becomes (.linkByteReceived b) s
          (Part.receiveBody { s.part with link := { link with receiver := .hunt } } got)) ∧
      (crc16 (len :: got) ≠ high ++ b → Becomes (.linkByteReceived b) s { s.part with link := discarded })) ∧
    (link.receiver ≠ .hunt → Becomes .linkGapTimeout s { s.part with link := discarded }) ∧
    (link.receiver = .hunt → Becomes .linkGapTimeout s s.part)

/-- A request that comes while one is in hand joins the holding area while that holds fewer than four; else it is answered
BUSY at once; and with the reply list full as well it is discarded and counted as an error. Its owner sees nothing of it. That
the reply being sent takes none of the list's 8 places is the model's choice (log entry 100). -/
def Obligations.ARequestWaitsWhileOneIsInHand : Prop :=
  ∀ (i : Instr) (s : State), encodeRequest i ≠ [] → s.part.running = true → s.part.link.inHand.isSome = true →
    let link := s.part.link
    let body := encodeRequest i
    let busy := (Verdict.refused .busy 0).reply (bodyTag body) (bodyKind body) false
    (link.holding.length < 4 →
      Becomes i s { s.part with link := { link with holding := link.holding ++ [body] } }) ∧
    (4 ≤ link.holding.length → link.replies.length < 8 →
      Becomes i s { s.part with link := link.ready busy }) ∧
    (4 ≤ link.holding.length → 8 ≤ link.replies.length →
      Becomes i s { s.part with link := { link with errors := min 65535 (link.errors + 1) } })

/-- When the transmitter's frame has been sent whole, a reply of the request in hand releases it; and a pick of an idle
transmitter takes the oldest reply, with none the oldest notice, and that of one that is sending takes nothing. That the pick
comes at the end of every event, and that the reply picked frees its place in the list as it begins to be sent, are the
model's choice (log entries 81 and 100). -/
def Obligations.AFrameSentReleasesTheRequest : Prop :=
  (∀ (s : State) (r : Reply) (n : Notice), s.part.running = true → s.part.link.holding = [] →
    let link := s.part.link
    (link.transmitter = .reply r → link.transmitter.isRestart = false →
      Becomes .linkFrameSent s
        { s.part with link := { link with transmitter := .idle, inHand := if r.ofHand then none else link.inHand } }) ∧
    (link.transmitter = .notice n →
      Becomes .linkFrameSent s { s.part with link := { link with transmitter := .idle } })) ∧
  (∀ (l : Link) (r : Reply) (n : Notice) (replies : List Reply) (notices : List Notice),
    (l.transmitter = .idle → l.replies = r :: replies →
      l.kick = { l with transmitter := .reply r, replies := replies ++ l.waiting.take 1, waiting := l.waiting.drop 1 }) ∧
    (l.transmitter = .idle → l.replies = [] → l.notices = n :: notices →
      l.kick = { l with transmitter := .notice n, notices := notices }) ∧
    (l.transmitter ≠ .idle → l.kick = l))

/-- The oldest request of the holding area is taken when the reply of the one in hand has been sent whole, and the others keep
their places and their order. Held alone, the step is that of the request on a link port with nothing in hand and nothing
held. With others behind it, that step leaves it in hand and they stay held, but for ASK_STATUS, whose reply carries the
number that still waits. A request that is not in hand after its taking, its reply deferred, lets the next be taken at once:
the step is then that of taking the rest on the part it leaves, told as the end of a frame that is no reply. That the request
is taken before the transmitter picks its next frame is the model's choice (log entry 60). -/
def Obligations.AHeldRequestIsTakenWhenTheHandIsFree : Prop :=
  ∀ (i : Instr) (s : State) (r : Reply) (rest : List (List Byte)), inCatalogue i = true → i.wellFormed = true →
    s.part.running = true → s.part.link.transmitter = .reply r → r.ofHand = true →
    s.part.link.transmitter.isRestart = false → s.part.link.holding = encodeRequest i :: rest →
    let free := fun (now : Transmitter) (held : List (List Byte)) =>
      { s with part := { s.part with link := { s.part.link with transmitter := now, inHand := none, holding := held } } }
    let holds := fun (t : State) => { t with part := { t.part with link := { t.part.link with holding := rest } } }
    (rest = [] → exec .linkFrameSent s = exec i (free .idle [])) ∧
    ((∀ tag, i ≠ .askStatus tag) →
      (∃ t, exec i (free .idle []) = .next t ∧
        (t.part.link.inHand.isSome = true → exec .linkFrameSent s = .next (holds t))) ∧
      ∀ n : Notice, ∃ t, exec i (free (.notice n) []) = .next t ∧ exec .linkFrameSent s = exec .linkFrameSent (holds t)) ∧
    (∀ tag, i = .askStatus tag → (s.part.link.waiting ≠ [] → s.part.link.replies ≠ []) →
      let p := (free .idle rest).part
      ∃ t, exec .linkFrameSent s = .next t ∧ t.pending = s.pending ∧
        t.part.link.outgoing = p.link.outgoing ++ [(Verdict.done 0 p.statusData).body tag 0x01] ∧
        t.part.link.inHand = some (tag, 0x01) ∧ t.part.aside = p.aside)

/-- A posted notice of a kind the mask admits joins the queue, stamped from the clock; a full queue loses its oldest, and the
then oldest is marked, so that the queue holds at most 32; what is being sent is left alone; and a kind the mask does not admit
is not created. -/
def Obligations.APostedNoticeIsStampedAndQueued : Prop :=
  ∀ (p : Part) (kind : NoticeKind) (subject : Nat) (detail : List Byte),
    let q := p.post kind subject detail
    let stamped : Notice → Prop := fun n =>
      n.kind = kind ∧ n.subject = subject ∧ n.gap = false ∧ n.detail = (detail ++ [0, 0, 0, 0]).take 4 ∧
        (p.clock.state = .running → n.clockSet = true ∧ n.dayCount = p.clock.dayCount ∧
          n.weekMinute = p.clock.weekMinute ∧ n.second = p.clock.second) ∧
        (p.clock.state = .unset → n.clockSet = false ∧ n.dayCount = 0 ∧ n.weekMinute = 0 ∧ n.second = 0)
    (p.link.mask.getLsbD (kind.code - 1) = false → q = p) ∧
    (p.link.notices.length ≤ 32 → q.link.notices.length ≤ 32) ∧ q.link.transmitter = p.link.transmitter ∧
    (p.link.mask.getLsbD (kind.code - 1) = true → p.link.notices.length < 32 →
      ∃ n, stamped n ∧ q = { p with link := { p.link with notices := p.link.notices ++ [n] } }) ∧
    (p.link.mask.getLsbD (kind.code - 1) = true → ∀ (lost oldest : Notice) (rest : List Notice), 30 ≤ rest.length →
      p.link.notices = lost :: oldest :: rest →
      ∃ n, stamped n ∧
        q = { p with link := { p.link with notices := { oldest with gap := true } :: (rest ++ [n]) } })

/-! ### Settings, saving and starting -/

/-- NOTICE_MASK replaces the mask and answers the mask held before; the notices that wait stay. A kind whose member is clear is
not created, and one whose member is set is. While a save runs NOTICE_MASK is refused BUSY. The factory mask admits every kind;
the mask is saved with the working configuration, loaded with it, and kept by RESTART. -/
def Obligations.TheNoticeMaskIsReplacedAndAnswered : Prop :=
  (∀ (s : State) (tag : Byte) (mask : Half), s.Writable →
    AnswersWith (.noticeMask tag mask) s tag 0x20 (.done 0 (u16 s.part.link.mask.toNat))
      { s.part with link := { s.part.link with mask := mask.setWidth 14, unsaved := true } }) ∧
  (∀ (s : State) (tag : Byte) (mask : Half), s.Ready → s.part.link.saving.isSome = true →
    AnswersWith (.noticeMask tag mask) s tag 0x20 (.refused .busy 0) s.part) ∧
  (∀ (p : Part) (kind : NoticeKind) (subject : Nat) (detail : List Byte),
    let q := p.post kind subject detail
    (p.link.mask.getLsbD (kind.code - 1) = false → q = p) ∧
    (p.link.mask.getLsbD (kind.code - 1) = true →
      ∃ n, q.link.notices.getLast? = some n ∧ n.kind = kind ∧ n.subject = subject)) ∧
  (∀ kind : NoticeKind, WorkingConfig.factory.mask.getLsbD (kind.code - 1) = true) ∧
  (∀ p : Part, p.working.mask = p.link.mask) ∧
  (∀ (s : State) (image : WorkingConfig) (straps : BitVec 2),
    s.part.link.store = some image → s.part.link.saving = none →
    Ends (.powerOn straps true) s fun q => q.link.mask = image.mask) ∧
  ∀ (s : State) (c : Instr), c = .linkFrameSent ∨ c = .restartEffect → s.part.running = true →
    s.part.link.transmitter.isRestart = true → Ends c s fun q => q.link.mask = s.part.link.mask

/-- SAVE_CONFIG takes a snapshot of the working configuration and clears unsaved changes; its reply waits for the end of the
save, and its request leaves the hands of the link port. SAVE_COMPLETE puts the snapshot in the store and answers it. -/
def Obligations.ASaveWritesTheSnapshot : Prop :=
  ∀ (s : State) (tag : Byte) (image : WorkingConfig),
    (s.Writable → Becomes (.saveConfig tag) s
      { s.part with
        link := { s.part.link with saving := some s.part.working, unsaved := false, deferredSave := some tag } }) ∧
    (s.part.running = true → s.part.link.saving = some image → s.part.link.deferredSave = some tag →
      Becomes .saveComplete s
        { s.part with
          link := Link.ready { s.part.link with saving := none, store := some image, deferredSave := none }
            ((Verdict.done 0 []).reply tag 0x21 false) })

/-- The configuration writes of the catalogue (R191), SCAN_WRITE with a list of the length its count says. -/
def configurationWrites (tag b b' b'' : Byte) (h : Half) (entries : List Byte) (z : ZoneFields) (c : ChannelFields)
    (l : LoadFields) (stations : BitVec 48) (loads : BitVec 128) : List Instr :=
  [.setTrim tag h b b', .zoneWriteOne tag b z, .zoneWriteTiming tag b h, .chanWrite tag b c,
    .scanWrite tag (BitVec.ofNat 8 entries.length) entries b b', .groupWriteOne tag b b', .groupWriteHold tag h,
    .stationWriteOne tag b b' b'', .stationWriteMaskEnable tag stations, .stationWriteMaskDisable tag stations,
    .stationWriteTimeout tag h, .loadWrite tag b l, .loadEnableSet tag loads, .loadEnableClear tag loads,
    .limitWrite tag h b, .noticeMask tag h]

/-- While a save runs every configuration write is refused BUSY before its owner's checks, whatever its fields, a SCAN_WRITE of
any 1 to 32 entries among them, and so are SAVE_CONFIG and RESTART; nothing is changed. -/
def Obligations.ConfigurationWritesAreBusyWhileSaving : Prop :=
  ∀ (s : State) (tag b b' b'' : Byte) (h : Half) (entries : List Byte) (z : ZoneFields) (c : ChannelFields)
    (l : LoadFields) (stations : BitVec 48) (loads : BitVec 128), s.Ready → s.part.link.saving.isSome = true →
    1 ≤ entries.length → entries.length ≤ 32 →
    ∀ i ∈ .saveConfig tag :: .restart tag :: configurationWrites tag b b' b'' h entries z c l stations loads,
      AnswersWith i s tag (bodyKind (encodeRequest i)) (.refused .busy 0) s.part

/-- A zone record of this configuration at a start, its light guard from the phase handed (R133, R146). -/
def freshZone (cfg : ZoneConfig) (phase : Phase) : Zone :=
  { cfg := cfg, mode := .lost, evaluated := false, tz := none, sp := 0, quarters := 0, doorTerm := 0, ventTerm := 0, e := 0
    p := 0, iterm := 0, i := 0, d := 0, s := 0, g := 0, gFan := 0, guard := false
    handed := Tab.build 3 fun _ => { on := false, urgency := 0 }, timer := 1, lr := 0, lightSource := .base
    presence := none, lightGuard := decide (phase ≠ .idle), handedLight := { level := 0, urgency := 0 }, direct := 0 }

/-- A station record of this configuration at a start (R112). -/
def freshStation (cfg : StationConfig) : Station :=
  { cfg := cfg, state := if cfg.enabled then .absent else .disabled, lastResult := none, noAnswers := 0, stationType := none
    revision := none, reported := none, condition := none, door := .unknown, docked := false, openedAt := none
    watch := none, limitSent := false, opens := 0, openSeconds := 0, motion := 0, demand := 0
    commanded := { stage := 0, light := false }, lastFormed := { stage := 0, light := false }, pending := false
    silence := none }

/-- The starting hand-offs that the load budget has still to take: the window limit unless it is none, the light guards that
stand, and the fan requests that are not 0 with urgency 0 (R161, R184, R196). -/
def startingChanges (q : Part) : List Due :=
  (q.cal.handedLimit.toList.map fun v => .budget (.startWindow (some v))) ++
    (((List.range 12).filter fun z => (q.zone z).lightGuard).map fun z => .budget (.lightGuard z true)) ++
    (List.range 6).flatMap fun g =>
      let request := fun (k : Nat) => Tab.get (q.group g).handed k
      ((List.range 3).filter fun k => decide (request k ≠ { on := false, urgency := 0 })).map fun k =>
        .budget (.fan g (k + 1) (request k))

/-- Every record of q but its clock, configuration, outputs beyond the part and figures of the start itself is that of a
start, whatever its cause: the editor, the overrides, the zones' standings and the limit window (R31, R32, R40, R41), the
channels and the rounds (R63), the stations, the line and its queue (R89, R112), the zones and the curtains (R133, R146), the
gas records and the groups (R161), the loads with their limits, guards and queue (R184), and the link port's receiver, queues
and figures (R200). -/
def StartedAfresh (q : Part) : Prop :=
  q.running = true ∧ q.due = startingChanges q ∧ q.cal.editor = .noEdit ∧
  (∀ z < 12, (q.calZone z).phaseOverride = none ∧ (q.calZone z).lightOverride = none ∧
    (q.calZone z).calendar = q.cal.running.resolve q.clock.state z q.clock.weekMinute ∧
    (q.calZone z).effective = (q.calZone z).calendar) ∧
  q.cal.activeWindow = q.cal.running.activeWindow q.clock.state q.clock.weekMinute ∧
  q.cal.handedLimit = q.cal.activeWindow.map (·.1) ∧
  (∀ c < 21, q.channel c =
    { cfg := (q.channel c).cfg, lastRaw := 0, history := [], clearPending := false, value := 0, known := false
      validity := .unseen, badRun := 0, goodRun := 0, age := none, window := .clear, entered := false, left := false }) ∧
  q.mu.staged = none ∧ q.mu.priority = [] ∧ q.mu.outstanding = none ∧ q.mu.scanTimer = q.mu.period ∧
  q.mu.fastTimer = q.mu.fast ∧
  (∀ before c after, q.mu.active = before ++ c :: after → (q.channel c).cfg.enabled = true →
    (∀ x ∈ before, (q.channel x).cfg.enabled = false) →
    q.mu.round = .inRound (before.length + 1) ∧
      q.mu.converter =
        some { channel := c, priority := false, cfg := (q.channel c).cfg, measure := false, discard := false }) ∧
  ((∀ x ∈ q.mu.active, (q.channel x).cfg.enabled = false) → q.mu.round = .between ∧ q.mu.converter = none) ∧
  (∀ a, 1 ≤ a → a ≤ 48 → q.station a = freshStation (q.station a).cfg ∧ q.runOn a = none ∧ q.curtainHanded a = false) ∧
  q.dl.line = .clearing ∧ q.dl.queue = [] ∧ q.dl.sending = none ∧ q.dl.answering = none ∧ q.dl.errors = 0 ∧
  q.dl.probeTimer = 30 ∧ q.dl.deadProbe = none ∧
  (∀ z < 12, q.dl.limit z = q.cal.running.doorLimit (q.calZone z).effective) ∧
  (∀ z < 12, q.zone z = freshZone (q.zone z).cfg (q.calZone z).effective.phase) ∧
  (∀ c < 20, (q.gasOf c).member = decide ((q.channel c).cfg.enabled = true ∧ (q.channel c).cfg.kind = .gas) ∧
    ((q.gasOf c).member = true → (q.gasOf c).group = (q.channel c).cfg.group) ∧
    (q.gasOf c).level = 0 ∧ (q.gasOf c).source = .ladder ∧ (q.gasOf c).watch = 0) ∧
  (∀ g < 6, (q.group g).base = q.highestVent g ∧ (q.group g).applied = false ∧ (q.group g).guard = false ∧
    (q.group g).demand = min (q.group g).base (q.lb.count .fan g) ∧
    ∀ k < 3, Tab.get (q.group g).handed k =
      if k < q.lb.count .fan g then { on := decide (k + 1 ≤ (q.group g).demand), urgency := 333 * (q.group g).demand }
      else { on := false, urgency := 0 }) ∧
  (∀ i < 128, q.lb.load i =
    { cfg := (q.lb.load i).cfg, request := 0, urgency := 0, grant := .none, state := .off, minOn := none, minOff := none
      refused := .none }) ∧
  q.lb.window = none ∧ q.lb.cap = none ∧ (∀ z < 12, Tab.get q.lb.freeze z = false ∧ Tab.get q.lb.light z = false) ∧
  (∀ g < 6, Tab.get q.lb.alarm g = false) ∧ q.lb.queue = [] ∧ q.lb.spacingTimer = none ∧
  (∀ i < 128, Tab.get q.lb.baseline i = .none) ∧ q.lb.shifting = some 0 ∧ q.lb.marked = false ∧
  q.link.receiver = .hunt ∧ q.link.holding = [] ∧ q.link.inHand = none ∧ q.link.replies = [] ∧ q.link.waiting = [] ∧
  q.link.deferredMeasure = none ∧ q.link.deferredSave = none ∧ q.link.errors = 0 ∧ q.link.saving = none ∧
  (q.link.mask.getLsbD 13 = true → ∃ n, q.link.transmitter = .notice n ∧ n.kind = .startup)

/-- Clock b is clock a with a compensation period just started, the board channel standing as ch: the board temperature by the
table of R6, Cv by R7, mark 0 raised with its correction by R8. -/
def PeriodStarted (ch : Channel) (a b : Clock) : Prop :=
  b.mark = 0 ∧ b.trimChanged = false ∧
  (ch.validity = .valid → b.tb = ch.value ∧ b.tbSource = .live ∧ b.boardMemory = some ch.value) ∧
  (ch.validity = .suspect ∨ ch.validity = .fault →
    b.tb = ch.value ∧ b.tbSource = .held ∧ b.boardMemory = some ch.value) ∧
  (∀ v, ch.validity = .unseen → a.boardMemory = some v → b.tb = v ∧ b.tbSource = .held ∧ b.boardMemory = some v) ∧
  (ch.validity = .unseen → a.boardMemory = none → b.tb = 0 ∧ b.tbSource = .absent ∧ b.boardMemory = none) ∧
  (let d : Int := if b.tbSource = .absent then 0 else b.tb - 10 * a.trimT0
   let whole : Int := a.trimA + (a.trimKq * (d * d)) / 6400
   b.cv = max (-1023) (min 1023 whole) ∧ b.cvClamped = decide (b.cv ≠ whole)) ∧
  b.correction = (if b.cv = 0 then .plain else if 0 < b.cv then .add else .withhold)

/-- The STARTUP notice of a start (R196, R199). -/
def startupTold (q : Part) : List Posting :=
  [{ kind := .startup, subject := 0
     detail := u8 q.link.startCause.code ++ u8 q.link.source.code ++ u8 q.link.speed.toNat ++
       u8 (if q.link.storeGood then 0 else 1) }]

/-- POWER_ON, from any state: the configuration is the store's good image, or the factory's when the image does not read or a
save was being written; the clock is UNSET at 0 in its first compensation period, with mark 0, no Tb and the stored A as its
Cv; and every other record is that of a start, the zones by the fallback and no window limit, and the STARTUP notice being
the only one, if the mask admits it. That the relay boards and dim outputs stay as they were until their first latch and
period, that a store that reads bad holds no image from then on, and that the starting changes of the load budget wait in the
list of due events while the other blocks have taken theirs, are the model's choice (log entries 9, 82 and 57). -/
def Obligations.PowerOnStartsFromTheStore : Prop :=
  ∀ (s : State) (straps : BitVec 2) (reads : Bool),
    Ends (.powerOn straps reads) s fun q =>
      let image := if reads = true ∧ s.part.link.saving = none then s.part.link.store else none
      q.working = image.getD WorkingConfig.factory ∧ q.link.store = image ∧ q.link.speed = straps ∧
      q.link.source = (if image.isSome then .saved else .defaults) ∧ q.link.unsaved = image.isNone ∧
      q.link.startCause = .powerOn ∧ q.clock.state = .unset ∧ q.clock.position = 0 ∧ q.clock.dayCount = 0 ∧
      q.clock.boardMemory = none ∧ PeriodStarted q.boardChannel q.clock q.clock ∧
      (-1023 ≤ q.clock.trimA → q.clock.trimA ≤ 1023 → q.clock.cv = q.clock.trimA ∧ q.clock.cvClamped = false) ∧
      q.cal.activeWindow = none ∧ StartedAfresh q ∧ q.link.storeGood = image.isSome ∧
      q.link.unsent = (admitted q.link.mask (startupTold q)).map (·.stamped q.clock) ∧
      q.lb.relays = s.part.lb.relays ∧ q.lb.dimPins = s.part.lb.dimPins

/-- RESET_ASSERTED stops the part and darkens LED_RUN; a save that was being written leaves the store without a good image, so
that the next POWER_ON starts from the factory configuration; and until then no other command is taken. That a command told of
a part held in reset is a step without a change is the model's choice (log entry 7). -/
def Obligations.ResetHoldsThePart : Prop :=
  (∀ s : State,
    Ends .resetAsserted s fun q =>
      q.running = false ∧ q.ledRun = false ∧
      q.link.store = (if s.part.link.saving = none then s.part.link.store else none) ∧
      ChangesOnly [.settings, .running] s.part q ∧
      (s.part.link.saving ≠ none → ∀ straps, (q.powerUp straps true).working = WorkingConfig.factory)) ∧
  (∀ (c : Instr) (s : State), s.part.running = false → c ≠ .resetAsserted →
    (∀ straps reads, c ≠ .powerOn straps reads) → exec c s = .next s)

/-- RESTART is answered DONE and changes nothing until then. It takes effect as its DONE reply has been sent whole, whichever
of the two rows tells the part: the working configuration, the clock, the store and the mask stay, every other record is that
of a start, the zones and the window limit by the kept clock, and the STARTUP notice is the first frame sent when the mask
admits it, with the LINE notice of a STUCK or DEAD line after it. That either row tells it, that the outputs beyond the part
stay as they were, that the LINE notice carries the error count after the restart, that the starting changes of the load
budget wait in the list of due events, and that a refresh still shifting is broken off, is the model's choice (log entries
12, 9, 40, 57 and 92). -/
def Obligations.RestartKeepsTheConfigurationAndTheClock : Prop :=
  (∀ (s : State) (tag : Byte), s.Writable → AnswersWith (.restart tag) s tag 0x22 (.done 0 []) s.part) ∧
  ∀ (s : State) (c : Instr), c = .linkFrameSent ∨ c = .restartEffect → s.part.running = true →
    s.part.link.transmitter.isRestart = true →
    Ends c s fun q =>
      q.clock = s.part.clock ∧ q.working = s.part.working ∧ q.link.store = s.part.link.store ∧
      q.link.unsaved = s.part.link.unsaved ∧ q.link.source = s.part.link.source ∧ q.link.speed = s.part.link.speed ∧
      q.link.mask = s.part.link.mask ∧ q.link.storeGood = s.part.link.storeGood ∧ q.link.startCause = .restart ∧
      q.link.outgoing = [] ∧ StartedAfresh q ∧
      q.link.unsent = (admitted q.link.mask (startupTold q ++
        if s.part.dl.line = .stuck ∨ s.part.dl.line = .dead then lineTold s.part.dl.line .clearing 0 else [])).map
          (·.stamped q.clock) ∧
      q.lb.relays = s.part.lb.relays ∧ q.lb.dimPins = s.part.lb.dimPins

/-- The store changes at three commands alone: SAVE_COMPLETE writes the snapshot of the save, a reset or a power-on during a
save leaves no good image, and a power-on keeps what it reads. That a store which reads bad at a power-on holds no image from
then on is the model's choice (log entry 82). -/
def Obligations.TheStoreChangesOnlyBySaveAndReset : Prop :=
  ∀ (s t : State), step s = .next t →
    t.part.link.store = s.part.link.store ∨
    (∃ rest image, s.pending = .saveComplete :: rest ∧ s.part.link.saving = some image ∧ t.part.link.store = some image) ∨
    (∃ rest, s.pending = .resetAsserted :: rest ∧ s.part.link.saving ≠ none ∧ t.part.link.store = none) ∨
    (∃ rest straps reads, s.pending = .powerOn straps reads :: rest ∧
      (reads = false ∨ s.part.link.saving ≠ none) ∧ t.part.link.store = none)

/-- Every counter of the clock stays in its range, whatever step is taken, and no step but POWER_ON returns a RUNNING clock to
UNSET. -/
def Obligations.TheClockStaysInRangeAndRunning : Prop :=
  ∀ (s t : State), step s = .next t → s.part.clock.InRange →
    t.part.clock.InRange ∧
      (s.part.clock.state = .running →
        t.part.clock.state = .running ∨ ∃ rest straps reads, s.pending = .powerOn straps reads :: rest)

/-- The running calendar changes at two kinds of step alone: a minute boundary that finds the editor PENDING puts the edit
copy in its place, and a power-on loads the one of the store's good image, or the factory's. -/
def Obligations.TheRunningCalendarChangesOnlyByCommit : Prop :=
  ∀ (s t : State), step s = .next t →
    t.part.cal.running = s.part.cal.running ∨
    (s.part.cal.editor = .pending t.part.cal.running ∧ t.part.cal.editor = .noEdit ∧ t.part.link.unsaved = true ∧
      t.part.clock.weekMinute ≠ s.part.clock.weekMinute ∧
      t.part.clock.weekMinute = (s.part.clock.weekMinute + 1) % 10080 ∧ t.part.clock.second = 0 ∧
      ∃ rest c, s.pending = c :: rest ∧ c ∈ [Instr.crystalCycle, .correctionCycle, .quarterSecondMark, .minuteBoundary]) ∨
    ∃ rest straps reads, s.pending = .powerOn straps reads :: rest ∧
      let image := if reads = true ∧ s.part.link.saving = none then s.part.link.store else none
      t.part.cal.running = (image.getD WorkingConfig.factory).calendar

/-! ### The invariants of the state -/

/-- The load budget's laws hold after every step from a state in which they hold: the demand law, the chain law, the agreement
of grants, states and timers, the start queue's, and the BUDGET baseline's. -/
def Obligations.EveryStepKeepsTheBudgetLaws : Prop :=
  ∀ (s t : State), step s = .next t →
    s.part.lb.DemandLaw ∧ s.part.lb.ChainLaw ∧ s.part.lb.StatesLaw ∧ s.part.lb.QueueLaw ∧
      s.part.lb.RefusedLaw →
    t.part.lb.DemandLaw ∧ t.part.lb.ChainLaw ∧ t.part.lb.StatesLaw ∧ t.part.lb.QueueLaw ∧
      t.part.lb.RefusedLaw

/-- Whatever step is taken, the frame being received, the holding area, the reply list, the notice queue, the outbound queue,
the priority list and the filter histories stay within their places, the scan lists in use, staged, being saved and stored
have 1 to 32 entries, and replies wait outside the reply list only while it is full, the reply being sent standing outside
both by the model's choice (log entry 100); and the law of the start queue, which every step keeps with the budget's laws,
holds it to 128 loads. -/
def Obligations.EveryStepKeepsThePlaces : Prop :=
  (∀ (s t : State), step s = .next t → s.part.PlacesLaw → t.part.PlacesLaw) ∧
  ∀ lb : Budget, lb.QueueLaw → lb.queue.length ≤ 128

/-- The outbound queue's law holds after every step from a state in which it holds. -/
def Obligations.EveryStepKeepsTheFlightLaw : Prop :=
  ∀ (s t : State), step s = .next t → s.part.dl.FlightLaw → t.part.dl.FlightLaw

/-- The state after reset meets every invariant, takes requests, and holds the part that POWER_ON makes, with straps 00, of
any part whose store is blank and whose relays and dim outputs are off. That the state after reset is that part, with the
straps, the store, the relays and the dim outputs so, is the model's choice (log entry 8). -/
def Obligations.ResetMeetsTheInvariants : Prop :=
  State.reset.part.lb.DemandLaw ∧ State.reset.part.lb.ChainLaw ∧ State.reset.part.lb.StatesLaw ∧
    State.reset.part.lb.QueueLaw ∧ State.reset.part.lb.RefusedLaw ∧ State.reset.part.PlacesLaw ∧ State.reset.part.dl.FlightLaw ∧
    State.reset.part.clock.InRange ∧ State.reset.Ready ∧ State.reset.pending = [] ∧
    State.reset.part.working = WorkingConfig.factory ∧
    ∀ (s : State) (reads : Bool), s.part.link.store = none → s.part.lb.relays = 0 →
      s.part.lb.dimPins = Tab.build 12 (fun _ => 0) → exec (.powerOn 0 reads) s = .next { s with part := State.reset.part }

/-! ### The shift clock -/

/-- The limit window of q is handed: the active limit is the one last handed, and a limit that differs from the one that p had
handed stands in the load budget, with no older one still to be taken (R40). -/
def WindowHanded (p q : Part) : Prop :=
  let limit := q.cal.activeWindow.map (·.1)
  q.cal.handedLimit = limit ∧
    (limit ≠ p.cal.handedLimit → q.lb.window = limit ∧ ∀ w, Due.budget (.window w) ∉ q.due ∧ Due.budget (.startWindow w) ∉ q.due)

/-- SET_CLOCK writes the clamped time, starts a period with mark 0, resolves every zone with the new time, keeps overrides,
hands each zone that changes, and no other, to its three consumers, takes and hands the limit window, posts PHASE for each
zone that changes and then CLOCK with the time held before, as the mask admits them, and is answered DONE with the first
field cut. That the hand-offs wait in the list of due events in this order, that a limit still waiting from the start is
taken first, and that the reply of an idle transmitter goes before the CLOCK notice, are the model's choice (log entries 2,
4, 76 and 81). -/
def Obligations.SetClockSetsTheTimeAndStartsAPeriod : Prop :=
  ∀ (s : State) (tag : Byte) (m : Half) (sec : Byte) (days : Half), s.Ready →
    Answers (.setClock tag m sec days) s tag 0x02
      (.done (if 10079 < m.toNat then 1 else if 59 < sec.toNat then 2 else 0) []) fun q =>
      q.clock.weekMinute = min m.toNat 10079 ∧ q.clock.second = min sec.toNat 59 ∧ q.clock.dayCount = days.toNat ∧
      q.clock.tick = 0 ∧ q.clock.state = .running ∧ PeriodStarted s.part.boardChannel s.part.clock q.clock ∧
      q.clock.trimA = s.part.clock.trimA ∧ q.clock.trimKq = s.part.clock.trimKq ∧ q.clock.trimT0 = s.part.clock.trimT0 ∧
      (∀ z < 12, (q.calZone z).calendar = s.part.cal.running.byCalendar z (min m.toNat 10079) ∧
        (q.calZone z).phaseOverride = (s.part.calZone z).phaseOverride ∧
        (q.calZone z).lightOverride = (s.part.calZone z).lightOverride ∧
        (q.calZone z).effective = effectiveOf (q.calZone z).calendar (s.part.calZone z).phaseOverride) ∧
      q.cal.activeWindow = s.part.cal.running.activeWindow .running (min m.toNat 10079) ∧ WindowHanded s.part q ∧
      PhasesTakenUp s.part q false ∧
      q.due = limitsTaken s.part q (s.part.due ++ (List.range 12).flatMap (handedOn s.part q false)) ∧
      (s.part.link.mask.getLsbD 3 = true →
        ∃ n, q.link.notices.getLast? = some n ∧ n.kind = .clock ∧ n.subject = 0 ∧ n.gap = false ∧ n.clockSet = true ∧
          n.weekMinute = min m.toNat 10079 ∧ n.second = min sec.toNat 59 ∧ n.dayCount = days.toNat ∧
          n.detail = u8 (if s.part.clock.state = .running then 1 else 0) ++ u16 s.part.clock.weekMinute ++
            u8 s.part.clock.second) ∧
      PostsAround ((List.range 12).flatMap (phaseTold s.part q)) (windowPasses s.part q)
        [{ kind := .clock, subject := 0
           detail := u8 (if s.part.clock.state = .running then 1 else 0) ++ u16 s.part.clock.weekMinute ++
             u8 s.part.clock.second }] s.part q ∧
      ChangesOnly [.clock, .zonePhases, .limitWindow, .doorLine, .conditioner, .budget, .replies, .notices, .handed]
        s.part q

/-- SET_TRIM stores A, Kq and T0 clamped and sets trim changed, and changes nothing else of the clock; while a save runs it is
refused BUSY. A period that starts, at the mark after mark 1023, at a SET_CLOCK or wherever else, takes the trim then stored.
The factory trim gives a Cv of 0 at every temperature. The trim is saved with the working configuration and loaded with it. -/
def Obligations.SetTrimIsStoredForTheNextPeriod : Prop :=
  ∀ (s : State) (tag : Byte) (a : Half) (kq t0 : Byte), s.Writable →
    AnswersWith (.setTrim tag a kq t0) s tag 0x04
      (.done (if a.toInt < -512 ∨ 511 < a.toInt then 1 else if 63 < t0.toNat then 3 else 0) [])
      { s.part with
        clock :=
          { s.part.clock with
            trimA := max (-512) (min 511 a.toInt), trimKq := kq.toNat, trimT0 := min t0.toNat 63, trimChanged := true }
        link := { s.part.link with unsaved := true } } ∧
    (∀ q : State, q.Ready → q.part.link.saving.isSome = true →
      AnswersWith (.setTrim tag a kq t0) q tag 0x04 (.refused .busy 0) q.part) ∧
    (s.part.clock.InRange → s.part.clock.mark = 1023 →
      Ends .quarterSecondMark s fun q => PeriodStarted s.part.boardChannel s.part.clock q.clock) ∧
    (∀ m sec days, Answers (.setClock tag m sec days) s tag 0x02
      (.done (if 10079 < m.toNat then 1 else if 59 < sec.toNat then 2 else 0) [])
      fun q => PeriodStarted s.part.boardChannel s.part.clock q.clock) ∧
    (∀ (ch : Channel) (c : Clock), PeriodStarted ch c (c.startPeriod ch) ∧ (c.startPeriod ch).trimA = c.trimA ∧
      (c.startPeriod ch).trimKq = c.trimKq ∧ (c.startPeriod ch).trimT0 = c.trimT0) ∧
    WorkingConfig.factory.trimA = 0 ∧ WorkingConfig.factory.trimKq = 0 ∧ WorkingConfig.factory.trimT0 = 25 ∧
    (∀ (ch : Channel) (c : Clock), c.trimA = 0 → c.trimKq = 0 → c.trimT0 = 25 → (c.startPeriod ch).cv = 0) ∧
    (s.part.working.trimA = s.part.clock.trimA ∧ s.part.working.trimKq = s.part.clock.trimKq ∧
      s.part.working.trimT0 = s.part.clock.trimT0) ∧
    (∀ image straps, s.part.link.store = some image →
      Ends (.powerOn straps true) s fun q =>
        q.clock.trimA = image.trimA ∧ q.clock.trimKq = image.trimKq ∧ q.clock.trimT0 = image.trimT0)

/-- Clock b is clock a with its next mark raised, the board channel standing as ch: the next number of the period with its
correction by Cv, the figures of the period as they stand (R5, R8), or mark 0 of a new period after mark 1023 (R5); the trim
stays. -/
def MarkRaised (ch : Channel) (a b : Clock) : Prop :=
  (a.mark < 1023 →
    b.mark = a.mark + 1 ∧ b.cv = a.cv ∧ b.cvClamped = a.cvClamped ∧ b.tb = a.tb ∧ b.tbSource = a.tbSource ∧
    b.boardMemory = a.boardMemory ∧ b.trimChanged = a.trimChanged ∧
    b.correction = (if a.mark + 1 < a.cv.natAbs then (if 0 < a.cv then .add else .withhold) else .plain)) ∧
  (a.mark = 1023 → PeriodStarted ch a b) ∧
  b.trimA = a.trimA ∧ b.trimKq = a.trimKq ∧ b.trimT0 = a.trimT0

/-- One crystal cycle moves the clock on by one tick, by two where a mark's correction adds one, and not at all where it
withholds one, round the week; one that carries the tick into a new quarter of the second raises a mark, the next of its
period with its correction or mark 0 of a new period; one that carries it to the end of a minute is the minute boundary; and
where it makes no minute boundary nothing but the clock changes, and an idle transmitter picks its next frame. That the rows
CRYSTAL_CYCLE and CORRECTION_CYCLE are both one cycle, whatever correction is pending, is the model's choice (log entry 33).
-/
def Obligations.ACrystalCycleAdvancesTheTick : Prop :=
  ∀ (s : State) (c : Instr), c = .crystalCycle ∨ c = .correctionCycle → s.part.running = true → s.part.clock.InRange →
    let a := s.part.clock
    let ticks := match a.correction with
      | .plain => 1
      | .add => 2
      | .withhold => 0
    Ends c s fun q =>
      q.clock.position = (a.position + ticks) % ticksPerWeek ∧ q.clock.state = a.state ∧
      q.clock.dayCount =
        (if q.clock.weekMinute ≠ a.weekMinute ∧ q.clock.weekMinute % 1440 = 0 then (a.dayCount + 1) % 65536
          else a.dayCount) ∧
      (q.clock.tick / 8192 = a.tick / 8192 → q.clock = { a with tick := a.tick + ticks, correction := .plain }) ∧
      (q.clock.tick / 8192 ≠ a.tick / 8192 → MarkRaised s.part.boardChannel a q.clock) ∧
      (a.second = 59 → a.tick + ticks = 32768 → exec c s = exec .minuteBoundary s) ∧
      (q.clock.weekMinute = a.weekMinute → q = Part.close { s.part with clock := q.clock })

/-- The cycle that carries the tick into a new quarter of the second raises a mark: the next number of the period with its
correction by Cv, or mark 0 of a new period after mark 1023. That the row lets the cycles up to that one pass, wherever the tick
stands, is the model's choice (log entry 33). -/
def Obligations.AQuarterSecondMarkIsRaised : Prop :=
  ∀ s : State, s.part.running = true → s.part.clock.InRange →
    let a := s.part.clock
    Ends .quarterSecondMark s fun q =>
      q.clock.position = (a.position / 8192 + 1) * 8192 % ticksPerWeek ∧
      MarkRaised s.part.boardChannel a q.clock ∧
      (q.clock.weekMinute = a.weekMinute → q = Part.close { s.part with clock := q.clock })

/-- MINUTE_BOUNDARY brings the clock to the next minute, with the day count at a midnight; commits a pending calendar; counts
every override down by one and ends those that reach 0; resolves every zone; hands each zone that changes, and at a commit
every zone, to its three consumers, and an ended light override to the zone conditioner; and takes and hands the window limit.
It posts, as the mask admits them, CALENDAR for a commit, OVERRIDE_END for each override that ends and PHASE for each zone
that changes. That the row lets the cycles up to the wrap of the second pass, wherever the second stands, is the model's
choice (log entry 33). So are taking a limit that waits from the start first, the order among the OVERRIDE_END notices and
before PHASE, the effective phase that a light override's end carries where the zone's phase changes at the same boundary,
which is the one just resolved, and the hand-offs waiting in this order (log entries 76, 24, 98, 2 and 4). -/
def Obligations.AMinuteBoundaryCommitsCountsDownAndResolves : Prop :=
  ∀ s : State, s.part.running = true → s.part.clock.InRange →
    let a := s.part.clock
    let m := (a.weekMinute + 1) % 10080
    let copy := match s.part.cal.editor with
      | .pending copy => copy
      | _ => s.part.cal.running
    Ends .minuteBoundary s fun q =>
      q.clock.weekMinute = m ∧ q.clock.second = 0 ∧ q.clock.tick = 0 ∧ q.clock.state = a.state ∧
      q.clock.dayCount = (if m % 1440 = 0 then (a.dayCount + 1) % 65536 else a.dayCount) ∧
      q.cal.running = copy ∧
      q.cal.editor = (match s.part.cal.editor with
        | .pending _ => .noEdit
        | e => e) ∧
      q.link.unsaved = (s.part.link.unsaved || s.part.cal.editor.isPending) ∧
      (∀ z < 12,
        (q.calZone z).calendar = copy.resolve a.state z m ∧
        (q.calZone z).phaseOverride =
          (s.part.calZone z).phaseOverride.bind fun o =>
            if o.minutes ≤ 1 then none else some { o with minutes := o.minutes - 1 }) ∧
      (∀ z < 12,
        (q.calZone z).lightOverride =
          (s.part.calZone z).lightOverride.bind fun o =>
            if o.minutes ≤ 1 then none else some { o with minutes := o.minutes - 1 }) ∧
      (∀ z < 12, (q.calZone z).effective = effectiveOf (q.calZone z).calendar (q.calZone z).phaseOverride) ∧
      q.cal.activeWindow = copy.activeWindow a.state m ∧ WindowHanded s.part q ∧
      PhasesTakenUp s.part q s.part.cal.editor.isPending ∧
      q.due = limitsTaken s.part q
        (s.part.due ++
          (List.range 12).flatMap (fun z =>
            ((s.part.calZone z).lightOverride.toList.filter fun o => decide (o.minutes ≤ 1)).map fun _ => .evaluate z) ++
          (List.range 12).flatMap (handedOn s.part q s.part.cal.editor.isPending)) ∧
      (let ends := fun (sort z what : Nat) => Posting.mk .overrideEnd z
          (u8 sort ++ 0 :: (u8 what ++ u8 (q.calZone z).effective.phase.code))
        let inUse := fun (n : Nat) (used : Nat → Bool) => ((List.range n).filter used).length
        let changed := (List.range 12).filter fun z => decide ((q.calZone z).effective ≠ (s.part.calZone z).effective)
        PostsAround
          (told (s.part.cal.editor.isPending = true) .calendar 0
              (u8 (inUse 42 fun n => (copy.shift n).inUse) ++ u8 (inUse 8 fun w => (copy.window w).inUse) ++
                u8 changed.length ++ u8 a.state.code) ++
            (List.range 12).flatMap (fun z =>
              ((s.part.calZone z).phaseOverride.toList.filter fun o => decide (o.minutes ≤ 1)).map
                  (fun o => ends 0 z o.kind.phase.code) ++
                ((s.part.calZone z).lightOverride.toList.filter fun o => decide (o.minutes ≤ 1)).map
                  fun o => ends 1 z o.level) ++
            (List.range 12).flatMap (phaseTold s.part q))
          (windowPasses s.part q) [] s.part q) ∧
      ChangesOnly [.clock, .runningCalendar, .editor, .zonePhases, .limitWindow, .doorLine, .conditioner, .budget,
        .settings, .notices, .handed] s.part q

/-! ### The calendar -/

/-- The values that a standing denotes in a calendar copy: the header's in IDLE, those of its profile otherwise. -/
def DenotesItsValues (c : CalCopy) (st : Standing) : Prop :=
  (st.phase = .idle →
    c.setpoint st = c.header.idleSetpoint ∧ c.baseLight st = c.header.idleLight ∧ c.ventMin st = c.header.idleVent ∧
      c.doorLimit st = 0) ∧
  ∀ p, st.profile = some p →
    let r := c.profile p
    (st.phase = .warmup →
      c.setpoint st = r.setWarmup ∧ c.baseLight st = r.lightOther ∧ c.ventMin st = r.ventActive ∧
        c.doorLimit st = r.doorLimit) ∧
    (st.phase = .active →
      c.setpoint st = r.setActive ∧ c.baseLight st = r.lightActive ∧ c.ventMin st = r.ventActive ∧
        c.doorLimit st = r.doorLimit) ∧
    (st.phase = .winddown →
      c.setpoint st = r.setWinddown ∧ c.baseLight st = r.lightOther ∧ c.ventMin st = r.ventWinddown ∧
        c.doorLimit st = r.doorLimit)

/-- While the clock is RUNNING a zone is in the first of ACTIVE, WARMUP and WINDDOWN whose window some in-use entry of the zone
covers at the minute, on a day of its day mask, round the week: for its length from its start, for its profile's lead before it,
and for its profile's hold after its end; the lowest such entry gives the profile and the source; and with no such entry the
zone is IDLE. While the clock is UNSET every zone has the fallback phase of the header, ACTIVE on profile 0 from the factory.
A phase denotes the setpoint, base light level, ventilation minimum and door-open limit of the header or of its profile. -/
def Obligations.AZoneIsActiveFromAShiftsStartForItsLength : Prop :=
  (∀ (c : CalCopy) (z m : Nat), m < 10080 →
    (∀ n < 42, (c.shift n).start < 1440 ∧ (c.shift n).length ≤ 960 ∧ (c.profile (c.shift n).profile).lead ≤ 120 ∧
      (c.profile (c.shift n).profile).hold ≤ 60) →
    let within := fun (n start width : Nat) => (c.shift n).inUse = true ∧ (c.shift n).zones.getLsbD z = true ∧
      ∃ d < 7, (c.shift n).days.getLsbD d = true ∧ (m + 20160 - (d * 1440 + start)) % 10080 < width
    let covers := fun n => within n (c.shift n).start (c.shift n).length
    let warms := fun n => ∃ d < 7, (c.shift n).inUse = true ∧ (c.shift n).zones.getLsbD z = true ∧
      (c.shift n).days.getLsbD d = true ∧
      (m + 10080 + (c.profile (c.shift n).profile).lead - (d * 1440 + (c.shift n).start)) % 10080 <
        (c.profile (c.shift n).profile).lead
    let winds := fun n => within n ((c.shift n).start + (c.shift n).length) (c.profile (c.shift n).profile).hold
    let lowest := fun (p : Nat → Prop) n => n < 42 ∧ p n ∧ ∀ k < n, ¬ p k
    let noneOf := fun (p : Nat → Prop) => ∀ k < 42, ¬ p k
    let given := fun (phase : Phase) n =>
      c.byCalendar z m = { phase := phase, profile := some (c.shift n).profile, source := .entry n }
    c.resolve .running z m = c.byCalendar z m ∧
    ((c.byCalendar z m).phase = .active ↔ ∃ n < 42, covers n) ∧
    (∀ n, lowest covers n → given .active n) ∧
    (noneOf covers → ∀ n, lowest warms n → given .warmup n) ∧
    (noneOf covers → noneOf warms → ∀ n, lowest winds n → given .winddown n) ∧
    (noneOf covers → noneOf warms → noneOf winds →
      c.byCalendar z m = { phase := .idle, profile := none, source := .nothing })) ∧
  (∀ (c : CalCopy) (z m : Nat),
    (c.header.fallbackActive = true → c.resolve .unset z m =
      { phase := .active, profile := some c.header.fallbackProfile, source := .fallback }) ∧
    (c.header.fallbackActive = false →
      c.resolve .unset z m = { phase := .idle, profile := none, source := .fallback }) ∧
    WorkingConfig.factory.calendar.resolve .unset z m = { phase := .active, profile := some 0, source := .fallback }) ∧
  (∀ (c : CalCopy) (st : Standing), DenotesItsValues c st)

/-- The active window limit is the lowest limit among the in-use windows that cover the week minute, given by the lowest such
window, and none while the clock is UNSET or no window covers it. -/
def Obligations.TheWindowLimitIsTheLowestThatCovers : Prop :=
  ∀ (c : CalCopy) (m : Nat),
    let covers := fun w => (c.window w).inUse = true ∧
      ∃ d < 7, (c.window w).days.getLsbD d = true ∧
        d * 1440 + (c.window w).start ≤ m ∧ m < d * 1440 + (c.window w).stop
    c.activeWindow .unset m = none ∧
    ((∀ w < 8, ¬ covers w) → c.activeWindow .running m = none) ∧
    (∀ w < 8, covers w → (∀ v < 8, covers v → (c.window w).limit ≤ (c.window v).limit) →
      (∀ v < w, covers v → (c.window w).limit < (c.window v).limit) →
      c.activeWindow .running m = some ((c.window w).limit, w))

/-- CAL_OPEN in NO_EDIT makes the edit copy from the running copy; CAL_CLOSE of a valid edit copy makes it PENDING and of a
failing one answers CONFLICT with the first item that fails; CAL_DROP discards it; and each, and the four calendar writes, is
refused STATE elsewhere. The items that fail are, in ascending order, the shift entries in use with an empty day or zone mask,
from 0, the profiles with a setpoint warm-up or active above 350, from 42, and the windows whose start is not below their end,
from 50. The field number 0 of the STATE refusals is the model's choice (log entry 17). -/
def Obligations.TheEditorOpensClosesAndDrops : Prop :=
  (∀ copy : CalCopy,
    copy.failures.Pairwise (· < ·) ∧
    ∀ item, item ∈ copy.failures ↔
      (item < 42 ∧ (copy.shift item).inUse = true ∧ ((copy.shift item).days = 0 ∨ (copy.shift item).zones = 0)) ∨
      (∃ p < 8, item = 42 + p ∧ (350 < (copy.profile p).setWarmup ∨ 350 < (copy.profile p).setActive)) ∨
      ∃ w < 8, item = 50 + w ∧ ¬ (copy.window w).start < (copy.window w).stop) ∧
  (∀ (s : State) (tag n : Byte) (h : HeaderFields) (e : ShiftFields) (f : ProfileFields) (w : WindowFields)
    (copy : CalCopy), s.Ready →
    let withEditor := fun (e : Editor) => { s.part with cal := { s.part.cal with editor := e } }
    (s.part.cal.editor = .noEdit →
      AnswersWith (.calOpen tag) s tag 0x05 (.done 0 []) (withEditor (.editing s.part.cal.running)) ∧
      AnswersWith (.calClose tag) s tag 0x0A (.refused .state 0) s.part ∧
      AnswersWith (.calDrop tag) s tag 0x0B (.refused .state 0) s.part) ∧
    (s.part.cal.editor = .editing copy →
      AnswersWith (.calOpen tag) s tag 0x05 (.refused .state 0) s.part ∧
      (copy.failures = [] → AnswersWith (.calClose tag) s tag 0x0A (.done 0 [2]) (withEditor (.pending copy))) ∧
      (∀ item rest, copy.failures = item :: rest →
        AnswersWith (.calClose tag) s tag 0x0A (.refused .conflict item) s.part) ∧
      AnswersWith (.calDrop tag) s tag 0x0B (.done 0 []) (withEditor .noEdit)) ∧
    (s.part.cal.editor = .pending copy →
      AnswersWith (.calOpen tag) s tag 0x05 (.refused .state 0) s.part ∧
      AnswersWith (.calClose tag) s tag 0x0A (.refused .state 0) s.part ∧
      AnswersWith (.calDrop tag) s tag 0x0B (.done 0 []) (withEditor .noEdit)) ∧
    (s.part.cal.editor = .noEdit ∨ s.part.cal.editor = .pending copy →
      AnswersWith (.calWriteHeader tag h) s tag 0x06 (.refused .state 0) s.part ∧
      AnswersWith (.calWriteShift tag n e) s tag 0x07 (.refused .state 0) s.part ∧
      AnswersWith (.calWriteProfile tag n f) s tag 0x08 (.refused .state 0) s.part ∧
      AnswersWith (.calWriteWindow tag n w) s tag 0x09 (.refused .state 0) s.part))

/-- A setpoint field as stored: 0 to 350 tenths of a degree. -/
def setpointStored (h : Half) : Nat := (max 0 (min 350 h.toInt)).toNat

/-- A setpoint field is cut. -/
def setpointIsCut (h : Half) : Bool := decide (h.toInt < 0 ∨ 350 < h.toInt)

/-- In EDITING, CAL_WRITE_HEADER and CAL_WRITE_PROFILE replace the header or the profile of the edit copy with their fields,
each clamped to its range, and the reply names the first field cut; an outdoor channel, a fallback phase or a fallback profile
out of range is refused in this order. Reading a setpoint as a signed figure is the model's choice (log entry 22). -/
def Obligations.HeadersAndProfilesAreWrittenInTheEditCopy : Prop :=
  ∀ (s : State) (tag n : Byte) (h : HeaderFields) (f : ProfileFields) (copy : CalCopy), s.Ready →
    s.part.cal.editor = .editing copy →
    let withCopy := fun (c : CalCopy) => { s.part with cal := { s.part.cal with editor := .editing c } }
    (h.outdoor.toNat ≤ 19 → h.fallbackPhase = 0 ∨ h.fallbackPhase = 2 → h.fallbackProfile.toNat ≤ 7 →
      AnswersWith (.calWriteHeader tag h) s tag 0x06
        (.done (firstCut [(1, setpointIsCut h.idleSetpoint), (2, decide (100 < h.idleLight.toNat)),
          (3, decide (3 < h.idleVent.toNat)), (4, decide (100 < h.presenceLight.toNat)),
          (5, decide (h.presenceHold.toNat = 0 ∨ 120 < h.presenceHold.toNat)), (6, decide (100 < h.doorLight.toNat)),
          (8, decide (h.curtainThreshold.toInt < -500 ∨ 300 < h.curtainThreshold.toInt)),
          (9, decide (300 < h.runOn.toNat))]) [])
        (withCopy { copy with
          header :=
            { idleSetpoint := setpointStored h.idleSetpoint, idleLight := min h.idleLight.toNat 100
              idleVent := min h.idleVent.toNat 3, presenceLight := min h.presenceLight.toNat 100
              presenceHold := max 1 (min h.presenceHold.toNat 120), doorLight := min h.doorLight.toNat 100
              outdoor := h.outdoor.toNat, curtainThreshold := max (-500) (min 300 h.curtainThreshold.toInt)
              runOn := min h.runOn.toNat 300, fallbackActive := decide (h.fallbackPhase = 2)
              fallbackProfile := h.fallbackProfile.toNat } })) ∧
    (19 < h.outdoor.toNat → AnswersWith (.calWriteHeader tag h) s tag 0x06 (.refused .index 7) s.part) ∧
    (h.outdoor.toNat ≤ 19 → h.fallbackPhase ≠ 0 → h.fallbackPhase ≠ 2 →
      AnswersWith (.calWriteHeader tag h) s tag 0x06 (.refused .range 10) s.part) ∧
    (h.outdoor.toNat ≤ 19 → h.fallbackPhase = 0 ∨ h.fallbackPhase = 2 → 7 < h.fallbackProfile.toNat →
      AnswersWith (.calWriteHeader tag h) s tag 0x06 (.refused .index 11) s.part) ∧
    (n.toNat ≤ 7 →
      AnswersWith (.calWriteProfile tag n f) s tag 0x08
        (.done (firstCut [(2, setpointIsCut f.setActive), (3, setpointIsCut f.setWarmup), (4, setpointIsCut f.setWinddown),
          (5, decide (100 < f.lightActive.toNat)), (6, decide (100 < f.lightOther.toNat)),
          (7, decide (3 < f.ventActive.toNat)), (8, decide (3 < f.ventWinddown.toNat)), (9, decide (120 < f.lead.toNat)),
          (10, decide (60 < f.hold.toNat)), (11, decide (f.doorLimit.toNat = 0 ∨ 120 < f.doorLimit.toNat))]) [])
        (withCopy { copy with
          profiles := Tab.put copy.profiles n.toNat
            { setActive := setpointStored f.setActive, setWarmup := setpointStored f.setWarmup
              setWinddown := setpointStored f.setWinddown, lightActive := min f.lightActive.toNat 100
              lightOther := min f.lightOther.toNat 100, ventActive := min f.ventActive.toNat 3
              ventWinddown := min f.ventWinddown.toNat 3, lead := min f.lead.toNat 120, hold := min f.hold.toNat 60
              doorLimit := max 1 (min f.doorLimit.toNat 120) } })) ∧
    (7 < n.toNat → AnswersWith (.calWriteProfile tag n f) s tag 0x08 (.refused .index 1) s.part)

/-- In EDITING, CAL_WRITE_SHIFT and CAL_WRITE_WINDOW replace the entry or the window of the edit copy with their fields, each
clamped to its range; a number beyond the records, a profile above 7 and a yes/no byte that is neither are refused. -/
def Obligations.ShiftsAndWindowsAreWrittenInTheEditCopy : Prop :=
  ∀ (s : State) (tag n : Byte) (f : ShiftFields) (w : WindowFields) (copy : CalCopy), s.Ready →
    s.part.cal.editor = .editing copy →
    let withCopy := fun (c : CalCopy) => { s.part with cal := { s.part.cal with editor := .editing c } }
    (n.toNat ≤ 41 → f.inUse.toNat ≤ 1 → f.profile.toNat ≤ 7 →
      AnswersWith (.calWriteShift tag n f) s tag 0x07
        (.done (firstCut [(4, decide (1439 < f.start.toNat)), (5, decide (f.length.toNat = 0 ∨ 960 < f.length.toNat))]) [])
        (withCopy { copy with
          shifts := Tab.put copy.shifts n.toNat
            { inUse := decide (f.inUse = 1), days := f.days.setWidth 7, start := min f.start.toNat 1439
              length := max 1 (min f.length.toNat 960), profile := f.profile.toNat, zones := f.zones.setWidth 12 } })) ∧
    (41 < n.toNat → AnswersWith (.calWriteShift tag n f) s tag 0x07 (.refused .index 1) s.part) ∧
    (n.toNat ≤ 41 → 1 < f.inUse.toNat → AnswersWith (.calWriteShift tag n f) s tag 0x07 (.refused .range 2) s.part) ∧
    (n.toNat ≤ 41 → f.inUse.toNat ≤ 1 → 7 < f.profile.toNat →
      AnswersWith (.calWriteShift tag n f) s tag 0x07 (.refused .index 6) s.part) ∧
    (n.toNat ≤ 7 → w.inUse.toNat ≤ 1 →
      AnswersWith (.calWriteWindow tag n w) s tag 0x09
        (.done (firstCut [(4, decide (1439 < w.start.toNat)), (5, decide (w.stop.toNat = 0 ∨ 1440 < w.stop.toNat))]) [])
        (withCopy { copy with
          windows := Tab.put copy.windows n.toNat
            { inUse := decide (w.inUse = 1), days := w.days.setWidth 7, start := min w.start.toNat 1439
              stop := max 1 (min w.stop.toNat 1440), limit := w.limit.toNat } })) ∧
    (7 < n.toNat → AnswersWith (.calWriteWindow tag n w) s tag 0x09 (.refused .index 1) s.part) ∧
    (n.toNat ≤ 7 → 1 < w.inUse.toNat → AnswersWith (.calWriteWindow tag n w) s tag 0x09 (.refused .range 2) s.part)

/-! ### Overrides -/

/-- An override of minutes as stored: 1 to 720. -/
def minutesStored (d : Half) : Nat := max 1 (min d.toNat 720)

/-- The OVERRIDE_END notices that wait. -/
def endNotices (p : Part) : List Notice := p.link.notices.filter fun n => decide (n.kind = .overrideEnd)

/-- ZONE_OVERRIDE sets: a phase override makes its phase and profile the zone's effective ones at once, a light override is
stored with its evaluation due; each replaces the one in force, without an OVERRIDE_END notice, posts PHASE and hands the
zone to its three consumers where its effective standing changes, and is answered with the duration in force. A zone above 11
is refused INDEX, before a profile above 7. The place of a hand-off in the list of due events is the model's choice (log
entries 2 and 4). -/
def Obligations.OverridesAreSetForTheirMinutes : Prop :=
  (∀ (s : State) (tag zone b : Byte) (d : Half), s.Ready → 11 < zone.toNat →
    ∀ i ∈ [Instr.zoneOverridePhaseActive tag zone b d, .zoneOverridePhaseIdle tag zone d, .zoneOverrideLight tag zone b d],
      AnswersWith i s tag 0x0F (.refused .index 1) s.part) ∧
  (∀ (s : State) (tag zone b : Byte) (d : Half), s.Ready → zone.toNat ≤ 11 →
    let cut := decide (d.toNat = 0 ∨ 720 < d.toNat)
    let z := zone.toNat
    let replyData := u16 (minutesStored d)
    let others := fun (q : Part) => (∀ y < 12, y ≠ z → q.calZone y = s.part.calZone y) ∧
      (endNotices q).length ≤ (endNotices s.part).length ∧
      Posts (phaseTold s.part q z) s.part q ∧ PhasesTakenUp s.part q false ∧
      q.due = s.part.due ++ handedOn s.part q false z ∧
      ChangesOnly [.zonePhases, .conditioner, .replies, .notices, .handed] s.part q
    (b.toNat ≤ 7 →
      Answers (.zoneOverridePhaseActive tag zone b d) s tag 0x0F (.done (firstCut [(4, cut)]) replyData) fun q =>
        q.calZone z =
          { s.part.calZone z with
            phaseOverride := some { kind := .active b.toNat, minutes := minutesStored d }
            effective := { phase := .active, profile := some b.toNat, source := .override } } ∧ others q) ∧
    (7 < b.toNat → AnswersWith (.zoneOverridePhaseActive tag zone b d) s tag 0x0F (.refused .index 3) s.part) ∧
    Answers (.zoneOverridePhaseIdle tag zone d) s tag 0x0F (.done (firstCut [(4, cut)]) replyData) (fun q =>
      q.calZone z =
        { s.part.calZone z with
          phaseOverride := some { kind := .idle, minutes := minutesStored d }
          effective := { phase := .idle, profile := none, source := .override } } ∧ others q) ∧
    AnswersWith (.zoneOverrideLight tag zone b d) s tag 0x0F
      (.done (firstCut [(3, decide (100 < b.toNat)), (4, cut)]) replyData)
      ((s.part.setCalZone z
        { s.part.calZone z with lightOverride := some { level := min b.toNat 100, minutes := minutesStored d } }).owe
        (.evaluate z)))

/-- The notices of q end in OVERRIDE_END of zone z with these detail bytes, if the mask admits it, and after it, if the mask
admits PHASE and the zone's effective standing has changed, in the zone's PHASE notice. -/
def EndNoticed (p q : Part) (z : Nat) (detail : List Byte) : Prop :=
  let phase := (if p.link.mask.getLsbD 0 = true ∧ (q.calZone z).effective ≠ (p.calZone z).effective then 1 else 0)
  p.link.mask.getLsbD 1 = true →
    ∃ front n back, q.link.notices = front ++ n :: back ∧ n.kind = .overrideEnd ∧ n.subject = z ∧ n.detail = detail ∧
      back.length = phase ∧ ∀ m ∈ back, m.kind = .phase ∧ m.subject = z

/-- ZONE_OVERRIDE cancels: with an override in force it ends at once and the zone takes its calendar standing and is handed
to its three consumers where that changes it, or its light follows by an evaluation that is due; OVERRIDE_END is posted with
its sort, the reason CANCELLED, the override's phase or level and the effective phase after the end, before any PHASE notice;
the reply says that one was in force with its minutes, or that none was. A zone above 11 is refused INDEX. That the reply of
an idle transmitter goes before the notices, the bytes of the data where no override was in force, and the place of a
hand-off in the list of due events, are the model's choice (log entries 81, 90, 2 and 4). -/
def Obligations.OverridesAreCancelledAtOnce : Prop :=
  (∀ (s : State) (tag zone : Byte), s.Ready → 11 < zone.toNat →
    ∀ i ∈ [Instr.zoneOverrideCancelPhase tag zone, .zoneOverrideCancelLight tag zone],
      AnswersWith i s tag 0x0F (.refused .index 1) s.part) ∧
  (∀ (s : State) (tag zone : Byte) (o : PhaseOverride) (l : LightOverride), s.Ready → zone.toNat ≤ 11 →
    let z := zone.toNat
    let phaseAfter := fun (q : Part) => BitVec.ofNat 8 (q.calZone z).effective.phase.code
    let others := fun (q : Part) => (∀ y < 12, y ≠ z → q.calZone y = s.part.calZone y) ∧
      ChangesOnly [.zonePhases, .conditioner, .replies, .notices, .handed] s.part q
    ((s.part.calZone z).phaseOverride = some o →
      Answers (.zoneOverrideCancelPhase tag zone) s tag 0x0F (.done 0 (1 :: u16 o.minutes)) fun q =>
        (q.calZone z).phaseOverride = none ∧ (q.calZone z).lightOverride = (s.part.calZone z).lightOverride ∧
          (q.calZone z).calendar =
            s.part.cal.running.resolve s.part.clock.state z s.part.clock.weekMinute ∧
          (q.calZone z).effective = (q.calZone z).calendar ∧ PhasesTakenUp s.part q false ∧
          q.due = s.part.due ++ handedOn s.part q false z ∧
          EndNoticed s.part q z [0, 1, BitVec.ofNat 8 o.kind.phase.code, phaseAfter q] ∧
          Posts ({ kind := .overrideEnd, subject := z, detail := [0, 1, BitVec.ofNat 8 o.kind.phase.code, phaseAfter q] } ::
            phaseTold s.part q z) s.part q ∧ others q) ∧
    ((s.part.calZone z).phaseOverride = none →
      AnswersWith (.zoneOverrideCancelPhase tag zone) s tag 0x0F (.done 0 [0, 0xFF, 0xFF]) s.part) ∧
    ((s.part.calZone z).lightOverride = some l →
      Answers (.zoneOverrideCancelLight tag zone) s tag 0x0F (.done 0 (1 :: u16 l.minutes)) fun q =>
        q.calZone z = { s.part.calZone z with lightOverride := none } ∧ q.due = s.part.due ++ [.evaluate z] ∧
          q.zc = s.part.zc ∧
          EndNoticed s.part q z [1, 1, BitVec.ofNat 8 l.level, phaseAfter q] ∧
          Posts [{ kind := .overrideEnd, subject := z, detail := [1, 1, BitVec.ofNat 8 l.level, phaseAfter q] }] s.part q ∧
          others q) ∧
    ((s.part.calZone z).lightOverride = none →
      AnswersWith (.zoneOverrideCancelLight tag zone) s tag 0x0F (.done 0 [0, 0xFF, 0xFF]) s.part))

/-! ### Measurement -/

/-- SCAN_WRITE, ZONE_WRITE TIMING, GROUP_WRITE HOLD and STATION_WRITE TIMEOUT store their fields, each clamped to its range,
name the first field cut, set unsaved changes and change nothing else; a scan list of a wrong length or with an entry above
20 is refused. That the fast interval is cut to the period as stored is the model's choice (log entry 65). -/
def Obligations.ScanListAndTimingsAreStoredClamped : Prop :=
  ∀ (s : State) (tag count period fast interval : Byte) (entries : List Byte) (h : Half), s.Writable →
    let p := max 1 (min 60 period.toNat)
    let f := min p (max 1 (min 60 fast.toNat))
    let link := { s.part.link with unsaved := true }
    let scan := Instr.scanWrite tag count entries period fast
    (1 ≤ entries.length → entries.length ≤ 32 → count.toNat = entries.length → (∀ e ∈ entries, e.toNat ≤ 20) →
      AnswersWith scan s tag 0x12
        (.done (firstCut [(2 + entries.length, decide (p ≠ period.toNat)), (3 + entries.length, decide (f ≠ fast.toNat))]) [])
        { s.part with
          mu := { s.part.mu with staged := some (entries.map fun e => e.toNat), period := p, fast := f }, link := link }) ∧
    (count.toNat = 0 ∨ 32 < count.toNat ∨ count.toNat ≠ entries.length →
      AnswersWith scan s tag 0x12 (.refused .length 0) s.part) ∧
    (entries.length ≤ 32 → count.toNat = entries.length → ∀ before e after, entries = before ++ e :: after →
      (∀ x ∈ before, x.toNat ≤ 20) → 20 < e.toNat →
      AnswersWith scan s tag 0x12 (.refused .index (2 + before.length)) s.part) ∧
    AnswersWith (.zoneWriteTiming tag interval h) s tag 0x0D
      (.done (firstCut [(2, decide (interval.toNat < 5 ∨ 120 < interval.toNat)), (3, decide (3600 < h.toNat))]) [])
      { s.part with
        zc := { s.part.zc with interval := max 5 (min 120 interval.toNat), hold := min 3600 h.toNat }, link := link } ∧
    AnswersWith (.groupWriteHold tag h) s tag 0x15 (.done (firstCut [(2, decide (600 < h.toNat))]) [])
      { s.part with air := { s.part.air with hold := min 600 h.toNat }, link := link } ∧
    AnswersWith (.stationWriteTimeout tag h) s tag 0x17
      (.done (firstCut [(2, decide (h.toNat < 30 ∨ 300 < h.toNat))]) [])
      { s.part with dl := { s.part.dl with timeout := max 30 (min 300 h.toNat) }, link := link }

/-- The fields of a CHAN_WRITE pass every check of R43. -/
def ChannelFieldsPass (n : Byte) (f : ChannelFields) : Prop :=
  n.toNat ≤ 20 ∧ f.kind.toNat ≤ 4 ∧ f.enabled.toNat ≤ 1 ∧ f.gain.toNat ≤ 3 ∧ f.depth.toNat ≤ 3 ∧ f.rail.toNat ≤ 1 ∧
    f.windowOn.toNat ≤ 1 ∧ f.sense.toNat ≤ 1 ∧ (n.toNat = 20 ↔ f.kind = 4) ∧
    (f.kind = 1 → f.group.toNat ≤ 5 ∧ f.t1.toInt < f.t2.toInt ∧ f.t2.toInt < f.t3.toInt) ∧
    (f.windowOn = 1 → f.lo.toInt < f.hi.toInt)

/-- The conditions on which CHAN_WRITE is refused, in the order of R43, each with its code and field. The field named where one
check covers several is the model's choice (log entry 63). -/
def channelRefusals (n : Byte) (f : ChannelFields) : List (Prop × Code × Nat) :=
  [(20 < n.toNat, .index, 1), (4 < f.kind.toNat, .range, 2), (1 < f.enabled.toNat, .range, 3), (3 < f.gain.toNat, .range, 4),
    (3 < f.depth.toNat, .range, 8), (1 < f.rail.toNat, .range, 9), (1 < f.windowOn.toNat, .range, 10),
    (1 < f.sense.toNat, .range, 11), (n.toNat ≤ 19 ∧ f.kind = 4 ∨ n.toNat = 20 ∧ f.kind ≠ 4, .conflict, 2),
    (f.kind = 1 ∧ 5 < f.group.toNat, .index, 16),
    (f.kind = 1 ∧ ¬ (f.t1.toInt < f.t2.toInt ∧ f.t2.toInt < f.t3.toInt), .conflict, 17),
    (f.windowOn = 1 ∧ f.hi.toInt ≤ f.lo.toInt, .conflict, 12)]

/-- Configuration c is what the fields of a CHAN_WRITE store, clamped; a hysteresis is read as unsigned (log entry 64). -/
def ChannelStored (f : ChannelFields) (c : ChanConfig) : Prop :=
  c.kind.code = f.kind.toNat ∧ c.enabled = decide (f.enabled = 1) ∧ c.gain.code = f.gain.toNat ∧
    c.settle = max 1 (min 31 f.settle.toNat) ∧ c.scaleLo = f.scaleLo.toInt ∧ c.scaleHi = f.scaleHi.toInt ∧
    c.depth.code = f.depth.toNat ∧ c.rail = decide (f.rail = 1) ∧ c.windowOn = decide (f.windowOn = 1) ∧
    c.inside = decide (f.sense = 1) ∧ c.lo = f.lo.toInt ∧ c.hi = f.hi.toInt ∧ c.lowHyst = min 32767 f.lowHyst.toNat ∧
    c.highHyst = min 32767 f.highHyst.toNat ∧ c.group = f.group.toNat ∧ c.t1 = f.t1.toInt ∧ c.t2 = f.t2.toInt ∧
    c.t3 = f.t3.toInt ∧ c.rise = min 32767 f.rise.toNat ∧ c.fall = min 32767 f.fall.toNat

/-- Some window field of a channel differs between two configurations (R44). -/
def WindowFieldsDiffer (a b : ChanConfig) : Prop :=
  b.windowOn ≠ a.windowOn ∨ b.inside ≠ a.inside ∨ b.lo ≠ a.lo ∨ b.hi ≠ a.hi ∨ b.lowHyst ≠ a.lowHyst ∨
    b.highHyst ≠ a.highHyst

/-- Kind, fan group or ladder of a channel that is GAS before or after differ between two configurations (R44). -/
def GasFieldsDiffer (a b : ChanConfig) : Prop :=
  (a.kind = .gas ∨ b.kind = .gas) ∧
    (b.kind ≠ a.kind ∨ b.group ≠ a.group ∨ b.t1 ≠ a.t1 ∨ b.t2 ≠ a.t2 ∨ b.t3 ≠ a.t3 ∨ b.rise ≠ a.rise ∨ b.fall ≠ a.fall)

/-- The air quality unit has taken up the membership of channel c under configuration cfg between p and q, with these demands
handed on (R147): a member that leaves goes to level 0 and its group's demand is due, a channel that joins starts at level 0
and its group's is due, one that changes its group has both due, ascending, and any other keeps its record. What a channel
that leaves keeps of its record is the model's choice (log entry 72). -/
def GasTakenUp (p q : Part) (c : Nat) (cfg : ChanConfig) (demands : List Due) : Prop :=
  let g := p.gasOf c
  let gas := cfg.enabled = true ∧ cfg.kind = .gas
  q.air = { p.air with gas := q.air.gas } ∧ (∀ k < 20, k ≠ c → q.gasOf k = p.gasOf k) ∧
  (g.member = true → ¬ gas →
    demands = [.demand g.group] ∧ q.gasOf c = { g with member := false, level := 0, source := .ladder }) ∧
  (g.member = false → gas →
    demands = [.demand cfg.group] ∧
    q.gasOf c = { member := true, group := cfg.group, level := 0, source := .ladder, watch := 0 }) ∧
  (g.member = true → gas → g.group ≠ cfg.group →
    demands = [.demand (min g.group cfg.group), .demand (max g.group cfg.group)] ∧
    q.gasOf c = { g with group := cfg.group }) ∧
  (g.member = true → gas → g.group = cfg.group → demands = [] ∧ q.gasOf c = g) ∧
  (g.member = false → ¬ gas → demands = [] ∧ q.gasOf c = g)

/-- CHAN_WRITE of legal fields replaces the channel's configuration and leaves other channels alone; disabling returns the
dynamic state to its reset values; otherwise a change of gain, scale or depth marks the history to be cleared, a change of a
window field clears the window, and the rest is unchanged. WINDOW is posted for a window that clears, SENSOR for a FAULT
channel disabled, and AIR for the level that a channel gives up. In the list of due events (log entries 2 and 4), a window
that leaves ALARM_LOW on a channel 0 to 19 hands on its freeze edge, and after it a channel that joins, leaves or changes its
group hands on the demand of each group concerned, with its membership taken up; nothing else is handed on. A disabled
channel's MEASURE is answered STATE first, with field 1 by the model's choice (log entry 17). Fields that fail a check are
refused by the first that fails, without a change; the fields named, hystereses read as unsigned, the order of the notices of
a disabling, and the sort of the AIR notice, coded 0, and what is kept of the gas record of a channel that leaves, are the
model's choice (log entries 63, 64, 24, 88 and 72). -/
def Obligations.AChannelIsWrittenWholeOrDisabled : Prop :=
  (∀ (s : State) (tag n : Byte) (f : ChannelFields), s.Writable →
    ∀ before fault after, channelRefusals n f = before ++ fault :: after → (∀ x ∈ before, ¬ x.1) → fault.1 →
      AnswersWith (.chanWrite tag n f) s tag 0x10 (.refused fault.2.1 fault.2.2) s.part) ∧
  (∀ (n : Byte) (f : ChannelFields), ChannelFieldsPass n f ↔ ∀ x ∈ channelRefusals n f, ¬ x.1) ∧
  ∀ (s : State) (tag n measureTag : Byte) (f : ChannelFields), s.Writable → ChannelFieldsPass n f →
    let c := n.toNat
    let old := s.part.channel c
    let disables := old.cfg.enabled = true ∧ f.enabled = 0
    let verdict := Verdict.done
      (firstCut [(5, decide (f.settle.toNat = 0 ∨ 31 < f.settle.toNat)), (14, decide (32767 < f.lowHyst.toNat)),
        (15, decide (32767 < f.highHyst.toNat)), (20, decide (32767 < f.rise.toNat)),
        (21, decide (32767 < f.fall.toNat))]) []
    let window := fun (q : Part) =>
      told ((q.channel c).window ≠ old.window) .window c
        (u8 old.window.code ++ u8 (q.channel c).window.code ++ i16 old.value) ++
      told (old.cfg.enabled = true ∧ f.enabled = 0 ∧ old.validity = .fault) .sensor c
        (u8 old.validity.code ++ u8 Validity.unseen.code ++ u16 old.lastRaw)
    let posts := fun (q : Part) =>
      let new := q.channel c
      let g := s.part.gasOf c
      let gas := fun (x : ChanConfig) => x.enabled = true ∧ x.kind = .gas
      (GasFieldsDiffer old.cfg new.cfg ∨ old.cfg.kind = .gas ∧ disables → g.member = true → ¬ gas new.cfg →
        Posts (window q ++ levelTold c g.level 0 .config) s.part q) ∧
      (¬ (GasFieldsDiffer old.cfg new.cfg ∨ old.cfg.kind = .gas ∧ disables) ∨ g.member = false ∨ gas new.cfg →
        Posts (window q) s.part q)
    let hands := fun (q : Part) =>
      let new := q.channel c
      let leaves := c < 20 ∧ old.window = .low ∧ (disables ∨ WindowFieldsDiffer old.cfg new.cfg)
      let takes := GasFieldsDiffer old.cfg new.cfg ∨ old.cfg.kind = .gas ∧ disables
      ∃ edge demands, q.due = s.part.due ++ edge ++ demands ∧ (leaves → edge = [.freezeEdge c false]) ∧
        (¬ leaves → edge = []) ∧ (takes → GasTakenUp s.part q c new.cfg demands) ∧
        (¬ takes → demands = [] ∧ q.air = s.part.air)
    (¬ disables ∨ s.part.mu.outstanding ≠ some c →
      Answers (.chanWrite tag n f) s tag 0x10 verdict fun q =>
        let new := q.channel c
        ChannelStored f new.cfg ∧ q.link.unsaved = true ∧ (∀ k < 21, k ≠ c → q.channel k = s.part.channel k) ∧
        new.lastRaw = old.lastRaw ∧ new.value = old.value ∧ new.entered = old.entered ∧
        (disables →
          new.validity = .unseen ∧ new.known = false ∧ new.history = [] ∧ new.clearPending = false ∧ new.badRun = 0 ∧
          new.goodRun = 0 ∧ new.age = none ∧ new.window = .clear ∧ new.left = (old.left || decide (old.window ≠ .clear)) ∧
          (∀ e ∈ q.mu.priority, e.channel ≠ c) ∧
          (∀ v, q.mu.converter = some v → v.channel = c → v.discard = true)) ∧
        (¬ disables →
          new.validity = old.validity ∧ new.known = old.known ∧ new.history = old.history ∧ new.badRun = old.badRun ∧
          new.goodRun = old.goodRun ∧ new.age = old.age ∧
          new.clearPending = (old.clearPending ||
            decide (new.cfg.gain ≠ old.cfg.gain ∨ new.cfg.scaleLo ≠ old.cfg.scaleLo ∨ new.cfg.scaleHi ≠ old.cfg.scaleHi ∨
              new.cfg.depth ≠ old.cfg.depth)) ∧
          (WindowFieldsDiffer old.cfg new.cfg →
            new.window = .clear ∧ new.left = (old.left || decide (old.window ≠ .clear))) ∧
          (¬ WindowFieldsDiffer old.cfg new.cfg → new.window = old.window ∧ new.left = old.left) ∧
          q.mu.priority = s.part.mu.priority ∧ q.mu.converter = s.part.mu.converter) ∧
        posts q ∧ hands q ∧ ChangesOnly [.measurement, .airQuality, .settings, .replies, .notices, .handed] s.part q) ∧
    (disables → s.part.mu.outstanding = some c → s.part.link.deferredMeasure = some measureTag →
      ∃ t, exec (.chanWrite tag n f) s = .next t ∧ t.pending = s.pending ∧
        t.part.link.outgoing =
          s.part.link.outgoing ++ [(Verdict.refused .state 1).body measureTag 0x13, verdict.body tag 0x10] ∧
        t.part.mu.outstanding = none ∧ t.part.link.deferredMeasure = none ∧ (t.part.channel c).validity = .unseen ∧ posts t.part ∧
        hands t.part)

/-- A conversion of channel c has started between two states of the unit: it holds the configuration as written, and a pending
clear has emptied the history. -/
def ConversionStarted (m m' : Measurement) (c : Nat) (priority measure : Bool) : Prop :=
  m'.converter = some { channel := c, priority := priority, cfg := (m.channel c).cfg, measure := measure, discard := false } ∧
    m'.channel c =
      (if (m.channel c).clearPending then { m.channel c with history := [], clearPending := false } else m.channel c) ∧
    ∀ k < 21, k ≠ c → m'.channel k = m.channel k

/-- MEASURE joins the priority list, merges with the channel's entry, or is taken at once by an idle converter; its reply is
deferred; and it is refused for a number above 20, a disabled channel, while another is outstanding, or by a full list. The
field number 1 of the STATE refusal is the model's choice (log entry 17). -/
def Obligations.MeasureJoinsThePriorityList : Prop :=
  ∀ (s : State) (tag n : Byte), s.Ready →
    let c := n.toNat
    let mu := s.part.mu
    let listed := ∃ e ∈ mu.priority, e.channel = c
    let accepted := c ≤ 20 ∧ (s.part.channel c).cfg.enabled = true ∧ mu.outstanding = none
    let link := { s.part.link with deferredMeasure := some tag }
    (accepted → listed →
      Becomes (.measure tag n) s
        { s.part with
          mu :=
            { mu with
              priority := mu.priority.map fun e => if e.channel = c then { e with measure := true } else e
              outstanding := some c }
          link := link }) ∧
    (accepted → ¬ listed → mu.priority.length < 8 → mu.converter.isSome = true →
      Becomes (.measure tag n) s
        { s.part with
          mu := { mu with priority := mu.priority ++ [{ channel := c, measure := true }], outstanding := some c }
          link := link }) ∧
    (accepted → mu.priority = [] → mu.converter = none →
      Ends (.measure tag n) s fun q =>
        ConversionStarted mu q.mu c true true ∧ q.mu.priority = [] ∧ q.mu.outstanding = some c ∧
          q.link.outgoing = s.part.link.outgoing ∧ q.link.deferredMeasure = some tag ∧
          ChangesOnly [.measurement, .replies] s.part q) ∧
    (20 < c → AnswersWith (.measure tag n) s tag 0x13 (.refused .index 1) s.part) ∧
    (c ≤ 20 → (s.part.channel c).cfg.enabled = false → AnswersWith (.measure tag n) s tag 0x13 (.refused .state 1) s.part) ∧
    (c ≤ 20 → (s.part.channel c).cfg.enabled = true → mu.outstanding.isSome = true →
      AnswersWith (.measure tag n) s tag 0x13 (.refused .busy 0) s.part) ∧
    (accepted → ¬ listed → 8 ≤ mu.priority.length → AnswersWith (.measure tag n) s tag 0x13 (.refused .busy 0) s.part)

/-- FLAGS_CLEAR clears ENTERED and LEFT of the channels in its mask and answers the flags as they stood before, two bytes for
each channel of the mask, ascending; it changes nothing else and posts no notice. -/
def Obligations.FlagsClearReportsAndClears : Prop :=
  ∀ (s : State) (tag : Byte) (mask : BitVec 24), s.Ready →
    ∃ channels : Vector Channel 21,
      (∀ c < 21, Tab.get channels c =
        if mask.getLsbD c then { s.part.channel c with entered := false, left := false } else s.part.channel c) ∧
      AnswersWith (.flagsClear tag mask) s tag 0x14
        (.done 0 (((List.range 21).filter fun c => mask.getLsbD c).flatMap fun c =>
          [if (s.part.channel c).entered then 1 else 0, if (s.part.channel c).left then 1 else 0]))
        { s.part with mu := { s.part.mu with channels := channels } }

/-- SCAN_TIMER_EXPIRY restarts its timer; between rounds it makes a staged list active and starts a round, whose first
enabled entry an idle converter takes. FAST_SCAN_TIMER_EXPIRY asks a conversion of every enabled gas channel at level 2 or 3,
ascending. VALID_AGE_SECOND advances every age that is known. That the timers' rows act whatever seconds are left is the
model's choice (log entry 77). -/
def Obligations.ScanTimersStartRoundsAndRequests : Prop :=
  ∀ s : State, s.part.running = true →
    let mu := s.part.mu
    let active := mu.staged.getD mu.active
    (∀ k, mu.round = .inRound k →
      Becomes .scanTimerExpiry s { s.part with mu := { mu with scanTimer := mu.period } }) ∧
    (∀ v, mu.round = .between → mu.converter = some v →
      Becomes .scanTimerExpiry s
        { s.part with
          mu := { mu with scanTimer := mu.period, active := active, staged := none, round := .inRound 0 } }) ∧
    (mu.round = .between → mu.converter = none → mu.priority = [] →
      Ends .scanTimerExpiry s fun q =>
        q.mu.scanTimer = mu.period ∧ q.mu.active = active ∧ q.mu.staged = none ∧ q.mu.priority = [] ∧
        (∀ before c after, active = before ++ c :: after → (s.part.channel c).cfg.enabled = true →
          (∀ x ∈ before, (s.part.channel x).cfg.enabled = false) →
          ConversionStarted mu q.mu c false false ∧ q.mu.round = .inRound (before.length + 1)) ∧
        ((∀ x ∈ active, (s.part.channel x).cfg.enabled = false) →
          q.mu.round = .between ∧ q.mu.converter = none ∧ q.mu.channels = mu.channels) ∧
        ChangesOnly [.measurement] s.part q) ∧
    (Ends .fastScanTimerExpiry s fun q =>
      let wanted := fun c => (s.part.channel c).cfg.enabled = true ∧ (s.part.channel c).cfg.kind = .gas ∧
        (s.part.gasOf c).member = true ∧ 2 ≤ (s.part.gasOf c).level
      q.mu.fastTimer = mu.fast ∧
      (∀ c < 20, wanted c →
        (∃ e ∈ q.mu.priority, e.channel = c) ∨ (∃ v, q.mu.converter = some v ∧ v.channel = c) ∨
          8 ≤ q.mu.priority.length) ∧
      (mu.converter.isSome = true →
        q.mu.converter = mu.converter ∧ q.mu.channels = mu.channels ∧
        ∃ added : List Nat, q.mu.priority = mu.priority ++ added.map (fun c => { channel := c, measure := false }) ∧
          added.Pairwise (· < ·) ∧ ∀ c ∈ added, c < 20 ∧ wanted c) ∧
      ChangesOnly [.measurement] s.part q) ∧
    (Ends .validAgeSecond s fun q =>
      (∀ c < 21, q.channel c =
        { s.part.channel c with age := (s.part.channel c).age.map fun a => min 65535 (a + 1) }) ∧
      q.mu = { mu with channels := q.mu.channels } ∧ ChangesOnly [.measurement] s.part q)

/-- The window state w' that a value gives after the window state w: OUTSIDE and INSIDE sense, and unmoved with the window
off. -/
def windowAfter (c : ChanConfig) (w : WindowState) (v : Int) : WindowState :=
  if c.windowOn = false then w
  else if c.inside = false then
    match w with
    | .clear => if v < c.lo then .low else if c.hi < v then .high else .clear
    | .low => if c.hi < v then .high else if c.lo + c.lowHyst ≤ v ∧ v ≤ c.hi - c.highHyst then .clear else .low
    | .high => if v < c.lo then .low else if c.lo + c.lowHyst ≤ v ∧ v ≤ c.hi - c.highHyst then .clear else .high
    | .inside => .inside
  else
    match w with
    | .clear => if c.lo < v ∧ v < c.hi then .inside else .clear
    | .inside => if c.hi + c.highHyst ≤ v ∨ v ≤ c.lo - c.lowHyst then .clear else .inside
    | other => other

/-- The end of a conversion: the raw result by its gain, the runs, the validity table, the scaled value in the history, the
filtered value, the window with its latched edges; SENSOR posted for a move into or out of FAULT and after it WINDOW for an
edge, as the mask admits them; the MEASURE attached answered; the gas result and the ALARM_LOW edge
handed on; and the next conversion started, from the head of the priority list, else from the next enabled entry of the
round, its channel's history emptied where a clear is pending. A discarded result touches no record. Judging the window by
the configuration as it stands at the end of the conversion is the model's choice (log entry 28). -/
def Obligations.AConversionIsJudgedFilteredAndWindowed : Prop :=
  ∀ (s : State) (nanovolts : Int) (v : Conversion), s.part.running = true → s.part.mu.converter = some v →
    v.channel < 21 →
    let c := v.channel
    let old := s.part.channel c
    let raw := (max 0 (min 4095 (nanovolts * 2 ^ v.cfg.gain.code * 4096 / 5000000000))).toNat
    let bad := v.cfg.rail = true ∧ (raw = 0 ∨ raw = 4095)
    let scaledValue := v.cfg.scaleLo + roundQuot ((v.cfg.scaleHi - v.cfg.scaleLo) * raw) 4095
    let longer := old.history ++ [scaledValue]
    let history := longer.drop (longer.length - 2 ^ v.cfg.depth.code)
    Ends (.conversionComplete nanovolts) s fun q =>
      let new := q.channel c
      let emptied := fun k => q.mu.converter.map (·.channel) = some k ∧ (s.part.channel k).clearPending = true
      (∀ k < 21, k ≠ c ∨ v.discard = true →
        q.channel k =
          if emptied k then { s.part.channel k with history := [], clearPending := false } else s.part.channel k) ∧
      (v.discard = true → q.due = s.part.due ∧ q.link.outgoing = s.part.link.outgoing ∧ Posts [] s.part q) ∧
      (v.discard = false →
        new.lastRaw = raw ∧ new.cfg = old.cfg ∧ new.clearPending = (if emptied c then false else old.clearPending) ∧
        (bad →
          new.badRun = min 255 (old.badRun + 1) ∧ new.goodRun = 0 ∧ new.value = old.value ∧ new.age = old.age ∧
          new.known = old.known ∧ new.window = old.window ∧ new.history = (if emptied c then [] else old.history) ∧
          new.validity = (match old.validity with
            | .unseen => .unseen
            | .fault => .fault
            | _ => if 3 ≤ new.badRun then .fault else .suspect)) ∧
        (¬ bad →
          new.badRun = 0 ∧ new.goodRun = min 255 (old.goodRun + 1) ∧ new.history = (if emptied c then [] else history) ∧
          new.validity = (match old.validity with
            | .unseen => .valid
            | .valid => .valid
            | other => if 2 ≤ new.goodRun then .valid else other) ∧
          (new.validity = .valid →
            new.value = roundQuot history.sum history.length ∧ new.known = true ∧ new.age = some 0 ∧
            new.window = windowAfter old.cfg old.window new.value) ∧
          (new.validity ≠ .valid →
            new.value = old.value ∧ new.known = old.known ∧ new.age = old.age ∧ new.window = old.window)) ∧
        Posts
          (told (old.validity ≠ new.validity ∧ (old.validity = .fault ∨ new.validity = .fault)) .sensor c
              (u8 old.validity.code ++ u8 new.validity.code ++ u16 raw) ++
            told (old.window ≠ new.window) .window c
              (u8 old.window.code ++ u8 new.window.code ++ i16 new.value)) s.part q ∧
        new.entered = (old.entered || decide (new.window ≠ old.window ∧ new.window ≠ .clear)) ∧
        new.left = (old.left || decide (new.window ≠ old.window ∧ new.window = .clear)) ∧
        q.due = s.part.due ++ (if v.cfg.kind = .gas then [.gas c new.value new.validity new.age] else []) ++
          (if c < 20 ∧ (old.window = .low ↔ new.window ≠ .low) then [.freezeEdge c (decide (new.window = .low))] else []) ∧
        (v.measure = false → q.mu.outstanding = s.part.mu.outstanding ∧ q.link.outgoing = s.part.link.outgoing) ∧
        (v.measure = true → q.mu.outstanding = none ∧ q.link.deferredMeasure = none ∧
          ∀ tag, s.part.link.deferredMeasure = some tag →
            q.link.outgoing = s.part.link.outgoing ++
              [(Verdict.done 0 (u8 c ++ u16 raw ++ i16 new.value ++ u8 new.validity.code ++ u8 new.badRun ++
                u8 new.goodRun ++ u8 new.window.code)).body tag 0x13])) ∧
      (∀ e rest, s.part.mu.priority = e :: rest →
        q.mu.priority = rest ∧
          q.mu.converter =
            some { channel := e.channel, priority := true, cfg := (s.part.channel e.channel).cfg, measure := e.measure
                   discard := false }) ∧
      (s.part.mu.priority = [] → s.part.mu.round = .between → q.mu.converter = none ∧ q.mu.round = .between) ∧
      (∀ k, s.part.mu.priority = [] → s.part.mu.round = .inRound k →
        (∀ before x after, s.part.mu.active.drop k = before ++ x :: after → (s.part.channel x).cfg.enabled = true →
          (∀ y ∈ before, (s.part.channel y).cfg.enabled = false) →
          q.mu.round = .inRound (k + before.length + 1) ∧
            q.mu.converter =
              some { channel := x, priority := false, cfg := (s.part.channel x).cfg, measure := false, discard := false }) ∧
        ((∀ y ∈ s.part.mu.active.drop k, (s.part.channel y).cfg.enabled = false) →
          q.mu.round = .between ∧ q.mu.converter = none)) ∧
      ChangesOnly [.measurement, .replies, .notices, .handed] s.part q

/-! ### Zones -/

/-- Zone z of q is that of p evaluated (R118): heat mode and Tz from its channel's record (R119), the setpoint with the door and
vent terms and the error (R121, R122), the proportional and integral parts with their ranges, the demand and the stage count
(R123 to R126), the freeze guard's and the lost temperature's demands in their place (R128, R129), and the stage requests that
differ from those handed, handed to the load budget (R131). -/
def HeatFollows (p q : Part) (z : Nat) : Prop :=
  let r := p.zone z
  let ch := p.channel r.cfg.channel
  let stages := p.lb.count .heat z
  let granted := p.lb.grantedCount .heat z
  let fans := p.lb.grantedCount .fan r.cfg.group
  let quarters := p.doorQuarters z
  let setpoint := p.cal.running.setpoint (p.calZone z).effective
  let n := q.zone z
  n.cfg = r.cfg ∧ n.guard = r.guard ∧ n.presence = r.presence ∧ n.lightGuard = r.lightGuard ∧ n.evaluated = true ∧
  n.timer = p.zc.interval ∧ n.g = granted ∧ n.gFan = fans ∧
  (ch.validity = .valid → n.mode = .normal ∧ n.tz = some ch.value) ∧
  (∀ a, ch.validity = .suspect ∨ ch.validity = .fault → ch.age = some a → a < p.zc.hold →
    n.mode = .holding ∧ n.tz = some ch.value) ∧
  (ch.validity = .unseen ∨ ch.validity ≠ .valid ∧ (∀ a, ch.age = some a → p.zc.hold ≤ a) →
    n.mode = .lost ∧ n.tz = none) ∧
  (∀ t, n.tz = some t →
    n.sp = setpoint ∧ n.quarters = quarters ∧ n.doorTerm = r.cfg.kd * quarters / 4 ∧ n.ventTerm = fans * r.cfg.kv ∧
    n.e = max (-500) (min 500 ((setpoint : Int) - t + (r.cfg.kd * quarters / 4 : Nat) + (fans * r.cfg.kv : Nat)))) ∧
  (n.tz = none → n.doorTerm = 0 ∧ n.ventTerm = 0 ∧ n.e = 0) ∧
  (r.guard = true → n.p = 0 ∧ n.iterm = 0 ∧ n.d = 1000 ∧ n.s = stages ∧ n.i = r.i) ∧
  (r.guard = false → n.mode = .lost →
    n.p = 0 ∧ n.iterm = 0 ∧ n.i = 0 ∧ n.d = 500 ∧ n.s = min r.cfg.fallback stages) ∧
  (r.guard = false → n.mode ≠ .lost →
    n.p = Int.tdiv (r.cfg.kp * n.e) 8 ∧
    (r.cfg.kp ≤ 255 → -15937 ≤ n.p ∧ n.p ≤ 15937) ∧
    (0 < n.e → granted < r.s → n.i = r.i) ∧
    (¬ (0 < n.e ∧ granted < r.s) → (n.i : Int) = max 0 (min (r.cfg.imax : Int) (r.i + n.e))) ∧
    (r.cfg.ki ≤ 255 → r.cfg.imax ≤ 30000 → r.i ≤ 30000 → n.iterm ≤ 29882) ∧
    n.iterm = r.cfg.ki * n.i / 256 ∧ (n.d : Int) = max 0 (min 1000 (n.p + n.iterm)) ∧
    (let on := ((List.range stages).filter fun k => decide ((k + 1) * 1000 / (stages + 1) ≤ n.d)).length
      let off :=
        ((List.range stages).filter fun k => decide ((k + 1) * 1000 / (stages + 1) ≤ n.d + r.cfg.hyst)).length
      (stages = 0 → n.s = 0) ∧
      (0 < stages → n.s = if r.s < on then on else if off < r.s then off else r.s))) ∧
  (∀ k < 3, k < stages →
    Tab.get n.handed k = { on := decide (k + 1 ≤ n.s), urgency := n.d } ∧
    (Tab.get r.handed k ≠ Tab.get n.handed k → .budget (.heat z (k + 1) (Tab.get n.handed k)) ∈ q.due)) ∧
  (∀ k < 3, stages ≤ k → Tab.get n.handed k = Tab.get r.handed k)

/-- An evaluation of a zone, at its timer's expiry or at a trigger that is due: heat mode and Tz from its channel's record,
the setpoint with the door and vent terms, the error, the proportional and integral parts with their ranges, the demand and
the stage count; the freeze guard's and the lost temperature's demands in their place; and the stage requests that differ
from those handed, handed to the load budget. An evaluation that enters LOST, and no other, posts SENSOR_LOST, as the mask
admits it. The door quarters are summed over the zone's enabled stations, N and G are the loads of its kind and owner and
those that hold a grant. Which of the working terms are 0 while Tz is not available, and that the timer's row acts whatever
seconds are left, are the model's choice (log entries 43 and 77). -/
def Obligations.AnEvaluationFollowsTheHeatArithmetic : Prop :=
  (∀ (p : Part) (z : Nat), p.doorQuarters z = ((List.range 48).map fun k =>
    let st := p.station (k + 1)
    if st.state ≠ .disabled ∧ st.cfg.zone = z ∧ st.door = .opened then (if st.docked = true then 1 else 4) else 0).sum) ∧
  (∀ (lb : Budget) (kind : LoadKind) (owner : Nat),
    let owned := (List.range 128).filter fun i =>
      decide ((lb.load i).cfg.kind = kind) && decide ((lb.load i).cfg.owner = some owner)
    lb.count kind owner = owned.length ∧
      lb.grantedCount kind owner = (owned.filter fun i => decide ((lb.load i).grant ≠ .none)).length) ∧
  (∀ (s : State) (z : Nat) (c : Instr),
    c = .evaluationTimerExpiry z ∨ c = .zoneEvaluation z ∧ Due.evaluate z ∈ s.part.due → s.part.running = true → z < 12 →
    Ends c s fun q =>
      HeatFollows s.part q z ∧ (∀ y < 12, y ≠ z → q.zone y = s.part.zone y) ∧
      Posts (lostTold s.part q z) s.part q ∧ ChangesOnly [.conditioner, .doorLine, .notices, .handed] s.part q)

/-- The light level and source of a zone whose override, base level, presence, open door and floor stand so: an override alone,
else the largest term, the first on equal values; the request is handed to the LIGHT load the zone owns where it differs, and
none is handed before the zone's first evaluation (R146). -/
def LightFollows (p q : Part) (z : Nat) (present : Bool) : Prop :=
  let n := q.zone z
  let header := p.cal.running.header
  let base := p.cal.running.baseLight (p.calZone z).effective
  let presence := if present then header.presenceLight else 0
  let door := if p.anyDoorOpen z then header.doorLight else 0
  (∀ o, (p.calZone z).lightOverride = some o → n.lr = o.level ∧ n.lightSource = .override) ∧
  ((p.calZone z).lightOverride = none →
    n.lr = max (max base presence) (max door n.cfg.floor) ∧
    n.lightSource =
      (if n.lr = base then .base else if n.lr = presence then .presence else if n.lr = door then .door else .floor)) ∧
  (p.lb.count .light z = 0 → n.direct = if n.cfg.dim.isSome then n.lr else 0) ∧
  (p.lb.count .light z ≠ 0 → n.direct = 0) ∧
  (p.lb.count .light z ≠ 0 → n.evaluated = true →
    n.handedLight = { level := n.lr, urgency := 10 * n.lr } ∧
    ((p.zone z).handedLight ≠ n.handedLight → .budget (.light z n.handedLight) ∈ q.due)) ∧
  (n.evaluated = false →
    n.handedLight = (p.zone z).handedLight ∧ ∀ r, Due.budget (.light z r) ∈ q.due → Due.budget (.light z r) ∈ p.due)

/-- The stations of zone z of q have their curtain demands computed from p (R140, R142), with the run-on that a closing starts
(R141); the heat request of an enabled station with a CURTAIN load is what its demand makes it, handed to the load budget where
it differs (R143), and its commanded outputs are formed afresh (R145). The rest of a record stays, but for the pending flag. An
evaluation leaves the demand of a station that is ABSENT, SILENT or DISABLED as it stands (log entry 44). -/
def CurtainsFollow (p q : Part) (z : Nat) : Prop :=
  let header := p.cal.running.header
  let outdoor := p.channel header.outdoor
  let cold := outdoor.known = false ∨ outdoor.value < header.curtainThreshold
  ∀ a, 1 ≤ a → a ≤ 48 → (p.station a).cfg.zone = z →
    let st := p.station a
    let n := q.station a
    (st.state = .present → st.door = .opened → st.docked = false →
      (n.demand = 2 ↔ cold) ∧ (n.demand = 1 ↔ ¬ cold) ∧ q.runOn a = none) ∧
    (st.state = .present → st.door = .opened → st.docked = true → n.demand = 0 ∧ q.runOn a = none) ∧
    (st.state = .present → st.door = .closed → (p.runOn a).isSome = true → n.demand = 1 ∧ q.runOn a = p.runOn a) ∧
    (st.state = .present → st.door = .closed → p.runOn a = none → st.demand = 0 ∨ header.runOn = 0 →
      n.demand = 0 ∧ q.runOn a = none) ∧
    (st.state = .present → st.door = .closed → p.runOn a = none → st.demand ≠ 0 → header.runOn ≠ 0 →
      n.demand = 1 ∧ q.runOn a = some header.runOn) ∧
    (st.state ≠ .present ∨ st.door = .unknown → n.demand = st.demand ∧ q.runOn a = p.runOn a) ∧
    (∃ flag, n = { st with demand := n.demand, commanded := n.commanded, pending := flag }) ∧
    (st.state ≠ .disabled →
      n.commanded = q.formedOutputs a ∧
      (p.lb.count .curtain a ≠ 0 →
        q.curtainHanded a = decide (n.demand = 2) ∧
        (p.curtainHanded a ≠ q.curtainHanded a → .budget (.curtain a (q.curtainHanded a)) ∈ q.due)))

/-- Zone z of q is that of p evaluated: its heat, its light and the curtains of its stations (R118). -/
def ZoneEvaluated (p q : Part) (z : Nat) : Prop :=
  HeatFollows p q z ∧ LightFollows p q z (p.zone z).presence.isSome ∧ CurtainsFollow p q z

/-- Station a keeps its record, its run-on and the curtain heat request last handed for it. -/
def StationKept (p q : Part) (a : Nat) : Prop :=
  q.station a = p.station a ∧ q.runOn a = p.runOn a ∧ q.curtainHanded a = p.curtainHanded a

/-- ZONE_WRITE ONE stores the zone's fields clamped, cuts I to Imax, takes the guard of a changed channel, hands the group
demands of a changed group and evaluates the zone; FREEZE_GUARD_EDGE sets the guard of every zone that reads the channel and
evaluates it. The evaluation is that of R118 on the fields and the guard as stored: the heat arithmetic, the light, and the
curtains of the zone's stations, the stations of other zones keeping their records. A guard that changes is handed to the load
budget. An evaluation that enters LOST posts SENSOR_LOST, as the mask admits it. Other zones are unchanged. That a zone takes
the guard of its new channel whatever its validity is read from R114 (log entry 56). That the FREEZE_GUARD_EDGE row acts where
no edge is due, that what is handed on waits in the list of due events, which terms are 0 without a Tz, and the demand that an
evaluation keeps, are the model's choice (log entries 3, 2, 4, 43 and 44). -/
def Obligations.AWrittenZoneAndAFreezeEdgeAreEvaluated : Prop :=
  (∀ (s : State) (tag n : Byte) (f : ZoneFields), s.Writable →
    let z := n.toNat
    let old := s.part.zone z
    (n.toNat ≤ 11 → f.channel.toNat ≤ 19 → f.group.toNat ≤ 5 → f.dim.toNat ≤ 11 ∨ f.dim = 0xFF →
      Answers (.zoneWriteOne tag n f) s tag 0x0D
        (.done (firstCut [(5, decide (100 < f.kd.toNat)), (6, decide (100 < f.kv.toNat)), (9, decide (30000 < f.imax.toNat)),
          (10, decide (200 < f.hyst.toNat)), (11, decide (3 < f.fallback.toNat)), (12, decide (100 < f.floor.toNat))]) [])
        fun q =>
          let written : ZoneConfig :=
            { channel := f.channel.toNat, group := f.group.toNat, kd := min 100 f.kd.toNat, kv := min 100 f.kv.toNat
              kp := f.kp.toNat, ki := f.ki.toNat, imax := min 30000 f.imax.toNat, hyst := min 200 f.hyst.toNat
              fallback := min 3 f.fallback.toNat, floor := min 100 f.floor.toNat
              dim := if f.dim = 0xFF then none else some f.dim.toNat }
          let guard := if old.cfg.channel = f.channel.toNat then old.guard
            else decide ((s.part.channel f.channel.toNat).window = .low)
          (q.zone z).cfg = written ∧
          ZoneEvaluated (s.part.setZone z { old with cfg := written, i := min old.i written.imax, guard := guard }) q z ∧
          (old.guard ≠ guard → .budget (.freezeGuard z guard) ∈ q.due) ∧ s.part.due <+: q.due ∧
          (∀ a, 1 ≤ a → a ≤ 48 → (s.part.station a).cfg.zone ≠ z → StationKept s.part q a) ∧
          ((q.zone z).i ≤ min 30000 f.imax.toNat) ∧ (q.zone z).evaluated = true ∧
          (q.zone z).timer = s.part.zc.interval ∧ q.link.unsaved = true ∧
          (old.cfg.channel = f.channel.toNat → (q.zone z).guard = old.guard) ∧
          (old.cfg.channel ≠ f.channel.toNat →
            (q.zone z).guard = decide ((s.part.channel f.channel.toNat).window = .low)) ∧
          (old.cfg.group ≠ f.group.toNat → .demand old.cfg.group ∈ q.due ∧ .demand f.group.toNat ∈ q.due) ∧
          (∀ y < 12, y ≠ z → q.zone y = s.part.zone y) ∧
          Posts (lostTold s.part q z) s.part q ∧
          ChangesOnly [.conditioner, .doorLine, .settings, .replies, .notices, .handed] s.part q) ∧
    (11 < n.toNat → AnswersWith (.zoneWriteOne tag n f) s tag 0x0D (.refused .index 2) s.part) ∧
    (n.toNat ≤ 11 → 19 < f.channel.toNat → AnswersWith (.zoneWriteOne tag n f) s tag 0x0D (.refused .index 3) s.part) ∧
    (n.toNat ≤ 11 → f.channel.toNat ≤ 19 → 5 < f.group.toNat →
      AnswersWith (.zoneWriteOne tag n f) s tag 0x0D (.refused .index 4) s.part) ∧
    (n.toNat ≤ 11 → f.channel.toNat ≤ 19 → f.group.toNat ≤ 5 → 11 < f.dim.toNat → f.dim ≠ 0xFF →
      AnswersWith (.zoneWriteOne tag n f) s tag 0x0D (.refused .index 13) s.part)) ∧
  (∀ (s : State) (c : Nat) (alarm : Bool), s.part.running = true → c < 20 →
    Ends (.freezeGuardEdge c alarm) s fun q =>
      (∀ z < 12, (s.part.zone z).cfg.channel = c →
        ZoneEvaluated (s.part.setZone z { s.part.zone z with guard := alarm }) q z ∧
        (q.zone z).guard = alarm ∧ (q.zone z).evaluated = true ∧ (q.zone z).timer = s.part.zc.interval ∧
          ((s.part.zone z).guard ≠ alarm → .budget (.freezeGuard z alarm) ∈ q.due)) ∧
      (∀ z < 12, (s.part.zone z).cfg.channel ≠ c →
        q.zone z = s.part.zone z ∧
        ∀ a, 1 ≤ a → a ≤ 48 → (s.part.station a).cfg.zone = z → StationKept s.part q a) ∧
      Posts (((List.range 12).filter fun z => decide ((s.part.zone z).cfg.channel = c)).flatMap (lostTold s.part q)) s.part q ∧
      ChangesOnly [.conditioner, .doorLine, .notices, .handed] s.part q)

/-- An evaluation computes the zone's light and the curtain demand of each of its enabled stations; the expiry of a presence
timer that has run out ends the presence and computes the light and its guard, and hands no light request before the zone's
first evaluation; the expiry of a run-on that has run out ends the curtain demand. The choices of the model: an evaluation
leaves the demand of a station that is ABSENT, SILENT or DISABLED as it stands (log entry 44), the row of a presence or run-on
timer that has not run out changes nothing (log entry 6), ZONE_EVALUATION acts where no trigger is due (log entry 3), and
EVALUATION_TIMER_EXPIRY acts whatever seconds are left (log entry 77). -/
def Obligations.LightAndCurtainsFollowEvaluationsAndTimers : Prop :=
  (∀ (p : Part) (z : Nat), p.anyDoorOpen z = true ↔
    ∃ a, 1 ≤ a ∧ a ≤ 48 ∧ (p.station a).state ≠ .disabled ∧ (p.station a).cfg.zone = z ∧ (p.station a).door = .opened) ∧
  (∀ (s : State) (z : Nat) (c : Instr), c = .evaluationTimerExpiry z ∨ c = .zoneEvaluation z → s.part.running = true →
    z < 12 →
    Ends c s fun q =>
      (q.zone z).evaluated = true ∧ LightFollows s.part q z (s.part.zone z).presence.isSome ∧
      CurtainsFollow s.part q z ∧
      (∀ a, 1 ≤ a → a ≤ 48 → (s.part.station a).cfg.zone ≠ z → q.station a = s.part.station a)) ∧
  (∀ (s : State) (z : Nat), s.part.running = true → z < 12 →
    ((s.part.zone z).presence ≠ some 0 → Becomes (.presenceTimerExpiry z) s s.part) ∧
    ((s.part.zone z).presence = some 0 →
      Ends (.presenceTimerExpiry z) s fun q =>
        (q.zone z).presence = none ∧ (q.zone z).evaluated = (s.part.zone z).evaluated ∧
        (q.zone z).lightGuard = decide ((s.part.calZone z).effective.phase ≠ .idle) ∧
        ((q.zone z).lightGuard ≠ (s.part.zone z).lightGuard →
          .budget (.lightGuard z (q.zone z).lightGuard) ∈ q.due) ∧
        LightFollows s.part q z false ∧ (∀ y < 12, y ≠ z → q.zone y = s.part.zone y) ∧
        ChangesOnly [.conditioner, .handed] s.part q)) ∧
  (∀ (s : State) (a : Nat), s.part.running = true → 1 ≤ a → a ≤ 48 →
    (s.part.runOn a ≠ some 0 → Becomes (.runOnExpiry a) s s.part) ∧
    (s.part.runOn a = some 0 →
      Ends (.runOnExpiry a) s fun q =>
        q.runOn a = none ∧ (q.station a).demand = 0 ∧
        (s.part.lb.count .curtain a ≠ 0 → s.part.curtainHanded a = true → .budget (.curtain a false) ∈ q.due) ∧
        (∀ b, 1 ≤ b → b ≤ 48 → b ≠ a → q.station b = s.part.station b ∧ q.runOn b = s.part.runOn b) ∧
        q.zc.zones = s.part.zc.zones ∧ ChangesOnly [.conditioner, .doorLine, .handed] s.part q))

/-! ### Air quality -/

/-- Group g of q is that of p with its demand computed under a credit threshold: base from the highest level and the highest
ventilation minimum, door credit, demand cut to the stages the group has, the requests handed that differ, and the alarm
guard. -/
def DemandFollows (p q : Part) (g credit : Nat) : Prop :=
  let level := p.air.highestLevel g
  let base := max level (p.highestVent g)
  let stages := p.lb.count .fan g
  let applies := decide (base = 1 ∧ level ≤ 1 ∧ credit ≠ 0 ∧ credit ≤ p.openCount g)
  let n := q.group g
  n.credit = credit ∧ n.base = base ∧ n.applied = applies ∧ n.demand = (if applies then 0 else min base stages) ∧
  n.guard = decide (level = 3) ∧ (n.guard ≠ (p.group g).guard → .budget (.alarmGuard g n.guard) ∈ q.due) ∧
  (∀ k < 3, k < stages →
    Tab.get n.handed k = { on := decide (k + 1 ≤ n.demand), urgency := 333 * n.demand } ∧
    (Tab.get (p.group g).handed k ≠ Tab.get n.handed k → .budget (.fan g (k + 1) (Tab.get n.handed k)) ∈ q.due)) ∧
  (∀ k < 3, stages ≤ k → Tab.get n.handed k = Tab.get (p.group g).handed k)

/-- The demand of group g is computed, and no other group's. -/
def DemandComputed (p q : Part) (g credit : Nat) : Prop :=
  DemandFollows p q g credit ∧ (∀ h < 6, h ≠ g → q.group h = p.group h) ∧ q.air.gas = p.air.gas ∧ q.air.hold = p.air.hold

/-- GROUP_DEMAND_COMPUTE computes its group's demand; GROUP_WRITE ONE stores the credit threshold, 0 to 48, and computes it;
a group above 5 is refused. A change of the alarm guard posts AIR, as the mask admits it, its sort coded 1 (log entry 88).
The levels are those of the group's members, the ventilation minimums those of its zones, and the open doors those of its
zones' enabled stations that are OPEN and not docked. That the row acts where no trigger is due is the model's choice (log
entry 3). -/
def Obligations.AGroupsDemandFollowsLevelsAndDoors : Prop :=
  (∀ (p : Part) (g : Nat),
    let member := fun c => c < 20 ∧ (p.gasOf c).member = true ∧ (p.gasOf c).group = g
    let vent := fun z => p.cal.running.ventMin (p.calZone z).effective
    p.openCount g = ((List.range 48).filter fun k =>
      let st := p.station (k + 1)
      decide (st.state ≠ .disabled ∧ st.door = .opened ∧ st.docked = false ∧ (p.zone st.cfg.zone).cfg.group = g)).length ∧
    (∀ c, member c → (p.gasOf c).level ≤ p.air.highestLevel g) ∧
    (p.air.highestLevel g = 0 ∨ ∃ c, member c ∧ (p.gasOf c).level = p.air.highestLevel g) ∧
    (∀ z < 12, (p.zone z).cfg.group = g → vent z ≤ p.highestVent g) ∧
    (p.highestVent g = 0 ∨ ∃ z < 12, (p.zone z).cfg.group = g ∧ vent z = p.highestVent g)) ∧
  (∀ (s : State) (g : Nat), s.part.running = true → g < 6 →
    Ends (.groupDemandCompute g) s fun q =>
      DemandComputed s.part q g (s.part.group g).credit ∧ Posts (guardTold s.part q g) s.part q ∧
        ChangesOnly [.airQuality, .notices, .handed] s.part q) ∧
  (∀ (s : State) (tag n credit : Byte), s.Writable →
    (n.toNat ≤ 5 →
      Answers (.groupWriteOne tag n credit) s tag 0x15 (.done (firstCut [(3, decide (48 < credit.toNat))]) []) fun q =>
        DemandComputed s.part q n.toNat (min 48 credit.toNat) ∧ q.link.unsaved = true ∧
          Posts (guardTold s.part q n.toNat) s.part q ∧
          ChangesOnly [.airQuality, .settings, .replies, .notices, .handed] s.part q) ∧
    (5 < n.toNat → AnswersWith (.groupWriteOne tag n credit) s tag 0x15 (.refused .index 2) s.part))

/-- GAS_CONVERSION takes the oldest conversion of its channel handed on, or where none was the record as it stands: a VALID
value grades the level on the ladder, any other holds it, and one held as long as the hold limit forces level 2; a channel
that joins does so at level 0, and one that leaves goes to level 0. HOLD_CHECK advances the watch ages, takes up who is a
member of which group, and forces the levels held too long. Each change of level, and the level 1 to 3 that a leaving channel
gives up, posts AIR, as the mask admits it. Judging with the watch age already advanced, taking the record as it stands where
no conversion was handed on, and what a channel that leaves keeps of its record, and the sort coded 0, are the model's choice
(log entries 26, 30, 72 and 88). -/
def Obligations.GasLevelsFollowTheLadderAndTheHold : Prop :=
  (∀ (s : State) (c : Nat) (value : Int) (validity : Validity) (age : Option Nat) (older later : List Due),
    s.part.running = true → c < 20 → (∀ v w a, Due.gas c v w a ∉ older) →
    s.part.due = older ++ .gas c value validity age :: later ∨
      (s.part.due = older ∧ later = [] ∧ value = (s.part.channel c).value ∧ validity = (s.part.channel c).validity ∧
        age = (s.part.channel c).age) →
    let cfg := (s.part.channel c).cfg
    let g := s.part.gasOf c
    let joins := cfg.enabled = true ∧ cfg.kind = .gas
    let g0 : Gas := if g.member then { g with group := cfg.group }
      else { member := true, group := cfg.group, level := 0, source := .ladder, watch := 0 }
    let on := ([cfg.t1, cfg.t2, cfg.t3].filter fun t => decide (t + cfg.rise ≤ value)).length
    let off := ([cfg.t1, cfg.t2, cfg.t3].filter fun t => decide (t - cfg.fall ≤ value)).length
    Ends (.gasConversion c) s fun q =>
      let n := q.gasOf c
      (joins → validity = .valid →
        n = { g0 with
          level := if g0.level < on then on else if off < g0.level then off else g0.level, source := .ladder }) ∧
      (joins → validity ≠ .valid → g0.source = .forced → n = g0) ∧
      (joins → validity ≠ .valid → g0.source ≠ .forced → s.part.air.hold ≤ age.getD g0.watch →
        n = { g0 with level := 2, source := .forced }) ∧
      (joins → validity ≠ .valid → g0.source ≠ .forced → age.getD g0.watch < s.part.air.hold →
        n = { g0 with source := .held }) ∧
      (¬ joins → g.member = true → n = { g with member := false, level := 0, source := .ladder }) ∧
      (¬ joins → g.member = false → n = g) ∧
      (joins → n.level ≠ g0.level ∨ g.member = false ∨ g.group ≠ cfg.group → .demand cfg.group ∈ q.due) ∧
      (g.member = true → ¬ joins ∨ g.group ≠ cfg.group → .demand g.group ∈ q.due) ∧
      (older ++ later) <+: q.due ∧ (∀ v w a, Due.gas c v w a ∈ q.due → Due.gas c v w a ∈ later) ∧
      (∀ k < 20, k ≠ c → q.gasOf k = s.part.gasOf k) ∧ q.air.groups = s.part.air.groups ∧
      Posts
        (if (s.part.channel c).cfg.enabled = true ∧ (s.part.channel c).cfg.kind = .gas then
          levelTold c g0.level n.level (if validity = .valid then .ladder else .forced)
        else if g.member then levelTold c g.level 0 .config else []) s.part q ∧
      ChangesOnly [.airQuality, .notices, .handed] s.part q) ∧
  (∀ s : State, s.part.running = true →
    Ends .holdCheck s fun q =>
      (∀ c < 20,
        let ch := s.part.channel c
        let g := s.part.gasOf c
        let joins := ch.cfg.enabled = true ∧ ch.cfg.kind = .gas
        let older : Gas := { g with watch := min 65535 (g.watch + 1) }
        let g0 : Gas := if g.member then { older with group := ch.cfg.group }
          else { member := true, group := ch.cfg.group, level := 0, source := .ladder, watch := 0 }
        (joins → ch.validity ≠ .valid → g0.source ≠ .forced → s.part.air.hold ≤ ch.age.getD g0.watch →
          q.gasOf c = { g0 with level := 2, source := .forced } ∧ (g0.level ≠ 2 → .demand ch.cfg.group ∈ q.due)) ∧
        (joins → ch.validity = .valid ∨ g0.source = .forced ∨ ch.age.getD g0.watch < s.part.air.hold →
          q.gasOf c = g0) ∧
        (joins → g.member = false ∨ g.group ≠ ch.cfg.group → .demand ch.cfg.group ∈ q.due) ∧
        (g.member = true → ¬ joins ∨ g.group ≠ ch.cfg.group → .demand g.group ∈ q.due) ∧
        (¬ joins → g.member = true → q.gasOf c = { older with member := false, level := 0, source := .ladder }) ∧
        (¬ joins → g.member = false → q.gasOf c = g)) ∧
      Posts
        ((List.range 20).flatMap fun c =>
          let g := s.part.gasOf c
          if (s.part.channel c).cfg.enabled = true ∧ (s.part.channel c).cfg.kind = .gas then
            levelTold c (if g.member then g.level else 0) (q.gasOf c).level .forced
          else if g.member then levelTold c g.level 0 .config else []) s.part q ∧
      q.air.groups = s.part.air.groups ∧ ChangesOnly [.airQuality, .notices, .handed] s.part q)

/-! ### Stations and the door line -/

/-- Two station records are the same but for the pending flag. -/
def SameButPending (x y : Station) : Prop := ∃ flag, y = { x with pending := flag }

/-- Station a of q has been disabled: its record, its door, its curtain demand, and its waiting entry. -/
def StationDisabled (q : Part) (a : Nat) : Prop :=
  let st := q.station a
  st.state = .disabled ∧ st.cfg.enabled = false ∧ st.door = .unknown ∧ st.docked = false ∧ st.demand = 0 ∧
    st.silence = none ∧ st.noAnswers = 0 ∧ st.stationType = none ∧ st.revision = none ∧ st.reported = none ∧
    st.condition = none ∧ st.pending = false ∧ q.runOn a = none ∧
    ∀ e ∈ q.dl.queue, e.address = a → e.inFlight = true ∧ e.orphan = true

/-- Station a of q has been enabled: ABSENT, with a QUERY wanted for it unless the outbound queue is full. -/
def StationEnabled (q : Part) (a : Nat) : Prop :=
  (q.station a).state = .absent ∧ (q.station a).cfg.enabled = true ∧
    ((∃ e ∈ q.dl.queue, e.address = a) ∨ 16 ≤ q.dl.queue.length)

/-- STATION_WRITE ONE enables, disables or moves one station and sets its zone; STATION_WRITE MASK enables or disables every
station of its mask whose setting it changes and answers how many; other stations keep their records. A PRESENT station
disabled posts STATION and then DOOR where its door changes, and one moved posts DOOR_OPEN_LONG where its watch stands at the
new zone's limit, as the mask admits them. A station disabled hands on the change of its door and withdraws its curtain heat
request; one moved hands on the evaluation of both zones and the demand of their groups, once where they share one, ascending;
one enabled hands nothing on. That these hand-offs wait in the list of due events, in this order, is the model's choice (log
entries 2 and 4). -/
def Obligations.StationsAreWrittenOneByOneOrByMask : Prop :=
  ∀ (s : State) (tag address enabled zone : Byte) (mask : BitVec 48), s.Writable →
    let a := address.toNat
    let st := s.part.station a
    let one := Instr.stationWriteOne tag address enabled zone
    let disabled := fun k => decide ((s.part.station (k + 1)).state = .disabled)
    let toEnable := (List.range 48).filter fun k => mask.getLsbD k && disabled k
    let toDisable := (List.range 48).filter fun k => mask.getLsbD k && !disabled k
    let others := fun (q : Part) => (∀ b, 1 ≤ b → b ≤ 48 → b ≠ a → SameButPending (s.part.station b) (q.station b)) ∧
      (q.station a).cfg.zone = zone.toNat ∧ q.link.unsaved = true ∧
      ChangesOnly [.doorLine, .conditioner, .settings, .replies, .notices, .handed] s.part q
    (1 ≤ a → a ≤ 48 → zone.toNat ≤ 11 →
      (st.state ≠ .disabled → enabled = 1 → st.cfg.zone = zone.toNat →
        AnswersWith one s tag 0x17 (.done 0 []) { s.part with link := { s.part.link with unsaved := true } }) ∧
      (st.state ≠ .disabled → enabled = 1 → st.cfg.zone ≠ zone.toNat →
        Answers one s tag 0x17 (.done 0 []) fun q =>
          let g := (s.part.zone st.cfg.zone).cfg.group
          let h := (s.part.zone zone.toNat).cfg.group
          (q.station a).state = st.state ∧ (q.station a).door = st.door ∧ q.zc = s.part.zc ∧
            q.due = s.part.due ++ [.evaluate st.cfg.zone, .evaluate zone.toNat] ++
              (if g = h then [.demand g] else [.demand (min g h), .demand (max g h)]) ∧
            Posts (longTold a st.watch st.limitSent zone.toNat (s.part.dl.limit zone.toNat)) s.part q ∧ others q) ∧
      (st.state ≠ .disabled → enabled = 0 →
        Answers one s tag 0x17 (.done 0 []) fun q =>
          StationDisabled q a ∧ Posts (leaveTold a st .disabled .disabled) s.part q ∧
            q.due = s.part.due ++ leaveHanded s.part a ∧ DemandsEnd s.part q (· = a) ∧ others q) ∧
      (st.state = .disabled → enabled = 1 →
        Answers one s tag 0x17 (.done 0 []) fun q =>
          StationEnabled q a ∧ q.zc = s.part.zc ∧ q.due = s.part.due ∧ Posts [] s.part q ∧ others q) ∧
      (st.state = .disabled → enabled = 0 →
        Answers one s tag 0x17 (.done 0 []) fun q =>
          q.station a = { st with cfg := { st.cfg with zone := zone.toNat } } ∧ q.zc = s.part.zc ∧ q.due = s.part.due ∧
            Posts [] s.part q ∧ others q)) ∧
    (a = 0 ∨ 48 < a → AnswersWith one s tag 0x17 (.refused .index 2) s.part) ∧
    (1 ≤ a → a ≤ 48 → 1 < enabled.toNat → AnswersWith one s tag 0x17 (.refused .range 3) s.part) ∧
    (1 ≤ a → a ≤ 48 → enabled.toNat ≤ 1 → 11 < zone.toNat → AnswersWith one s tag 0x17 (.refused .index 4) s.part) ∧
    (Answers (.stationWriteMaskEnable tag mask) s tag 0x17 (.done 0 [BitVec.ofNat 8 toEnable.length]) fun q =>
        (∀ k < 48, k ∈ toEnable → StationEnabled q (k + 1)) ∧
        (∀ k < 48, k ∉ toEnable → q.station (k + 1) = s.part.station (k + 1)) ∧ q.link.unsaved = true ∧
        ChangesOnly [.doorLine, .settings, .replies] s.part q) ∧
    (Answers (.stationWriteMaskDisable tag mask) s tag 0x17 (.done 0 [BitVec.ofNat 8 toDisable.length]) fun q =>
        (∀ k < 48, k ∈ toDisable → StationDisabled q (k + 1)) ∧
        (∀ k < 48, k ∉ toDisable → SameButPending (s.part.station (k + 1)) (q.station (k + 1))) ∧ q.link.unsaved = true ∧
        Posts (toDisable.flatMap fun k => leaveTold (k + 1) (s.part.station (k + 1)) .disabled .disabled) s.part q ∧
        q.due = s.part.due ++ toDisable.flatMap (fun k => leaveHanded s.part (k + 1)) ∧
        DemandsEnd s.part q (fun b => b - 1 ∈ toDisable) ∧
        ChangesOnly [.doorLine, .conditioner, .settings, .replies, .notices, .handed] s.part q)

/-- The fields a door byte reports. -/
def doorFields (b : Byte) : Reported :=
  { position :=
      if b.toNat / 64 = 0 then .closed else if b.toNat / 64 = 1 then .moving else if b.toNat / 64 = 2 then .opened
      else .fault
    trailer := b.getLsbD 5, restraint := b.getLsbD 4, stage := min 2 (b.toNat / 4 % 4), light := b.getLsbD 1 }

/-- The door state that a door byte gives a PRESENT station. -/
def doorOf (b : Byte) : DoorState :=
  if b.toNat / 64 = 0 then .closed else if b.toNat / 64 = 3 then .unknown else .opened

/-- The docked status that a door byte gives a PRESENT station. -/
def dockedOf (b : Byte) : Bool := decide (doorOf b = .opened) && b.getLsbD 5 && b.getLsbD 4

/-- Station a of q has taken a door byte that found it as st. -/
def DoorByteTaken (st : Station) (q : Part) (a : Nat) (b : Byte) : Prop :=
  let n := q.station a
  n.reported = some (doorFields b) ∧ n.door = doorOf b ∧ n.docked = dockedOf b ∧
    n.opens = (if st.door = .closed ∧ doorOf b = .opened then min 65535 (st.opens + 1) else st.opens) ∧
    (st.door ≠ .opened → doorOf b = .opened → dockedOf b = false → n.watch = some 0) ∧
    (st.door = .opened → doorOf b ≠ .opened → n.watch = none)

/-- A station frame from an enabled station: the station is PRESENT with its silence timer started and its result ACCEPTED,
its record takes the frame's content, STATION, DOOR_OPEN_LONG and DOOR are posted as the rules and the mask have them, and
the answer is formed from its commanded outputs; from any other address it is counted as NOT_ACCEPTED; and a STUCK line
receives nothing. A frame that comes while one of the controller's is in flight finds that one ended by a missing answer
first. The events taken before the answer is formed, a frame that ends a flight, a STUCK line that takes no frame, a door
left UNKNOWN by a PRESENCE_REPORT, an entry that waits and joins no lead pulse, a frame told on a CLEARING line, and the
place of a HELLO or CONDITION notice before or after DOOR are the model's choice (log entries 35, 37, 36, 68, 86, 87 and 24).
A station's commanded outputs follow its curtain demand, the state of its CURTAIN load and its door. -/
def Obligations.StationFramesAreTakenAndAnswered : Prop :=
  (∀ (p : Part) (a : Nat), 1 ≤ a → a ≤ 48 →
    let o := p.formedOutputs a
    let demand := (p.station a).demand
    let heats := ∃ i < 128, (p.lb.load i).cfg.kind = .curtain ∧ (p.lb.load i).cfg.owner = some a ∧ (p.lb.load i).state = .on
    o.light = decide ((p.station a).door = .opened) ∧ (demand = 2 → heats → o.stage = 2) ∧
      (demand = 2 → ¬ heats → o.stage = 1) ∧ (demand = 1 → o.stage = 1) ∧ (demand = 0 → o.stage = 0)) ∧
  (∀ (s : State) (address door condition kind revision motion : Byte) (early : List Early), s.part.running = true →
    let a := address.toNat
    let st := s.part.station a
    let dl := s.part.dl
    let frames := [Instr.doorReport address door early, .hello address kind revision door early,
      .statusReport address door condition early, .presenceReport address motion]
    (dl.line = .stuck → ∀ i ∈ frames, Becomes i s s.part) ∧
    (dl.line ≠ .stuck → dl.flying = none → 1 ≤ a → a ≤ 48 → st.state ≠ .disabled →
      let heard := fun (q : Part) =>
        let n := q.station a
        n.state = .present ∧ n.silence = some dl.timeout ∧ n.noAnswers = 0 ∧ n.lastResult = some .accepted ∧
          n.cfg = st.cfg ∧ q.dl.errors = dl.errors ∧ q.dl.line = (if dl.line = .ready then .busy else dl.line) ∧
          (dl.line ≠ .dead →
            let o := (q.formedOutputs a).byte
            n.lastFormed = q.formedOutputs a ∧ q.dl.answering = some { address := a, bytes := [o, crc8 [o]] })
      let doorFrame := fun (q : Part) => heard q ∧ DoorByteTaken st q a door ∧
        (early = [] →
          (st.door ≠ doorOf door ∨ st.docked ≠ dockedOf door →
            .evaluate st.cfg.zone ∈ q.due ∧ .demand (s.part.zone st.cfg.zone).cfg.group ∈ q.due) ∧
          (∀ b, 1 ≤ b → b ≤ 48 → b ≠ a → q.station b = s.part.station b) ∧
          ChangesOnly [.doorLine, .notices, .handed] s.part q)
      let doorTold := doorTold a st (doorOf door) (dockedOf door) (dl.limit st.cfg.zone)
      let present := stationTold a st.state .present .frame (some .accepted)
      let kept := fun (b : Prop) [Decidable b] (cause : StationCause) (last : Byte) =>
        told b .station a (u8 StationState.present.code ++ u8 StationState.present.code ++ u8 cause.code ++ [last])
      Ends (.doorReport address door early) s (fun q => doorFrame q ∧
        (q.station a).condition = st.condition ∧ (early = [] → Posts (present ++ doorTold) s.part q)) ∧
      Ends (.hello address kind revision door early) s
        (fun q => doorFrame q ∧ (q.station a).stationType = some kind ∧ (q.station a).revision = some revision ∧
          (early = [] → Posts (kept (st.state = .present) .hello kind ++ present ++ doorTold) s.part q)) ∧
      Ends (.statusReport address door condition early) s
        (fun q => doorFrame q ∧ (q.station a).condition = some condition ∧
          (early = [] →
            Posts (present ++ doorTold ++ kept (st.condition ≠ none ∧ st.condition ≠ some condition) .condition condition)
              s.part q)) ∧
      (st.cfg.zone < 12 →
        Ends (.presenceReport address motion) s fun q =>
          heard q ∧ (q.station a).motion = min 65535 (st.motion + motion.toNat) ∧ (q.station a).door = st.door ∧
            (q.zone st.cfg.zone).presence = some (s.part.cal.running.header.presenceHold * 60) ∧
            (q.zone st.cfg.zone).evaluated = (s.part.zone st.cfg.zone).evaluated ∧
            (q.zone st.cfg.zone).lightGuard = true ∧ LightFollows s.part q st.cfg.zone true ∧
            (∀ z < 12, z ≠ st.cfg.zone → q.zone z = s.part.zone z) ∧
            (∀ b, 1 ≤ b → b ≤ 48 → b ≠ a → q.station b = s.part.station b) ∧
            Posts present s.part q ∧ ChangesOnly [.doorLine, .conditioner, .notices, .handed] s.part q)) ∧
    (dl.line ≠ .stuck → dl.flying = none → a = 0 ∨ 48 < a ∨ st.state = .disabled → ∀ i ∈ frames,
      Ends i s fun q =>
        q.dl.errors = min 65535 (dl.errors + 1) ∧ (dl.line ≠ .dead → q.dl.answering = none) ∧
        (1 ≤ a → a ≤ 48 → q.station a = { st with lastResult := some .notAccepted }) ∧
        (∀ b, 1 ≤ b → b ≤ 48 → b ≠ a → q.station b = s.part.station b) ∧ q.dl.queue = dl.queue ∧
        ChangesOnly [.doorLine] s.part q) ∧
    (dl.line ≠ .stuck → dl.line ≠ .dead → dl.flying.isSome = true →
      (∀ i ∈ frames, ∀ t, s.part.link.transmitter ≠ .idle → exec .noAnswer s = .next t → exec i s = exec i t) ∧
      (1 ≤ a → a ≤ 48 → st.state ≠ .disabled → ∀ i ∈ frames,
        Ends i s fun q =>
          let n := q.station a
          n.state = .present ∧ n.silence = some dl.timeout ∧ n.noAnswers = 0 ∧ n.lastResult = some .accepted ∧
            n.cfg = st.cfg ∧ (∀ x ∈ q.dl.queue, x.inFlight = false) ∧ q.dl.sending = none ∧
            q.dl.answering = some { address := a, bytes := [(q.formedOutputs a).byte, crc8 [(q.formedOutputs a).byte]] })))

/-- A span of a bit at a level lies in its window: short, 28 to 56 microseconds, for a driven 0 and a released 1, long, 60 to
100, for the others. -/
def SpanFits (driven bit : Bool) (d : Nat) : Prop := if bit = driven then 60 ≤ d ∧ d ≤ 100 else 28 ≤ d ∧ d ≤ 56

/-- Spans that carry bytes: eight to a byte, the first released, each within the window of its bit. -/
def SpansCarry (spans : List Nat) (bytes : List Byte) : Prop :=
  spans.length = 8 * bytes.length ∧
    ∀ n k b d, bytes[n]? = some b → k < 8 → spans[8 * n + k]? = some d → SpanFits (decide (k % 2 = 1)) (b.getLsbD (7 - k)) d

/-- Spans of a byte in progress, each within a window of a bit. -/
def SpansLoose (spans : List Nat) : Prop := spans.length < 8 ∧ ∀ d ∈ spans, 28 ≤ d ∧ d ≤ 56 ∨ 60 ≤ d ∧ d ≤ 100

/-- A span that fits no window for its place within the bytes of a frame: no bit, no data close, no line clear, no stuck line
and no rest. -/
def SpanMisfits (driven : Bool) (d : Nat) : Prop :=
  d < 28 ∨ 56 < d ∧ d < 60 ∨ 100 < d ∧ (if driven then d < 300 else d < 130 ∨ 210 < d ∧ d < 220)

/-- Spans, the first of this level, that are no line clear, no stuck line and no rest: what follows the end of a frame and is
ignored. -/
def SpansIgnored (driven : Bool) (spans : List Nat) : Prop :=
  ∀ (k d : Nat), spans[k]? = some d → d < (if decide (k % 2 = 0) = driven then 300 else 220)

/-- The row of a driven span of 300 microseconds or more. -/
def longDrive (d : Nat) : Instr := if d ≤ 2000 then .lineClearReceived else .lineStuck

/-- The rows of a rest and of the spans that follow it, which are those of a next frame. -/
def restThen (more : List Nat) : List Instr :=
  .lineRest :: if more = [] then [] else [.stationFrameRejected (.frame more)]

/-- A driven span of 300 microseconds or more, or a released one of 220 or more, after spans that are told by these rows. -/
def Continues (row : List Nat → Instr) (s : State) (told : List Nat) (rows : List Instr) (driven : Bool) : Prop :=
  ∀ (d : Nat) (more : List Nat),
    (driven = true → 300 ≤ d → SpansIgnored false more →
      exec (row (told ++ d :: more)) s = execAll s (rows ++ [longDrive d])) ∧
    (driven = false → 220 ≤ d → exec (row (told ++ d :: more)) s = execAll s (rows ++ restThen more))

/-- A frame is sent as its lead pulse, its bytes and its data close, and an answer as its answer mark and its bytes, each bit
by the symbol of its level, the first released and the last driven; spans within their windows, at their nominal length or
off it, read back as the bytes; a good station frame by its spans is the station frame itself; a frame with a symbol error (a
rest before its close or a span outside every window for its place), a close after an incomplete byte, a wrong length, a
wrong check or a kind that only the controller sends is counted, with the first of those results recorded for its station;
one whose lead pulse fits no window, or whose header did not arrive whole, is dropped and not counted; and at any place, within
a frame or after its end, a driven span of 300 microseconds to 2 ms is a line clear, a longer one a stuck line, and a released
one of 220 a rest, after which a next frame may follow. That STATION_FRAME_REJECTED carries the spans, a driven span of exactly
2000 microseconds as a line clear, and a frame told on a CLEARING line or beside an entry that waits, are the model's choice
(log entries 34, 66, 86 and 87). -/
def Obligations.SpansAreReadAndJudged : Prop :=
  (∀ bytes : List Byte,
    sendFrame bytes = 160 :: (sendBytes bytes ++ [160]) ∧ sendAnswer bytes = 80 :: sendBytes bytes ∧
    (sendBytes bytes).length = 8 * bytes.length ∧
    (∀ n k b, bytes[n]? = some b → k < 8 →
      (sendBytes bytes)[8 * n + k]? =
        some (if k % 2 = 0 then (if b.getLsbD (7 - k) then 40 else 80) else (if b.getLsbD (7 - k) then 80 else 40))) ∧
    readFrame (sendFrame bytes) = [.frame { bytes := bytes, loose := 0, ending := .closed }] ∧
    ∀ close, 130 ≤ close → close ≤ 210 →
      readAnswer (close :: sendAnswer bytes) = [.answer { bytes := bytes, loose := 0, ending := .rested }] ∧
      ∀ spans, SpansCarry spans bytes →
        (∀ mark, 60 ≤ mark → mark ≤ 100 →
          readAnswer (close :: mark :: spans) = [.answer { bytes := bytes, loose := 0, ending := .rested }]) ∧
        ∀ lead, 130 ≤ lead → lead ≤ 200 →
          readFrame (lead :: (spans ++ [close])) = [.frame { bytes := bytes, loose := 0, ending := .closed }] ∧
          ∀ s : State, exec (.stationFrameRejected (.frame (lead :: (spans ++ [close])))) s =
            exec (.stationFrameRejected (.frame (sendFrame bytes))) s) ∧
  (∀ (s : State) (address door condition kind revision motion : Byte),
    let frame := fun (header : Byte) (data : List Byte) =>
      let body := header :: address :: data
      Instr.stationFrameRejected (.frame (sendFrame (body ++ [crc8 body])))
    exec (frame 0xC1 [door]) s = exec (.doorReport address door []) s ∧
    exec (frame 0xA2 [kind, revision, door]) s = exec (.hello address kind revision door []) s ∧
    exec (frame 0x45 [motion]) s = exec (.presenceReport address motion) s ∧
    exec (frame 0x26 [door, condition]) s = exec (.statusReport address door condition []) s) ∧
  (∀ (s : State) (header address check : Byte) (data : List Byte), s.part.running = true → s.part.dl.line ≠ .stuck →
    s.part.dl.flying = none →
    let a := address.toNat
    let body := header :: address :: data
    let bytes := body ++ [check]
    let judged := fun (spans : List Nat) (result : RxResult) =>
      Ends (.stationFrameRejected (.frame spans)) s fun q =>
        q.dl.errors = min 65535 (s.part.dl.errors + 1) ∧
        (1 ≤ a → a ≤ 48 → q.station a = { s.part.station a with lastResult := some result }) ∧
        (∀ b, 1 ≤ b → b ≤ 48 → b ≠ a → q.station b = s.part.station b) ∧ q.dl.queue = s.part.dl.queue ∧
        ChangesOnly [.doorLine] s.part q
    judged (160 :: sendBytes bytes) .symbolError ∧
    (∀ (loose : List Nat) (close : Nat), SpansLoose loose → loose.length = 2 ∨ loose.length = 4 ∨ loose.length = 6 →
      130 ≤ close → close ≤ 210 → judged (160 :: (sendBytes bytes ++ loose ++ [close])) .lengthError) ∧
    (dataBytes header ≠ some data.length → judged (sendFrame bytes) .lengthError) ∧
    (dataBytes header = some data.length → check ≠ crc8 body → judged (sendFrame bytes) .checkError) ∧
    (header = 0x83 ∨ header = 0x64 → dataBytes header = some data.length → check = crc8 body →
      judged (sendFrame bytes) .notAccepted)) ∧
  (∀ (s : State) (lead bad : Nat) (spans loose rest : List Nat) (got : List Byte), s.part.running = true →
    s.part.dl.line ≠ .stuck → s.part.dl.flying = none → SpansCarry spans got → SpansLoose loose →
    SpanMisfits (decide (loose.length % 2 = 1)) bad → SpansIgnored (decide (loose.length % 2 = 0)) rest → 130 ≤ lead →
    lead ≤ 200 →
    let dl := s.part.dl
    let heard := { s.part with dl := { dl with line := if dl.line = .ready then .busy else dl.line } }
    ∀ tail ∈ [[], bad :: rest],
    let frame := fun (lead : Nat) => Instr.stationFrameRejected (.frame (lead :: (spans ++ loose ++ tail)))
    (∀ wrong, wrong < 130 ∨ 200 < wrong → wrong < 300 → Becomes (frame wrong) s heard) ∧
    (got = [] → Becomes (frame lead) s heard) ∧
    (got ≠ [] →
      Ends (frame lead) s fun q =>
        q.dl.errors = min 65535 (dl.errors + 1) ∧
        (∀ a, 1 ≤ a → a ≤ 48 → got[1]? = some (BitVec.ofNat 8 a) →
          q.station a = { s.part.station a with lastResult := some .symbolError }) ∧
        (∀ a, 1 ≤ a → a ≤ 48 → got[1]? ≠ some (BitVec.ofNat 8 a) → q.station a = s.part.station a) ∧
        q.dl.queue = dl.queue ∧ ChangesOnly [.doorLine] s.part q)) ∧
  (∀ (s : State) (lead wrong bad close : Nat) (spans loose ignored : List Nat) (got : List Byte), SpansCarry spans got →
    SpansLoose loose → SpanMisfits (decide (loose.length % 2 = 1)) bad → 130 ≤ lead → lead ≤ 200 →
    wrong < 130 ∨ 200 < wrong → wrong < 300 → 130 ≤ close → close ≤ 210 →
    let row := fun (spans : List Nat) => Instr.stationFrameRejected (.frame spans)
    let going := lead :: (spans ++ loose)
    Continues row s [] [] true ∧
    Continues row s going (if loose.length % 2 = 1 then [] else [row going]) (decide (loose.length % 2 = 1)) ∧
    ∀ told ∈ [[wrong], going ++ [bad], lead :: (spans ++ [close])], SpansIgnored (decide (told.length % 2 = 0)) ignored →
      Continues row s (told ++ ignored) [row told] (decide ((told ++ ignored).length % 2 = 0)))

/-- The refill of R87 on controller d: with no PRESENT station pending it changes nothing. The lowest such station, with no
entry of its own and a place free, has a SET_OUTPUTS entry appended and is pending no more, which ends the refill; with an
entry waiting, that becomes SET_OUTPUTS in its place, the station is pending no more, and the refill goes on; with its entry
in flight, or with no entry and all 16 places taken, it stays pending, and the refill goes on as it would without it (R85).
The other records stay. -/
def RefillFollows (d : DoorLine) : Prop :=
  let wants := fun a => (d.station a).pending = true ∧ (d.station a).state = .present
  ((∀ a, 1 ≤ a → a ≤ 48 → ¬ wants a) → d.refill = d) ∧
  (∀ a, 1 ≤ a → a ≤ 48 → wants a → (∀ b, 1 ≤ b → b < a → ¬ wants b) → (∀ x ∈ d.queue, x.address ≠ a) →
    d.queue.length < 16 →
    d.refill =
      { d.setStation a { d.station a with pending := false } with
        queue := d.queue ++ [{ address := a, kind := .setOutputs, inFlight := false, orphan := false }] }) ∧
  (∀ a, 1 ≤ a → a ≤ 48 → wants a → (∀ b, 1 ≤ b → b < a → ¬ wants b) →
    let own := d.queue.filter fun x => decide (x.address = a)
    let pending := fun (l : DoorLine) (flag : Bool) => l.setStation a { l.station a with pending := flag }
    (own ≠ [] → (∀ x ∈ own, x.inFlight = false) →
      d.refill =
        DoorLine.refill { pending d false with
          queue := d.queue.map fun (x : OutEntry) => if x.address = a then { x with kind := .setOutputs } else x }) ∧
    (own ≠ [] ∧ (∀ x ∈ own, x.inFlight = true) ∨ own = [] ∧ 16 ≤ d.queue.length →
      d.refill = pending (pending d false).refill true))

/-- A good answer to the frame in flight is handed to its station's record, with the notices of a frame, and its entry leaves
the queue, which is refilled (with a pending station that has an entry waiting merged into it, and one that has its entry in
flight, or finds no place, left pending); a faulty one, by its bytes, its check or its spans, is a missing answer; the third
missing answer in a row takes the entry from the queue and silences the station, with STATION and DOOR posted as the rules and
the mask have them, an earlier one sends the entry back to waiting; an answer for a station disabled meanwhile ends the flight
alone. At any place among the spans of an answer, and after it has failed, a driven span of 300 microseconds to 2 ms is a line
clear, a longer one a stuck line, and a released one of 220 a rest. ANSWER_SENT ends the controller's own answer, with the
waiting SET_OUTPUTS that it made needless. A door that changes by a good answer or a third missing one is handed on for its
zone's evaluation and its group's demand, in the list of due events (log entries 2 and 4). That STATION_FRAME_REJECTED carries
the spans of an answer as well, the order of refill and silence, what ends a disabled station's flight, also one flown again
after its entry had returned to waiting, a driven span of exactly 2000 microseconds as a line clear, and a CONDITION notice
after DOOR, are the model's choice (log entries 75, 39, 41, 99, 66 and 24). -/
def Obligations.AnswersEndTheirFrames : Prop :=
  (∀ d : DoorLine, RefillFollows d) ∧
  (∀ (s : State) (door condition check : Byte) (spans : List Nat), s.part.running = true →
    let dl := s.part.dl
    (dl.flying = none → Becomes (.queryAnswer door condition check) s s.part ∧
      Becomes (.setOutputsAnswer door check) s s.part ∧ Becomes .noAnswer s s.part ∧
      Becomes (.stationFrameRejected (.answer spans)) s s.part) ∧
    (∀ e rest, dl.queue = e :: rest → e.inFlight = true → (∀ x ∈ rest, x.inFlight = false ∧ x.address ≠ e.address) →
      1 ≤ e.address → e.address ≤ 48 →
      let a := e.address
      let st := s.part.station a
      let heard := e.orphan = false ∧ st.state ≠ .disabled
      let withDl := fun (d : DoorLine) => { s.part with dl := d }
      let ends := fun (d : DoorLine) => ({ d with queue := rest, sending := none }).refill
      let good := fun (q : Part) => ∃ d : DoorLine, q.dl = ends d ∧ d = { dl with stations := d.stations } ∧
        (∀ b, 1 ≤ b → b ≤ 48 → b ≠ a → d.station b = s.part.station b) ∧
        (d.station a).state = .present ∧ (d.station a).silence = some dl.timeout ∧ (d.station a).noAnswers = 0 ∧
        (d.station a).cfg = st.cfg ∧ DoorByteTaken st q a door ∧
        q.due = s.part.due ++ doorHanded s.part a (doorOf door) (dockedOf door) ∧
        ChangesOnly [.doorLine, .notices, .handed] s.part q
      let present := stationTold a st.state .present .answer st.lastResult ++
        doorTold a st (doorOf door) (dockedOf door) (dl.limit st.cfg.zone)
      (e.kind = .query → check = crc8 [door, condition] →
        (heard → Ends (.queryAnswer door condition check) s fun q =>
          good q ∧ (q.station a).condition = some condition ∧
            Posts (present ++ told (st.condition ≠ none ∧ st.condition ≠ some condition) .station a
              (u8 StationState.present.code ++ u8 StationState.present.code ++ u8 StationCause.condition.code ++ [condition]))
              s.part q) ∧
        (¬ heard → Becomes (.queryAnswer door condition check) s (withDl (ends dl)))) ∧
      (e.kind = .setOutputs → check = crc8 [door] →
        (heard → Ends (.setOutputsAnswer door check) s fun q =>
          good q ∧ (q.station a).condition = st.condition ∧ Posts present s.part q) ∧
        (¬ heard → Becomes (.setOutputsAnswer door check) s (withDl (ends dl)))) ∧
      (e.kind ≠ .query ∨ check ≠ crc8 [door, condition] →
        exec (.queryAnswer door condition check) s = exec .noAnswer s) ∧
      (e.kind ≠ .setOutputs ∨ check ≠ crc8 [door] → exec (.setOutputsAnswer door check) s = exec .noAnswer s) ∧
      (heard → st.noAnswers < 2 →
        Becomes .noAnswer s
          (withDl { dl.setStation a { st with noAnswers := st.noAnswers + 1 } with
            queue := dl.queue.map fun x => { x with inFlight := false, orphan := false }, sending := none })) ∧
      (heard → 2 ≤ st.noAnswers →
        Ends .noAnswer s fun q =>
          let d := ends (dl.setStation a { st with noAnswers := 0 })
          q.dl = { d with stations := q.dl.stations } ∧
          (∀ b, 1 ≤ b → b ≤ 48 → b ≠ a → q.station b = d.station b) ∧ (q.station a).noAnswers = 0 ∧
          (st.state = .present →
            (q.station a).state = .silent ∧ (q.station a).silence = none ∧ (q.station a).door = .unknown ∧
            (q.station a).docked = false) ∧
          (st.state = .present →
            Posts (leaveTold a st .silent .noAnswer) s.part q ∧ q.due = s.part.due ++ doorHanded s.part a .unknown false) ∧
          (st.state ≠ .present → q.dl = d ∧ q.due = s.part.due ∧ Posts [] s.part q) ∧
          ChangesOnly [.doorLine, .notices, .handed] s.part q) ∧
      (¬ heard → Becomes .noAnswer s (withDl (ends dl))) ∧
      (∀ close bytes, 130 ≤ close → close ≤ 210 →
        (e.kind = .query → exec (.stationFrameRejected (.answer (close :: sendAnswer [door, condition, check]))) s =
          exec (.queryAnswer door condition check) s) ∧
        (e.kind = .setOutputs → exec (.stationFrameRejected (.answer (close :: sendAnswer [door, check]))) s =
          exec (.setOutputsAnswer door check) s) ∧
        (bytes.length ≠ (match e.kind with
          | .query => 3
          | .setOutputs => 2) → exec (.stationFrameRejected (.answer (close :: sendAnswer bytes))) s = exec .noAnswer s)) ∧
      (∀ close mark, close < 220 → mark < 300 → close < 130 ∨ 210 < close ∨ mark < 60 ∨ 100 < mark →
        SpansIgnored false spans →
        exec (.stationFrameRejected (.answer (close :: mark :: spans))) s = exec .noAnswer s) ∧
      (∀ (close wrong carry bare : Nat) (carried loose ignored : List Nat) (bad : Nat) (got : List Byte),
        130 ≤ close → close ≤ 210 → 60 ≤ carry → carry ≤ 100 → SpansCarry carried got → SpansLoose loose →
        SpanMisfits (decide (loose.length % 2 = 1)) bad ∨ loose.length % 2 = 0 ∧ 130 ≤ bad ∧ bad < 220 →
        wrong < 130 ∨ 210 < wrong ∧ wrong < 220 → bare < 60 ∨ 100 < bare ∧ bare < 300 →
        let row := fun (spans : List Nat) => Instr.stationFrameRejected (.answer spans)
        let going := close :: carry :: (carried ++ loose)
        (SpansIgnored (decide (loose.length % 2 = 0)) spans → exec (row (going ++ bad :: spans)) s = exec .noAnswer s) ∧
        Continues row s [] [.noAnswer] false ∧
        Continues row s [close] [] true ∧
        Continues row s going (if loose.length % 2 = 1 then [] else [row going]) (decide (loose.length % 2 = 1)) ∧
        ∀ told ∈ [[wrong], [close, bare], going ++ [bad]], SpansIgnored (decide (told.length % 2 = 1)) ignored →
          Continues row s (told ++ ignored) [.noAnswer] (decide ((told ++ ignored).length % 2 = 1))))) ∧
  (∀ s : State, s.part.running = true →
    let dl := s.part.dl
    (dl.answering = none → Becomes .answerSent s s.part) ∧
    (∀ ans, dl.answering = some ans → 1 ≤ ans.address → ans.address ≤ 48 →
      let a := ans.address
      let st := s.part.station a
      let needless := fun (x : OutEntry) => decide (x.address = a) && decide (x.kind = .setOutputs) && !x.inFlight
      let d := { dl with answering := none }.setStation a { st with pending := false }
      let left := if dl.queue.any needless then ({ d with queue := dl.queue.filter fun x => !needless x }).refill else d
      (s.part.formedOutputs a = st.lastFormed →
        Becomes .answerSent s { s.part with dl := left } ∧
        (left.station a).pending = false ∧
        ∀ x ∈ left.queue, x.address = a → x.kind = .query ∨ x.inFlight = true) ∧
      (s.part.formedOutputs a ≠ st.lastFormed →
        Becomes .answerSent s { s.part with dl := (left.requestOutputs a).1 } ∧
        (st.state = .present →
          ((left.requestOutputs a).1.station a).pending = true ∨
            ∃ x ∈ (left.requestOutputs a).1.queue, x.address = a ∧ x.kind = .setOutputs))))

/-- The effects of a line clear: the queue is emptied, what is being sent is abandoned, and every enabled station is ABSENT
with its door UNKNOWN and its open watch stopped, its curtain demand 0 and its run-on cancelled. Its commanded outputs are
formed afresh, and its pending flag is cleared unless they change (R83, R112). A station whose outputs stood off beside a
demand other than 0, which no run leaves, is pending too where its door changes: they are formed at that change and again as
the demand goes. The rest of its record is kept, the outputs last formed among it (log entry 95). The changes of the doors are
handed on and the curtain heat requests withdrawn, in ascending address; of the rest only the pieces in more may change. -/
def LineCleared (p q : Part) (more : List Piece) : Prop :=
  q.dl.queue = [] ∧ q.dl.sending = none ∧ q.dl.answering = none ∧ q.dl.errors = p.dl.errors ∧
    (∀ a, 1 ≤ a → a ≤ 48 →
      let n := q.station a
      let st := p.station a
      (st.state ≠ .disabled →
        n = { st with
          state := .absent, silence := none, door := .unknown, docked := false, watch := n.watch, demand := 0, noAnswers := 0
          commanded := { stage := 0, light := false }, pending := n.pending } ∧
        (st.door ≠ .unknown ∨ st.docked = true → n.watch = none) ∧
        (n.pending = true ↔
          st.commanded ≠ { stage := 0, light := false } ∨ st.demand ≠ 0 ∧ (st.door ≠ .unknown ∨ st.docked = true))) ∧
      (st.state = .disabled → n = { st with pending := false, noAnswers := 0 })) ∧
    q.due = p.due ++ (List.range 48).flatMap (fun k =>
      if (p.station (k + 1)).state = .disabled then [] else leaveHanded p (k + 1)) ∧
    DemandsEnd p q (fun a => (p.station a).state ≠ .disabled) ∧
    ChangesOnly (.doorLine :: .conditioner :: .notices :: .handed :: more) p q

/-- LINE_RESET sends a line clear on a READY, BUSY or STUCK line, finds one being sent on a CLEARING line, and is refused on a
DEAD line; a line clear received clears on a READY, BUSY or DEAD line; and the release of a STUCK line with its rest, told by
STUCK_RELEASE or by LINE_REST, clears and readies it. Every clear posts STATION and DOOR of the stations that leave, and the
last LINE, STUCK to READY, after them, as the mask admits them. Every clear clears the pending flag of every station, and sets
that of an enabled one whose commanded outputs change as they are formed afresh. Every clear hands on the changes of the doors
and withdraws the curtain heat requests. That these wait in the list of due events in ascending address, and that a clear
keeps the outputs last formed, is the model's choice (log entries 2, 4 and 95). So are the field number 0 of the STATE refusal
on a DEAD line, that a line clear told on a STUCK line changes nothing, and that LINE_REST there is the rest after the release
(log entries 17 and 36). -/
def Obligations.ALineClearEmptiesTheLine : Prop :=
  ∀ (s : State) (tag : Byte),
    let line := s.part.dl.line
    (s.Ready →
      (line = .ready ∨ line = .busy →
        Answers (.lineReset tag) s tag 0x19 (.done 0 []) fun q =>
          LineCleared s.part q [.replies] ∧ q.dl.line = .clearing ∧ Posts (clearTold s.part) s.part q) ∧
      (line = .stuck → Answers (.lineReset tag) s tag 0x19 (.done 0 []) fun q =>
        LineCleared s.part q [.replies] ∧ q.dl.line = .stuck ∧ Posts (clearTold s.part) s.part q) ∧
      (line = .clearing → AnswersWith (.lineReset tag) s tag 0x19 (.done 0 []) s.part) ∧
      (line = .dead → AnswersWith (.lineReset tag) s tag 0x19 (.refused .state 0) s.part)) ∧
    (s.part.running = true →
      (line = .ready ∨ line = .busy → Ends .lineClearReceived s fun q =>
        LineCleared s.part q [] ∧ q.dl.line = .busy ∧ Posts (clearTold s.part) s.part q) ∧
      (line = .dead → Ends .lineClearReceived s fun q =>
        LineCleared s.part q [] ∧ q.dl.line = .dead ∧ Posts (clearTold s.part) s.part q) ∧
      (line = .clearing ∨ line = .stuck → Becomes .lineClearReceived s s.part) ∧
      (line = .stuck → ∀ i ∈ [Instr.stuckRelease, .lineRest], Ends i s fun q =>
        LineCleared s.part q [] ∧ q.dl.line = .ready ∧ q.ledLine = false ∧
          Posts (clearTold s.part ++ lineTold .stuck .ready s.part.dl.errors) s.part q) ∧
      (line ≠ .stuck → Becomes .stuckRelease s s.part))

/-- The line's states and the controller's frames: a frame starts on a READY line with its payload formed then; another's
driving edge makes it BUSY; lost arbitration sends the entry back; a rest readies a BUSY or CLEARING line; STUCK and DEAD
abandon what is sent; and a DEAD line is left by a probe that is heard; each change into STUCK or DEAD, and out of DEAD, posts
LINE with the old state, the new one and the error count, as the mask admits it, and LED_LINE is lit while the line is STUCK
or DEAD. What the rows are on a STUCK or DEAD line, the missing answer at a rest, BUSY as the old state of a READY line that
goes STUCK, the operands of the probe, a probe row that acts whatever its second has left, the entry that returns from a
flight to waiting as the line goes STUCK or DEAD, and the entry of a station disabled during the flight, which loses its mark
and returns to waiting by lost arbitration and by STUCK and DEAD alike, are the model's choice (log entries 36, 37, 38, 42,
77, 67 and 99). -/
def Obligations.TheLineMovesBetweenItsStates : Prop :=
  ∀ s : State, s.part.running = true →
    let dl := s.part.dl
    let waiting := dl.queue.map fun e => { e with inFlight := false, orphan := false }
    let frame := fun (header : Byte) (address : Nat) (data : List Byte) =>
      let body := header :: BitVec.ofNat 8 address :: data
      some (body ++ [crc8 body])
    (∀ i ∈ [Instr.frameStart, .drivingEdge],
      (dl.line ≠ .ready → Becomes i s s.part) ∧
      (∀ e rest, dl.line = .ready → dl.queue = e :: rest → e.kind = .query →
        Becomes i s
          { s.part with
            dl :=
              { dl with
                queue := { e with inFlight := true, orphan := false } :: rest, line := .busy
                sending := frame 0x64 e.address [] } }) ∧
      (∀ e rest, dl.line = .ready → dl.queue = e :: rest → e.kind = .setOutputs → 1 ≤ e.address → e.address ≤ 48 →
        Ends i s fun q =>
          let o := s.part.formedOutputs e.address
          q.dl.queue = { e with inFlight := true, orphan := false } :: rest ∧ q.dl.line = .busy ∧
          q.dl.sending = frame 0x83 e.address [o.byte] ∧
          q.station e.address = { s.part.station e.address with pending := false, lastFormed := o } ∧
          (∀ b, 1 ≤ b → b ≤ 48 → b ≠ e.address → q.station b = s.part.station b) ∧
          ChangesOnly [.doorLine] s.part q)) ∧
    (dl.line = .ready → dl.queue = [] →
      Becomes .frameStart s s.part ∧ Becomes .drivingEdge s { s.part with dl := { dl with line := .busy } }) ∧
    Becomes .arbitrationLost s { s.part with dl := { dl with queue := waiting, sending := none } } ∧
    (dl.line = .ready ∨ dl.line = .dead → Becomes .lineRest s s.part) ∧
    (dl.line = .busy ∨ dl.line = .clearing → dl.flying = none →
      Becomes .lineRest s { s.part with dl := { dl with answering := none, line := .ready } }) ∧
    (dl.line = .busy ∨ dl.line = .clearing → dl.flying.isSome = true →
      Ends .lineRest s fun q =>
        q.dl.line = .ready ∧ q.dl.answering = none ∧ q.dl.sending = none ∧ ∀ e ∈ q.dl.queue, e.inFlight = false) ∧
    (dl.line = .stuck ∨ dl.line = .dead → Becomes .lineStuck s s.part) ∧
    (dl.line ≠ .stuck → dl.line ≠ .dead →
      Ends .lineStuck s fun q =>
        q.dl = { dl with queue := waiting, sending := none, answering := none, line := .stuck } ∧ q.ledLine = true ∧
          Posts (lineTold (if dl.line = .ready then .busy else dl.line) .stuck dl.errors) s.part q ∧
          ChangesOnly [.doorLine, .notices] s.part q) ∧
    (dl.line = .dead → Becomes .lineDead s s.part) ∧
    (dl.line ≠ .dead →
      Ends .lineDead s fun q =>
        q.dl = { dl with queue := waiting, sending := none, answering := none, line := .dead, deadProbe := some 1 } ∧
          q.ledLine = true ∧
          Posts (lineTold dl.line .dead dl.errors) s.part q ∧ ChangesOnly [.doorLine, .notices] s.part q) ∧
    (∀ released echoed,
      (dl.line ≠ .dead → Becomes (.deadProbe released echoed) s s.part) ∧
      (dl.line = .dead → released = true → echoed = true →
        Ends (.deadProbe released echoed) s fun q =>
          q.dl = { dl with line := .busy, deadProbe := none } ∧ q.ledLine = false ∧
            Posts (lineTold .dead .busy dl.errors) s.part q ∧ ChangesOnly [.doorLine, .notices] s.part q) ∧
      (dl.line = .dead → released = false ∨ echoed = false →
        Becomes (.deadProbe released echoed) s { s.part with dl := { dl with deadProbe := some 1 } }))

/-- The timers of the door line and the phase hand-off: silence silences a PRESENT station; the probe cycle appends a QUERY,
while the queue has places, for every ABSENT or SILENT one without an entry, in ascending address; a second advances every
open watch, open time and silence timer; and the oldest limit handed for a zone is taken with the shift counters cleared at a
shift start. Silence posts STATION and then DOOR where the door changes, and a watch that reaches its limit, or finds a new
one reached, posts DOOR_OPEN_LONG once, as the mask admits them. That the row of a silence timer that has not run out changes
nothing, that the probe timer's row always acts, and that where no hand-off was made the limit is that of the phase last
handed, without a mark, and the notices of one second or one limit by address, are the model's choice (log entries 6, 77, 31
and 24). So is that what silence hands on of a changed door waits in the list of due events (log entries 2 and 4). -/
def Obligations.DoorTimersSilenceProbeAndCount : Prop :=
  ∀ s : State, s.part.running = true →
    let dl := s.part.dl
    let limitSent := fun (st : Station) (limit : Nat) =>
      st.limitSent || (match st.watch with
        | some w => decide (limit * 60 ≤ w)
        | none => false)
    (∀ a, 1 ≤ a → a ≤ 48 →
      let st := s.part.station a
      (st.silence ≠ some 0 ∨ st.state ≠ .present → Becomes (.silenceTimerExpiry a) s s.part) ∧
      (st.silence = some 0 → st.state = .present →
        Ends (.silenceTimerExpiry a) s fun q =>
          let n := q.station a
          n.state = .silent ∧ n.silence = none ∧ n.door = .unknown ∧ n.docked = false ∧ n.opens = st.opens ∧
          n.demand = st.demand ∧ n.cfg = st.cfg ∧
          q.due = s.part.due ++ doorHanded s.part a .unknown false ∧
          (∀ b, 1 ≤ b → b ≤ 48 → b ≠ a → q.station b = s.part.station b) ∧
          Posts (leaveTold a st .silent .silence) s.part q ∧ ChangesOnly [.doorLine, .notices, .handed] s.part q)) ∧
    (let wanted := ((List.range 48).map (· + 1)).filter fun a =>
        decide (((s.part.station a).state = .absent ∨ (s.part.station a).state = .silent) ∧ ∀ e ∈ dl.queue, e.address ≠ a)
      let queries := (wanted.take (16 - dl.queue.length)).map fun a =>
        OutEntry.mk a .query false false
      Becomes .probeTimerExpiry s { s.part with dl := { dl with probeTimer := 30, queue := dl.queue ++ queries } }) ∧
    (Ends .doorSecondTick s fun q =>
      (∀ a, 1 ≤ a → a ≤ 48 →
        let st := s.part.station a
        let older : Station :=
          { st with
            watch := st.watch.map fun w => min 65535 (w + 1)
            openSeconds := if st.door = .opened then min 65535 (st.openSeconds + 1) else st.openSeconds
            silence := st.silence.map (· - 1) }
        q.station a = { older with limitSent := limitSent older (dl.limit st.cfg.zone) }) ∧
      Posts
        ((List.range 48).flatMap fun k =>
          let st := s.part.station (k + 1)
          longTold (k + 1) (st.watch.map fun w => min 65535 (w + 1)) st.limitSent st.cfg.zone (dl.limit st.cfg.zone))
        s.part q ∧
      q.dl = { dl with stations := q.dl.stations } ∧ ChangesOnly [.doorLine, .notices] s.part q) ∧
    (∀ (z limit : Nat) (mark : Bool) (older later : List Due), z < 12 → (∀ l m, Due.doorLimit z l m ∉ older) →
      s.part.due = older ++ .doorLimit z limit mark :: later ∨
        (s.part.due = older ∧ later = [] ∧ mark = false ∧
          limit = s.part.cal.running.doorLimit (s.part.calZone z).effective) →
      Ends (.phaseHandoffDoorLine z) s fun q =>
        q.due = older ++ later ∧
        q.dl.limit z = limit ∧ (∀ y < 12, y ≠ z → q.dl.limit y = dl.limit y) ∧
        (∀ a, 1 ≤ a → a ≤ 48 →
          let st := s.part.station a
          (st.cfg.zone ≠ z → q.station a = st) ∧
          (st.cfg.zone = z → q.station a =
            { st with
              limitSent := limitSent st limit, opens := if mark then 0 else st.opens
              openSeconds := if mark then 0 else st.openSeconds })) ∧
        Posts
          ((List.range 48).flatMap fun k =>
            let st := s.part.station (k + 1)
            if st.cfg.zone = z then longTold (k + 1) st.watch st.limitSent z limit else []) s.part q ∧
        ChangesOnly [.doorLine, .notices, .handed] s.part q)

/-! ### The load budget -/

/-- Configuration c is what the fields of a LOAD_WRITE store, clamped. -/
def LoadStored (f : LoadFields) (c : LoadConfig) : Prop :=
  c.kind.code = f.kind.toNat ∧ c.owner = (if f.owner = 0xFF then none else some f.owner.toNat) ∧ c.stage = f.stage.toNat ∧
    c.rating = max 1 (min 5000 f.rating.toNat) ∧ c.rank = min 7 f.rank.toNat ∧
    c.protection.code = f.protection.toNat ∧ c.floor = min 100 f.floor.toNat ∧ c.minOn = min 1800 f.minOn.toNat ∧
    c.minOff = min 1800 f.minOff.toNat ∧ c.enabled = decide (f.enable = 1) ∧
    (f.bindForm = 0 → c.binding = .point f.bindNumber.toNat) ∧ (f.bindForm = 1 → c.binding = .dim f.bindNumber.toNat) ∧
    (f.bindForm = 2 → c.binding = .door) ∧ (f.bindForm = 3 → c.binding = .nothing)

/-- The binding that a form and number of LOAD_WRITE name. -/
def bindingNamed (form number : Byte) : Binding :=
  if form = 0 then .point number.toNat else if form = 1 then .dim number.toNat else if form = 2 then .door else .nothing

/-- The loads below 128 of the kind and owner of load i in a table. -/
def chainIn (t : Nat → LoadConfig) (i : Nat) : List Nat :=
  (List.range 128).filter fun j => decide ((t j).kind = (t i).kind) && decide ((t j).owner = (t i).owner)

/-- Load i of a table is of a kind that has owners. -/
def hasOwner (t : Nat → LoadConfig) (i : Nat) : Prop := i < 128 ∧ (t i).kind ≠ .unused ∧ (t i).kind ≠ .aux

/-- Some load of a table stands wrong to the load of the stage below it, of its own kind and owner. -/
def aStepFails (t : Nat → LoadConfig) (wrong : Nat → Nat → Prop) : Prop :=
  ∃ i j, hasOwner t i ∧ j ∈ chainIn t i ∧ (t j).stage = (t i).stage + 1 ∧ wrong i j

/-- The stages of some kind and owner in a table are not 1..n, each once. -/
def stagesFail (t : Nat → LoadConfig) : Prop :=
  ∃ i, hasOwner t i ∧ ¬ ((chainIn t i).map fun j => (t j).stage).Perm (List.range' 1 (chainIn t i).length)

/-- Of two loads of one chain the upper is request-enabled and the lower is not. -/
def enablesFail (t : Nat → LoadConfig) : Prop := aStepFails t fun i j => (t j).enabled = true ∧ (t i).enabled = false

/-- The upper of two loads of one chain has a stronger protection than the lower, NONE being the weakest and ALWAYS the
strongest. -/
def protectionsFail (t : Nat → LoadConfig) : Prop :=
  aStepFails t fun i j =>
    (t j).protection = .always ∧ (t i).protection ≠ .always ∨ (t j).protection = .guarded ∧ (t i).protection = .none

/-- The protected floor of a table: the ratings, or for a LIGHT the draw at its floor level rounded up, of the enabled loads in
use whose protection is not NONE (R168). -/
def floorIn (t : Nat → LoadConfig) : Nat :=
  ((List.range 128).map fun i =>
    if (t i).kind = .unused ∨ (t i).enabled = false ∨ (t i).protection = .none then 0
    else if (t i).kind = .light then ((t i).rating * (t i).floor + 99) / 100 else (t i).rating).sum

/-- The conditions of checks 1 to 3 of R163 on the fields alone, each with its code and field. The order and the fields within
one check are the model's choice (log entries 18 and 20). -/
def loadFieldRefusals (n : Byte) (f : LoadFields) : List (Prop × Code × Nat) :=
  let k := f.kind.toNat
  [(127 < n.toNat, .index, 1), (5 < k, .range, 2), (2 < f.protection.toNat, .range, 7), (3 < f.bindForm.toNat, .range, 11),
    (1 < f.enable.toNat, .range, 12),
    ((k = 1 ∨ k = 2) ∧ 11 < f.owner.toNat ∨ k = 3 ∧ 5 < f.owner.toNat ∨
      k = 4 ∧ (f.owner.toNat = 0 ∨ 48 < f.owner.toNat) ∨ (k = 0 ∨ k = 5) ∧ f.owner ≠ 0xFF, .index, 3),
    (f.stage = 0 ∨ 3 < f.stage.toNat, .index, 4),
    (f.bindForm = 0 ∧ 63 < f.bindNumber.toNat ∨ f.bindForm = 1 ∧ 11 < f.bindNumber.toNat, .index, 11)]

/-- The conditions of checks 4 to 10 of R163 on the table and the configuration c that the fields store in it at load i, each
with its code and field. The order and the fields within one check are the model's choice (log entry 18). -/
def loadTableRefusals (lb : Budget) (i : Nat) (f : LoadFields) (c : LoadConfig) : List (Prop × Code × Nat) :=
  let old := lb.load i
  let holds := old.grant ≠ .none
  let b := bindingNamed f.bindForm f.bindNumber
  let t := fun j => if j = i then c else (lb.load j).cfg
  [(holds ∧ old.cfg.kind ≠ c.kind, .state, 2), (holds ∧ old.cfg.owner ≠ c.owner, .state, 3),
    (holds ∧ old.cfg.binding ≠ b, .state, 11),
    (1 < f.stage.toNat ∧ (c.kind = .light ∨ c.kind = .curtain ∨ c.kind = .aux), .conflict, 4),
    (f.bindForm = 1 ∧ c.kind ≠ .light ∨ (f.bindForm = 0 ∨ f.bindForm = 2) ∧ c.kind = .light ∨
      f.bindForm = 2 ∧ c.kind ≠ .curtain, .conflict, 11),
    ((f.bindForm = 0 ∨ f.bindForm = 1) ∧ ∃ j < 128, j ≠ i ∧ (t j).kind ≠ .unused ∧ (t j).binding = b, .conflict, 11),
    (c.protection = .guarded ∧ (c.kind = .curtain ∨ c.kind = .aux), .conflict, 7),
    (stagesFail t, .conflict, 4), (aStepFails t fun x y => ¬ x < y, .conflict, 1),
    (aStepFails t fun x y => (t y).rank < (t x).rank, .conflict, 6), (protectionsFail t, .conflict, 7),
    (enablesFail t, .conflict, 12), (65535 < floorIn t, .conflict, 0)]

/-- A change that waits for the load budget. -/
def waitingChange : Due → Bool
  | .budget _ => true
  | _ => false

/-- Event c is a pass of the load budget on part p, and no more: the step is that of ALLOCATION_PASS on p, told with a place
beyond every change that waits, where it takes none of them and runs a pass on the records as they stand (log entry 32). -/
def PassesOn (c : Instr) (s : State) (p : Part) : Prop := exec c s = exec (.allocationPass p.due.length) { s with part := p }

/-- Between part p, with a change stored in it, and q one pass of the load budget has run: the records of the budget and of the
door line are those that ALLOCATION_PASS leaves, told on p as in PassesOn. -/
def PassRan (p q : Part) : Prop :=
  ∃ t, exec (.allocationPass p.due.length) { part := p, pending := [] } = .next t ∧ q.lb = t.part.lb ∧ q.dl = t.part.dl

/-- The refresh of the output chain between two budgets: a changed image starts one, or is marked as the second while one is
shifting; an image that stays starts none (R180). -/
def RefreshFollows (a b : Budget) : Prop :=
  (b.image = a.image → b.shifting = a.shifting ∧ b.marked = a.marked) ∧
  (b.image ≠ a.image → a.shifting = none → b.shifting = some b.image ∧ b.marked = a.marked) ∧
  (b.image ≠ a.image → a.shifting.isSome = true → b.shifting = a.shifting ∧ b.marked = true)

/-- Load l as an accepted LOAD_WRITE of configuration c stores it before its pass: a change of kind or owner clears the
request and the refused flag, and there, or at a change of binding, a RESTING load goes OFF with its min-off timer stopped
(R164). -/
def loadWritten (l : Load) (c : LoadConfig) : Load :=
  let moves := c.kind ≠ l.cfg.kind ∨ c.owner ≠ l.cfg.owner
  let rests := (moves ∨ c.binding ≠ l.cfg.binding) ∧ l.state = .resting
  { l with
    cfg := c, request := if moves then 0 else l.request, urgency := if moves then 0 else l.urgency
    refused := if moves then .none else l.refused, state := if rests then .off else l.state
    minOff := if rests then none else l.minOff }

/-- Owner o has gained its load of a kind, having had none, by the change of the table from p to q (R139). -/
def gainsLoad (p q : Part) (kind : LoadKind) (o : Nat) : Prop := p.lb.count kind o = 0 ∧ q.lb.count kind o ≠ 0

/-- Owner o has lost its load of a kind, and has none left, by the change of the table from p to q (R139). -/
def losesLoad (p q : Part) (kind : LoadKind) (o : Nat) : Prop := p.lb.count kind o ≠ 0 ∧ q.lb.count kind o = 0

/-- Zone z is evaluated because its number of HEAT loads differs between p and q (R116). -/
def newStageCount (p q : Part) (z : Nat) : Prop := z < 12 ∧ p.lb.count .heat z ≠ q.lb.count .heat z

/-- What the zone conditioner makes of zone z at a LOAD_WRITE that takes part p to q, by the loads that the zone has in q:
with a new N, S cut to it, the requests of the stages above it withdrawn (R116; 0 with urgency 0 by log entry 48), and an
evaluation; with a LIGHT load gained, its light request handed and no direct output, with one lost, a handed request of 0 and
the direct output taken up (R139); a zone not yet evaluated hands no request (log entry 71). A zone told of neither keeps its
record. -/
def ZoneTold (p q : Part) (z : Nat) : Prop :=
  let old := p.zone z
  let n := q.zone z
  let stages := q.lb.count .heat z
  let told := Part.setZone { p with lb := q.lb } z
    { old with s := min old.s stages, handed := withdrawAbove stages old.handed }
  let request : LightRequest := { level := n.lr, urgency := 10 * n.lr }
  (newStageCount p q z →
    HeatFollows told q z ∧ LightFollows told q z old.presence.isSome ∧ CurtainsFollow told q z ∧
    ∀ k < 3, stages ≤ k → Tab.get n.handed k = { on := false, urgency := 0 }) ∧
  (¬ newStageCount p q z → n = { old with direct := n.direct, handedLight := n.handedLight }) ∧
  (gainsLoad p q .light z →
    n.direct = 0 ∧
    (newStageCount p q z ∨ old.evaluated = true → n.handedLight = request ∧ .budget (.light z request) ∈ q.due) ∧
    (¬ newStageCount p q z → old.evaluated = false → n.handedLight = old.handedLight)) ∧
  (losesLoad p q .light z →
    n.direct = (if n.cfg.dim.isSome then n.lr else 0) ∧ n.handedLight = { level := 0, urgency := 0 }) ∧
  (¬ newStageCount p q z → ¬ gainsLoad p q .light z → ¬ losesLoad p q .light z → n = old)

/-- What becomes of station a at a LOAD_WRITE that takes part p to q: with a CURTAIN load gained, its curtain heat request
handed, but not before the first evaluation of its zone (log entry 71), with one lost, a handed request of 0 and its commanded
outputs formed afresh (R139); its outputs formed afresh too where its CURTAIN load moves into or out of ON (R182); its demand
computed where its zone is evaluated. A station of which none of this is true keeps its record, and any other keeps all but
its demand, its commanded outputs and the pending flag. -/
def StationTold (p q : Part) (a : Nat) : Prop :=
  let st := p.station a
  let n := q.station a
  let z := st.cfg.zone
  let gains := gainsLoad p q .curtain a
  let loses := losesLoad p q .curtain a
  let moves := ∃ i < 128, (q.lb.load i).cfg.kind = .curtain ∧ (q.lb.load i).cfg.owner = some a ∧
    ¬ ((p.lb.load i).state = .on ↔ (q.lb.load i).state = .on)
  let judged := newStageCount p q z ∧ st.state ≠ .disabled
  (∃ flag, n = { st with demand := n.demand, commanded := n.commanded, pending := flag }) ∧
  (¬ judged → n.demand = st.demand ∧ q.runOn a = p.runOn a) ∧
  (judged ∨ loses ∨ moves → n.commanded = q.formedOutputs a) ∧
  (¬ judged → ¬ loses → ¬ moves → n = st) ∧
  (gains → newStageCount p q z ∨ (p.zone z).evaluated = true →
    q.curtainHanded a = decide (n.demand = 2) ∧ .budget (.curtain a (q.curtainHanded a)) ∈ q.due) ∧
  (gains → ¬ newStageCount p q z → (p.zone z).evaluated = false → q.curtainHanded a = p.curtainHanded a) ∧
  (loses → q.curtainHanded a = false) ∧
  (¬ gains → ¬ loses → ¬ judged ∨ q.lb.count .curtain a = 0 → q.curtainHanded a = p.curtainHanded a)

/-- What the air quality unit makes of group g at a LOAD_WRITE that takes part p to q: with a new M, the requests of the stages
above it withdrawn, to 0 with urgency 0, and the demand computed; otherwise its record stays (R153). -/
def GroupTold (p q : Part) (g : Nat) : Prop :=
  let old := p.group g
  let stages := q.lb.count .fan g
  let told := Part.setGroup { p with lb := q.lb } g { old with handed := withdrawAbove stages old.handed }
  (p.lb.count .fan g ≠ stages →
    DemandFollows told q g old.credit ∧
    ∀ k < 3, stages ≤ k → Tab.get (q.group g).handed k = { on := false, urgency := 0 }) ∧
  (p.lb.count .fan g = stages → q.group g = old)

/-- A hand-off that an owner told at a LOAD_WRITE leaves to be taken: the request, or the alarm guard, that its record of q then
holds as handed, of a zone with a new N or a LIGHT load gained, of an enabled station of such a zone or one with a CURTAIN load
gained, and of a group with a new M (R164). -/
def handedByOwners (p q : Part) : Due → Prop
  | .budget (.heat z k r) => newStageCount p q z ∧ 1 ≤ k ∧ (k ≤ 3 → r = Tab.get (q.zone z).handed (k - 1))
  | .budget (.light z r) => z < 12 ∧ (newStageCount p q z ∨ gainsLoad p q .light z) ∧ r = (q.zone z).handedLight
  | .budget (.curtain a r) =>
    1 ≤ a ∧ a ≤ 48 ∧ r = q.curtainHanded a ∧
      (newStageCount p q (p.station a).cfg.zone ∧ (p.station a).state ≠ .disabled ∨ gainsLoad p q .curtain a)
  | .budget (.fan g k r) =>
    g < 6 ∧ p.lb.count .fan g ≠ q.lb.count .fan g ∧ 1 ≤ k ∧ (k ≤ 3 → r = Tab.get (q.group g).handed (k - 1))
  | .budget (.alarmGuard g stands) => g < 6 ∧ p.lb.count .fan g ≠ q.lb.count .fan g ∧ stands = (q.group g).guard
  | _ => False

/-- The owners whose loads have changed in number between p and q are told (R164), and no other records of the zone conditioner
and the air quality unit change, nor other hand-offs are made. -/
def OwnersTold (p q : Part) : Prop :=
  (∀ z < 12, ZoneTold p q z) ∧ (∀ a, 1 ≤ a → a ≤ 48 → StationTold p q a) ∧ (∀ g < 6, GroupTold p q g) ∧
  q.zc = { p.zc with zones := q.zc.zones, runOns := q.zc.runOns, curtainHanded := q.zc.curtainHanded } ∧
  q.air = { p.air with groups := q.air.groups } ∧ q.dl = { p.dl with queue := q.dl.queue, stations := q.dl.stations } ∧
  ∃ added, q.due = p.due ++ added ∧ ∀ d ∈ added, handedByOwners p q d

/-- What an accepted LOAD_WRITE does to the state of the load it writes, from old to new (R164): a change of kind or owner
clears its request; such a load is OFF with refused flag NONE after the pass, and one that was RESTING at a change of binding
does not stay so; a running min-on or min-off timer keeps the time it has left. Clauses about what the pass does then rest on
the laws of the budget lb before it. -/
def LoadMoved (lb : Budget) (old new : Load) : Prop :=
  let moves := new.cfg.kind ≠ old.cfg.kind ∨ new.cfg.owner ≠ old.cfg.owner
  (moves → new.request = 0 ∧ new.urgency = 0) ∧
  (¬ moves → new.request = old.request ∧ new.urgency = old.urgency) ∧
  (lb.StatesLaw → lb.ChainLaw → moves →
    new.state = .off ∧ new.grant = .none ∧ new.refused = .none ∧ new.minOn = none ∧ new.minOff = none) ∧
  (lb.StatesLaw → new.cfg.binding ≠ old.cfg.binding → new.state ≠ .resting ∧ new.minOff = none) ∧
  (old.state = .on → new.state = .on → new.minOn = old.minOn) ∧
  (old.state = .resting → new.state = .resting → new.minOff = old.minOff)

/-- LOAD_WRITE whose checks all pass stores the load, clears the request of one that changes kind or owner and returns it to
OFF, runs a pass within the effective limit, that of ALLOCATION_PASS on the table as stored, its refresh told from the image
as it stood, and tells the owners whose loads have changed in number: a zone of its new N, which it is evaluated with, or of a
LIGHT load gained or lost, a station of a CURTAIN load gained or lost, a group of its new M, which its demand is computed
with; the others keep their records. The first check that fails refuses it. LOAD_ENABLE sets or clears the request enables of
its mask, or is refused CONFLICT as a whole, runs the same pass, and tells no owner. The pass posts BUDGET where the refused
set changes, before the notices of the owners told, as the mask admits them. The model's choices: the order and the fields of
the refusals within one check of R163, the field of LOAD_ENABLE's, the order among the owners told, the sort 1 of an AIR
notice of theirs, a request withdrawn in the record alone, no request for a LIGHT or CURTAIN load gained before its zone's
first evaluation, a demand kept at an evaluation, the terms without a Tz, the requests waiting in the list of due events, the
row of a pass told with a place beyond every change, and one refresh for the moves of one event (log entries 18, 20, 94, 54,
88, 48, 71, 44, 43, 2, 4, 32 and 79). -/
def Obligations.LoadsAreWrittenAndEnabled : Prop :=
  ∀ (s : State) (tag n : Byte) (f : LoadFields) (mask : BitVec 128), s.Writable →
    let i := n.toNat
    let lb := s.part.lb
    let write := Instr.loadWrite tag n f
    let limits := fun (q : Part) => q.lb.base = lb.base ∧ q.lb.spacing = lb.spacing ∧ q.lb.window = lb.window ∧
      q.lb.cap = lb.cap ∧ q.lb.grantedSum ≤ q.lb.el ∧ q.link.unsaved = true
    (∀ before fault after, loadFieldRefusals n f = before ++ fault :: after → (∀ x ∈ before, ¬ x.1) → fault.1 →
      AnswersWith write s tag 0x1A (.refused fault.2.1 fault.2.2) s.part) ∧
    (∀ c before fault after, (∀ x ∈ loadFieldRefusals n f, ¬ x.1) → LoadStored f c →
      loadTableRefusals lb i f c = before ++ fault :: after → (∀ x ∈ before, ¬ x.1) → fault.1 →
      AnswersWith write s tag 0x1A (.refused fault.2.1 fault.2.2) s.part) ∧
    (∀ c, (∀ x ∈ loadFieldRefusals n f, ¬ x.1) → LoadStored f c → (∀ x ∈ loadTableRefusals lb i f c, ¬ x.1) →
      Answers write s tag 0x1A
        (.done (firstCut [(5, decide (f.rating.toNat = 0 ∨ 5000 < f.rating.toNat)), (6, decide (7 < f.rank.toNat)),
          (8, decide (100 < f.floor.toNat)), (9, decide (1800 < f.minOn.toNat)),
          (10, decide (1800 < f.minOff.toNat))]) []) fun q =>
        let new := q.lb.load i
        new.cfg = c ∧ (∀ j < 128, j ≠ i → (q.lb.load j).cfg = (lb.load j).cfg) ∧
        (∀ j < 128, j ≠ i → (q.lb.load j).request = (lb.load j).request ∧ (q.lb.load j).urgency = (lb.load j).urgency) ∧
        LoadMoved lb (lb.load i) new ∧ OwnersTold s.part q ∧ limits q ∧
        (let stored := { s.part with lb := lb.setLoad i (loadWritten (lb.load i) c) }
          ∃ t, exec (.allocationPass stored.due.length) { part := stored, pending := [] } = .next t ∧
            q.lb = { t.part.lb with shifting := q.lb.shifting, marked := q.lb.marked }) ∧
        RefreshFollows lb q.lb ∧
        Posts
          (budgetTold s.part q ++
            (List.range 12).flatMap (fun z => if lb.count .heat z = q.lb.count .heat z then [] else lostTold s.part q z) ++
            (List.range 6).flatMap fun g => if lb.count .fan g = q.lb.count .fan g then [] else guardTold s.part q g)
          s.part q ∧
        ChangesOnly [.budget, .doorLine, .conditioner, .airQuality, .settings, .replies, .notices, .handed] s.part q) ∧
    (∀ (set : Bool) (i : Instr), i = (if set then .loadEnableSet tag mask else .loadEnableClear tag mask) →
      let changed := (List.range 128).filter fun k => mask.getLsbD k && decide ((lb.load k).cfg.enabled ≠ set)
      let t := fun k => { (lb.load k).cfg with enabled := if mask.getLsbD k then set else (lb.load k).cfg.enabled }
      (enablesFail t ∨ 65535 < floorIn t → AnswersWith i s tag 0x1C (.refused .conflict 1) s.part) ∧
      (¬ (enablesFail t ∨ 65535 < floorIn t) →
        Answers i s tag 0x1C (.done 0 [BitVec.ofNat 8 changed.length]) fun q =>
          (∀ k < 128, (q.lb.load k).cfg = t k) ∧ limits q ∧ Posts (budgetTold s.part q) s.part q ∧
          PassRan { s.part with lb := { lb with loads := Tab.build 128 fun k => { lb.load k with cfg := t k } } } q ∧
          ChangesOnly [.budget, .doorLine, .settings, .replies, .notices] s.part q))

/-- AUX_REQUEST stores the request and urgency of an AUX load; LIMIT_WRITE the base limit and the spacing; LIMIT_CAP SET a cap
with its seconds, and CANCEL removes it. The limits answer the effective limit: the protected floor, or the lowest limit in
force where that is higher. Each keeps the granted sum within it, an AUX_REQUEST that changes what is stored runs a pass and
one that repeats it none, the limits run a pass where the effective limit changes and otherwise change nothing else, and a
pass posts BUDGET where the refused set changes, as the mask admits it. The pass is that of ALLOCATION_PASS on the part with
the change stored, which by the model's choice is a plain pass when told with a place beyond every change that waits (log
entry 32). -/
def Obligations.RequestsAndLimitsOfTheHostAreStored : Prop :=
  ∀ (s : State) (tag n request sp minutes : Byte) (h : Half), s.Ready →
    let lb := s.part.lb
    let aux := Instr.auxRequest tag n request h
    let within := fun (q : Part) => lb.grantedSum ≤ lb.el → q.lb.grantedSum ≤ q.lb.el
    let cfgs := fun (q : Part) => ∀ k < 128, (q.lb.load k).cfg = (lb.load k).cfg
    let passed := fun (q : Part) (stored : Budget) =>
      Posts (if q.lb.el = lb.el then [] else budgetTold s.part q) s.part q ∧
      (stored.el = lb.el → q.lb = stored ∧ q.dl = s.part.dl) ∧ (stored.el ≠ lb.el → PassRan { s.part with lb := stored } q)
    let limitOf := fun (base : Nat) (cap : Option Nat) =>
      let w := match lb.window with
        | some v => min base v
        | none => base
      max lb.floor (match cap with
        | some v => min w v
        | none => w)
    let cap := lb.cap.map (·.value)
    (n.toNat ≤ 127 → request.toNat ≤ 1 → (lb.load n.toNat).cfg.kind = .aux →
      Answers aux s tag 0x1D (.done (firstCut [(3, decide (1000 < h.toNat))]) []) fun q =>
        (q.lb.load n.toNat).request = request.toNat ∧ (q.lb.load n.toNat).urgency = min 1000 h.toNat ∧ cfgs q ∧ within q ∧
        (∀ k < 128, k ≠ n.toNat → (q.lb.load k).request = (lb.load k).request ∧
          (q.lb.load k).urgency = (lb.load k).urgency) ∧
        ((lb.load n.toNat).request ≠ request.toNat ∨ (lb.load n.toNat).urgency ≠ min 1000 h.toNat →
          Posts (budgetTold s.part q) s.part q ∧
          PassRan
            { s.part with
              lb := lb.setLoad n.toNat
                { lb.load n.toNat with request := request.toNat, urgency := min 1000 h.toNat } } q) ∧
        ((lb.load n.toNat).request = request.toNat → (lb.load n.toNat).urgency = min 1000 h.toNat →
          q.lb = lb ∧ Posts [] s.part q) ∧
        ChangesOnly [.budget, .doorLine, .replies, .notices] s.part q) ∧
    (127 < n.toNat → AnswersWith aux s tag 0x1D (.refused .index 1) s.part) ∧
    (n.toNat ≤ 127 → 1 < request.toNat → AnswersWith aux s tag 0x1D (.refused .range 2) s.part) ∧
    (n.toNat ≤ 127 → request.toNat ≤ 1 → (lb.load n.toNat).cfg.kind ≠ .aux →
      AnswersWith aux s tag 0x1D (.refused .conflict 1) s.part) ∧
    (s.part.link.saving = none →
      Answers (.limitWrite tag h sp) s tag 0x1E
        (.done (firstCut [(2, decide (30 < sp.toNat))]) (u16 (limitOf h.toNat cap))) fun q =>
        q.lb.base = h.toNat ∧ q.lb.spacing = min 30 sp.toNat ∧ q.lb.window = lb.window ∧ q.lb.cap = lb.cap ∧
        q.lb.el = limitOf h.toNat cap ∧ cfgs q ∧ within q ∧ q.link.unsaved = true ∧
        passed q { lb with base := h.toNat, spacing := min 30 sp.toNat } ∧
        ChangesOnly [.budget, .doorLine, .settings, .replies, .notices] s.part q) ∧
    (Answers (.limitCapSet tag h minutes) s tag 0x1F
      (.done (firstCut [(3, decide (minutes.toNat = 0 ∨ 240 < minutes.toNat))]) (u16 (limitOf lb.base (some h.toNat))))
      fun q =>
        q.lb.cap = some { value := h.toNat, left := max 1 (min 240 minutes.toNat) * 60 } ∧ q.lb.base = lb.base ∧
        q.lb.spacing = lb.spacing ∧ q.lb.window = lb.window ∧ cfgs q ∧ within q ∧
        passed q { lb with cap := some { value := h.toNat, left := max 1 (min 240 minutes.toNat) * 60 } } ∧
        ChangesOnly [.budget, .doorLine, .replies, .notices] s.part q) ∧
    (Answers (.limitCapCancel tag) s tag 0x1F
      (.done 0 (u16 (limitOf lb.base none) ++ u16 ((lb.cap.map (·.left)).getD 65535))) fun q =>
        q.lb.cap = none ∧ q.lb.base = lb.base ∧ q.lb.spacing = lb.spacing ∧ q.lb.window = lb.window ∧ cfgs q ∧ within q ∧
        passed q { lb with cap := none } ∧ ChangesOnly [.budget, .doorLine, .replies, .notices] s.part q)

/-- A table meets check 9 of R163. -/
def TableOrdered (t : Nat → LoadConfig) : Prop :=
  ¬ stagesFail t ∧ ¬ (aStepFails t fun x y => ¬ x < y) ∧ ¬ (aStepFails t fun x y => (t y).rank < (t x).rank) ∧
    ¬ protectionsFail t ∧ ¬ enablesFail t

/-- The candidates of a pass in key order (R172): exactly the loads that are in use, request-enabled and requested or held;
class ascending; the stages of a chain in stage order; and within one class, among loads whose chains' stages all have one
urgency, the urgency descending and then the index ascending. -/
def KeyOrdered (lb : Budget) : Prop :=
  let cs := lb.candidates
  let cfg := fun i => (lb.load i).cfg
  let urgency := fun i => (lb.load i).urgency
  let level := fun i => (cfg i).isChain = true → ∀ k ∈ chainIn cfg i, urgency k = urgency i
  cs.Nodup ∧
  (∀ i, i ∈ cs ↔ i < 128 ∧ (cfg i).kind ≠ .unused ∧ (cfg i).enabled = true ∧
    (lb.requested (lb.load i) = true ∨ lb.holds (lb.load i) = true)) ∧
  cs.Pairwise (fun i j => (cfg i).rank ≤ (cfg j).rank) ∧
  (TableOrdered cfg → cs.Pairwise fun i j => j ∈ chainIn cfg i → (cfg i).isChain = true → (cfg i).stage < (cfg j).stage) ∧
  cs.Pairwise fun i j => (cfg i).rank = (cfg j).rank → level i → level j →
    urgency j < urgency i ∨ urgency j = urgency i ∧ i < j

/-- The grants and refused flags of budget b are those of a pass over budget a. In the protected step each protected candidate
that is requested is granted, a LIGHT at its floor (R173). In the held step, in key order, each other held candidate is granted
where its chain stands and its rating fits beside these draws, and forced shed otherwise (R174). In the open step, in key order,
a LIGHT takes the largest level up to its request that fits the room left, a protected one never less than its floor, another
candidate is granted where its chain stands and its rating fits, and what is not granted is REFUSED, but for a RESTING load
(R175). -/
def PassGrants (a b : Budget) : Prop :=
  let cfg := fun i => (a.load i).cfg
  let grant := fun i => (b.load i).grant
  let refused := fun i => (b.load i).refused
  let light := fun i => decide ((cfg i).kind = .light)
  let sure := fun i => a.protects (cfg i) && a.requested (a.load i)
  let held := fun i => a.holds (a.load i) && !sure i
  let stands := fun i => (cfg i).isChain = true → 1 < (cfg i).stage →
    ∃ j ∈ chainIn cfg i, (cfg j).stage + 1 = (cfg i).stage ∧ grant j ≠ .none
  let sureDraw := fun i => if sure i then drawOf (cfg i) (if light i then .level (cfg i).floor else .on) else 0
  let heldDraw := fun i => if held i then drawOf (cfg i) (grant i) else 0
  let openDraw := fun i => if held i then 0 else drawOf (cfg i) (grant i) - sureDraw i
  let cs := a.candidates
  (∀ i < 128, i ∉ cs → grant i = .none ∧ refused i = .none) ∧
  ∀ before i after, cs = before ++ i :: after →
    let fits := stands i ∧ (cs.map sureDraw).sum + (before.map heldDraw).sum + (cfg i).rating ≤ a.el
    let room := a.el - ((cs.map sureDraw).sum + (cs.map heldDraw).sum + (before.map openDraw).sum)
    let level := fun (room : Nat) => min (a.load i).request (100 * room / (cfg i).rating)
    let free := sure i = false ∧ held i = false
    (sure i = true → light i = false → grant i = .on ∧ refused i = .none) ∧
    (held i = true → fits → grant i = .on ∧ refused i = .none) ∧
    (held i = true → ¬ fits → grant i = .none ∧ refused i = .forced) ∧
    (sure i = true → light i = true → (a.load i).state ≠ .resting →
      refused i = .none ∧
      grant i = .level
        (if (cfg i).floor < (a.load i).request then max (cfg i).floor (level (room + sureDraw i)) else (cfg i).floor)) ∧
    (free → (a.load i).state = .resting → grant i = .none ∧ refused i = .none) ∧
    (free → (a.load i).state ≠ .resting → light i = true →
      grant i = (if level room = 0 then .none else .level (level room))) ∧
    (free → (a.load i).state ≠ .resting → light i = false →
      (stands i ∧ (cfg i).rating ≤ room → grant i = .on) ∧ (¬ (stands i ∧ (cfg i).rating ≤ room) → grant i = .none)) ∧
    (free → (a.load i).state ≠ .resting → refused i = (if grant i = .none then .refused else .none))

/-- The state of load l with its min-on and min-off timers after a pass with grant g, by its old state, before a start event
of that pass (R176): a protected load or a LIGHT that is granted goes ON at once, any other from OFF to STARTING; STARTING
without a grant goes OFF; ON without a grant goes RESTING with the min-off timer at the load's min-off, or OFF where that is 0
and for a LIGHT; RESTING stays so without a grant, and goes ON with one. Entering ON starts the min-on timer at the load's
min-on, but not for a LIGHT nor with a min-on of 0; leaving ON stops it. -/
def stateAfter (l : Load) (isProtected : Bool) (g : Grant) : LoadState × Option Nat × Option Nat :=
  let stays := (l.state, l.minOn, l.minOff)
  let on := (LoadState.on, if l.cfg.kind = .light ∨ l.cfg.minOn = 0 then none else some l.cfg.minOn, none)
  match l.state, decide (g ≠ .none) with
  | .off, true => if isProtected = true ∨ l.cfg.kind = .light then on else (.starting, l.minOn, l.minOff)
  | .off, false => stays
  | .starting, true => if isProtected then on else stays
  | .starting, false => (.off, l.minOn, l.minOff)
  | .on, true => stays
  | .on, false =>
    if l.cfg.kind = .light ∨ l.cfg.minOff = 0 then (.off, none, none) else (.resting, none, some l.cfg.minOff)
  | .resting, true => on
  | .resting, false => stays

/-- The load states and the start queue of budget b are those that a pass over budget a leaves with the grants of b. Each load
moves by its old state and its grant. A load that no longer waits in STARTING leaves the queue, the others keep their order,
and those that come to STARTING join the tail in the order granted: the held step before the open step, each in key order. A
join that finds the spacing timer stopped takes a start event: the head of the queue goes ON and the timer is started, or with
a start spacing of 0 every load of the queue goes ON and the timer stays stopped (R176, R178). -/
def StatesMove (a b : Budget) : Prop :=
  let grant := fun i => (b.load i).grant
  let moved := fun i => stateAfter (a.load i) (a.protects (a.load i).cfg) (grant i)
  let waits := fun i => decide ((moved i).1 = .starting)
  let held := fun i => a.holds (a.load i)
  let joins := (a.candidates.filter held ++ a.candidates.filter fun i => !held i).filter fun i =>
    waits i && decide ((a.load i).state = .off)
  let queue := a.queue.filter waits ++ joins
  let starts := if joins = [] ∨ a.spacingTimer ≠ none then [] else if a.spacing = 0 then queue else queue.take 1
  (∀ i < 128,
    ((b.load i).state, (b.load i).minOn, (b.load i).minOff) =
      if i ∈ starts then
        (.on, if (a.load i).cfg.kind = .light ∨ (a.load i).cfg.minOn = 0 then none else some (a.load i).cfg.minOn, none)
      else moved i) ∧
  b.queue = queue.drop starts.length ∧
  b.spacingTimer =
    if joins = [] ∨ a.spacingTimer ≠ none then a.spacingTimer else if a.spacing = 0 then none else some a.spacing

/-- The budget with a handed change stored in it (R166, R167, R169): the request and urgency of the load that the owner has
for it, a CURTAIN load's with urgency 1000, a guard, or the window limit. -/
def changeStored (lb : Budget) (change : Change) : Budget :=
  let store := fun (kind : LoadKind) (owner stage request urgency : Nat) =>
    match lb.stageLoad kind owner stage with
    | none => lb
    | some i => lb.setLoad i { lb.load i with request := request, urgency := urgency }
  match change with
  | .heat z k r => store .heat z k r.on.toNat r.urgency
  | .fan g k r => store .fan g k r.on.toNat r.urgency
  | .light z r => store .light z 1 r.level r.urgency
  | .curtain a r => store .curtain a 1 r.toNat 1000
  | .freezeGuard z b => { lb with freeze := Tab.put lb.freeze z b }
  | .lightGuard z b => { lb with light := Tab.put lb.light z b }
  | .alarmGuard g b => { lb with alarm := Tab.put lb.alarm g b }
  | .window w => { lb with window := w }
  | .startWindow w => { lb with window := w }

/-- A handed change runs a pass: a window limit where it changes the effective limit, and any other where the figure stored
differs from the one that stood (R166, R167, R171). -/
def changePasses (lb : Budget) (change : Change) : Prop :=
  match change with
  | .window _ => (changeStored lb change).el ≠ lb.el
  | _ => changeStored lb change ≠ lb

/-- A guard handed is one of a zone or a group that the part has. -/
def guardExists : Change → Prop
  | .freezeGuard z _ => z < 12
  | .lightGuard z _ => z < 12
  | .alarmGuard g _ => g < 6
  | _ => True

/-- ALLOCATION_PASS takes the change due at its place, the oldest of its figure, and keeps the granted sum within the
effective limit. Where the figure stored differs, or with a window limit the effective limit, the step is that of a plain pass
on the part with the change taken and stored, and otherwise nothing else changes. With no change at its place it runs a plain
pass, which grants by its protected, held and open steps, moves each load's state with its timers by its old state and its
grant, joins the start queue, takes the start event of a join, refreshes the output chain where its image changes, and tells
the stations of the CURTAIN loads that move; the candidates of a pass stand in key order; the spacing timer starts the head of
the start queue, and with a start spacing of 0 every load of it, its CURTAIN loads telling their stations in that order; and
the expiries of min-on, min-off and the cap end what has run out and run a plain pass on what is left. A window limit handed
at a start runs a pass where it changes the limit held, one handed later where it changes the effective limit. A pass posts
BUDGET where the refused set changes, with its number, its draw, the forced flag and the effective limit, as the mask admits
it. The row of a timer that has not run out changing nothing, the order of the changes due, a protected LIGHT of floor 0 that
holds a grant, a load forced shed that stays FORCED, the urgency 1000 of a CURTAIN load's request of 0, the pass at the cap's
end whatever the limits, the place of a stage whose urgency differs from its chain's, and one refresh for the moves of one
event, are the model's choice (log entries 6, 32, 45, 46, 47, 53, 73 and 79). -/
def Obligations.PassesAndLoadTimersGrantWithinTheLimit : Prop :=
  ∀ s : State, s.part.running = true →
    let lb := s.part.lb
    let cfgs := fun (q : Part) => ∀ k < 128, (q.lb.load k).cfg = (lb.load k).cfg
    let curtainOf := fun (i : Nat) => if (lb.load i).cfg.kind = .curtain then (lb.load i).cfg.owner else none
    let started := fun (l : Load) =>
      { l with
        state := .on, minOff := none
        minOn := if l.cfg.kind = .light ∨ l.cfg.minOn = 0 then none else some l.cfg.minOn }
    let within := fun (q : Part) => q.lb.grantedSum ≤ q.lb.el ∧ cfgs q ∧
      Posts (budgetTold s.part q) s.part q ∧ ChangesOnly [.budget, .doorLine, .notices] s.part q
    KeyOrdered lb ∧
    (∀ n, s.part.due.countP waitingChange ≤ n →
      Ends (.allocationPass n) s fun q =>
        within q ∧ StatesMove lb q.lb ∧ RefreshFollows lb q.lb ∧
        (∃ loads queue timer baseline shifting marked, q.lb =
          { lb with
            loads := loads, queue := queue, spacingTimer := timer, baseline := baseline, shifting := shifting
            marked := marked }) ∧
        (∀ a, 1 ≤ a → a ≤ 48 →
          let moves := ∃ i < 128, (lb.load i).cfg.kind = .curtain ∧ (lb.load i).cfg.owner = some a ∧
            ¬ ((lb.load i).state = .on ↔ (q.lb.load i).state = .on)
          (moves → ∃ flag, q.station a = { s.part.station a with commanded := q.formedOutputs a, pending := flag }) ∧
          (¬ moves → q.station a = s.part.station a)) ∧
        (TableOrdered (fun k => (lb.load k).cfg) → ∀ k < 128, (lb.load k).cfg.kind ≠ .unused →
          (lb.load k).cfg.enabled = true → lb.requested (lb.load k) = true → lb.protects (lb.load k).cfg = true →
          (q.lb.load k).grant ≠ .none ∧ (q.lb.load k).refused = .none) ∧
        (TableOrdered (fun k => (lb.load k).cfg) → PassGrants lb q.lb) ∧
        (∀ k < 128, (lb.load k).state = .resting → (q.lb.load k).grant = .none →
          (q.lb.load k).state = .resting ∧ (q.lb.load k).minOff = (lb.load k).minOff) ∧
        (lb.QueueLaw → lb.spacing = 0 → lb.spacingTimer = none →
          q.lb.queue = [] ∧ q.lb.spacingTimer = none ∧ ∀ k < 128, (q.lb.load k).state ≠ .starting) ∧
        ∀ k < 128, (q.lb.load k).request = (lb.load k).request ∧ (q.lb.load k).urgency = (lb.load k).urgency) ∧
    (∀ change rest, s.part.due = .budget change :: rest →
      Ends (.allocationPass 0) s fun q =>
        q.due = rest ∧ (lb.grantedSum ≤ lb.el → q.lb.grantedSum ≤ q.lb.el) ∧ cfgs q ∧
        (match change with
          | .heat z k r => ∀ i, lb.stageLoad .heat z k = some i →
            (q.lb.load i).request = (if r.on then 1 else 0) ∧ (q.lb.load i).urgency = r.urgency
          | .fan g k r => ∀ i, lb.stageLoad .fan g k = some i →
            (q.lb.load i).request = (if r.on then 1 else 0) ∧ (q.lb.load i).urgency = r.urgency
          | .light z r => ∀ i, lb.stageLoad .light z 1 = some i →
            (q.lb.load i).request = r.level ∧ (q.lb.load i).urgency = r.urgency
          | .curtain a r => ∀ i, lb.stageLoad .curtain a 1 = some i → (q.lb.load i).request = if r then 1 else 0
          | .freezeGuard z b => z < 12 → Tab.get q.lb.freeze z = b
          | .lightGuard z b => z < 12 → Tab.get q.lb.light z = b
          | .alarmGuard g b => g < 6 → Tab.get q.lb.alarm g = b
          | .window w => q.lb.window = w
          | .startWindow w => q.lb.window = w) ∧
        (lb.RefusedLaw → Posts (budgetTold s.part q) s.part q) ∧
        ChangesOnly [.budget, .doorLine, .notices, .handed] s.part q) ∧
    (∀ before change after, s.part.due = before ++ .budget change :: after →
      (∀ c, Due.budget c ∈ before → change.sameFigure c = false) → guardExists change →
      let taken := { s.part with due := before ++ after, lb := changeStored lb change }
      let row := Instr.allocationPass (before.countP waitingChange)
      (changePasses lb change → PassesOn row s taken) ∧ (¬ changePasses lb change → Becomes row s taken)) ∧
    (∀ w rest, (∀ c, Due.budget c ∉ rest) →
      let stored := { s.part with due := rest, lb := { lb with window := w } }
      let passes := ∀ i, i = Instr.allocationPass 0 → exec i s = exec i { s with part := stored }
      (s.part.due = .budget (.startWindow w) :: rest →
        (lb.window = w → Becomes (.allocationPass 0) s stored) ∧ (lb.window ≠ w → passes)) ∧
      (s.part.due = .budget (.window w) :: rest →
        (stored.lb.el = lb.el → Becomes (.allocationPass 0) s stored) ∧ (stored.lb.el ≠ lb.el → passes))) ∧
    (∀ c1 c2 rest, s.part.due = .budget c1 :: .budget c2 :: rest →
      (c2.sameFigure c1 = true → exec (.allocationPass 1) s = exec (.allocationPass 0) s) ∧
      (c2.sameFigure c1 = false → Ends (.allocationPass 1) s fun q =>
        q.due = .budget c1 :: rest ∧ (lb.grantedSum ≤ lb.el → q.lb.grantedSum ≤ q.lb.el) ∧ cfgs q)) ∧
    (lb.spacingTimer ≠ some 0 → Becomes .spacingTimerExpiry s s.part) ∧
    (lb.spacingTimer = some 0 → lb.queue = [] →
      Becomes .spacingTimerExpiry s { s.part with lb := { lb with spacingTimer := none } }) ∧
    (lb.spacingTimer = some 0 → lb.spacing = 0 →
      Ends .spacingTimerExpiry s fun q =>
        (∀ k < 128, q.lb.load k = if k ∈ lb.queue then started (lb.load k) else lb.load k) ∧ q.lb.queue = [] ∧
        (lb.QueueLaw → q.dl = ((lb.queue.filterMap curtainOf).foldl Part.formOutputs { s.part with lb := q.lb }).dl) ∧
        q.lb.spacingTimer = none ∧ ChangesOnly [.budget, .doorLine] s.part q) ∧
    (∀ i rest, lb.spacingTimer = some 0 → lb.queue = i :: rest → i < 128 → lb.spacing ≠ 0 →
      Ends .spacingTimerExpiry s fun q =>
        q.lb.load i = started (lb.load i) ∧ q.lb.queue = rest ∧ q.lb.spacingTimer = some lb.spacing ∧
        (∀ k < 128, k ≠ i → q.lb.load k = lb.load k) ∧
        (q.lb.image ≠ lb.image → lb.shifting = none → q.lb.shifting = some q.lb.image) ∧
        ChangesOnly [.budget, .doorLine] s.part q) ∧
    (∀ i < 128,
      ((lb.load i).minOn ≠ some 0 → Becomes (.minOnExpiry i) s s.part) ∧
      ((lb.load i).minOn = some 0 → Ends (.minOnExpiry i) s fun q =>
        within q ∧ ((lb.load i).state = .on → (q.lb.load i).minOn = none)) ∧
      ((lb.load i).minOn = some 0 →
        PassesOn (.minOnExpiry i) s { s.part with lb := lb.setLoad i { lb.load i with minOn := none } }) ∧
      ((lb.load i).minOff = some 0 → (lb.load i).state = .resting →
        PassesOn (.minOffExpiry i) s
          { s.part with lb := lb.setLoad i { lb.load i with state := .off, minOff := none } }) ∧
      ((lb.load i).minOff ≠ some 0 ∨ (lb.load i).state ≠ .resting → Becomes (.minOffExpiry i) s s.part) ∧
      ((lb.load i).minOff = some 0 → (lb.load i).state = .resting →
        Ends (.minOffExpiry i) s fun q => within q ∧ (q.lb.load i).minOff = none ∧ (q.lb.load i).state ≠ .resting)) ∧
    (lb.cap.map (·.left) ≠ some 0 → Becomes .capExpiry s s.part) ∧
    (lb.cap.map (·.left) = some 0 → Ends .capExpiry s fun q => within q ∧ q.lb.cap = none) ∧
    (lb.cap.map (·.left) = some 0 → PassesOn .capExpiry s { s.part with lb := { lb with cap := none } })

/-- The output chain shifts out its image and the relay boards take it at the latch, a marked second refresh starting then; a
refresh puts the image's 64 points on the chain, point 63 first, one every 10 microseconds, and the latch 650 microseconds
after its start, which bring the relay boards to the image whatever they held; a point of the image is on exactly while a load
in use that is bound to it is ON; and a dim output's period carries the granted level of the LIGHT bound to it while that is
ON, 0 while it is not, and with none bound the highest direct output of the zones that drive it. The lamp LED_LINE is lit
while the line is STUCK or DEAD. That the boards are 64 stages in series, relay n on the stage where point n comes to rest, is
read from R180 (log entry 97); that the lamp is dark while the part is held in reset is the model's choice (log entry 93). -/
def Obligations.OutputsFollowTheLoads : Prop :=
  (∀ s : State, s.part.running = true →
    let lb := s.part.lb
    let withLb := fun (b : Budget) => { s.part with lb := b }
    (lb.shifting = none →
      Becomes .outputRefreshLatch s s.part ∧
      Becomes .periodicRefresh s (withLb { lb with shifting := some lb.image })) ∧
    (∀ image, lb.shifting = some image →
      Becomes .outputRefreshLatch s
        (withLb { lb with
          relays := image, shifting := if lb.marked then some lb.image else none, marked := false }) ∧
      Becomes .periodicRefresh s (withLb { lb with marked := true })) ∧
    (∀ n < 12,
      Ends (.dimPeriodStart n) s fun q =>
        Tab.get q.lb.dimPins n = s.part.dimDuty n ∧ (∀ k < 12, k ≠ n → Tab.get q.lb.dimPins k = Tab.get lb.dimPins k) ∧
          q.lb = { lb with dimPins := q.lb.dimPins } ∧ ChangesOnly [.budget] s.part q)) ∧
  (∀ (image : BitVec 64) (boards : Boards),
    (refreshMoves image).length = 65 ∧
    (∀ k < 64, (refreshMoves image)[k]? = some (10 * (k + 1), .point (image.getLsbD (63 - k)))) ∧
    (refreshMoves image)[64]? = some (650, .latch) ∧
    (((refreshMoves image).map (·.2)).foldl Boards.take boards).relays = image) ∧
  (∀ p : Part,
    (p.running = true → (p.ledLine = true ↔ p.dl.line = .stuck ∨ p.dl.line = .dead)) ∧
    (p.running = false → p.ledLine = false)) ∧
  (∀ (lb : Budget) (n : Nat), n < 64 →
    (lb.image.getLsbD n = true ↔
      ∃ i < 128, (lb.load i).cfg.kind ≠ .unused ∧ (lb.load i).cfg.binding = .point n ∧ (lb.load i).state = .on)) ∧
  (∀ (p : Part) (n : Nat),
    (∀ i < 128, (p.lb.load i).cfg.kind ≠ .unused → (p.lb.load i).cfg.binding = .dim n →
      (∀ k < i, (p.lb.load k).cfg.kind = .unused ∨ (p.lb.load k).cfg.binding ≠ .dim n) →
      (∀ level, (p.lb.load i).state = .on → (p.lb.load i).grant = .level level → p.dimDuty n = level) ∧
      ((p.lb.load i).state ≠ .on → p.dimDuty n = 0)) ∧
    ((∀ i < 128, (p.lb.load i).cfg.kind = .unused ∨ (p.lb.load i).cfg.binding ≠ .dim n) →
      (∀ z < 12, (p.zone z).cfg.dim = some n → p.lb.count .light z = 0 → (p.zone z).direct ≤ p.dimDuty n) ∧
      (p.dimDuty n ≠ 0 → ∃ z < 12, (p.zone z).cfg.dim = some n ∧ p.lb.count .light z = 0 ∧
        p.dimDuty n = (p.zone z).direct)))
end

