-- ==== Sys2Proof/Laws/Bytes.lean ====
section
/-! SUPPORT. Fields on the wire: the bytes of a figure spell the figure, and a list of bytes has the length its field has. -/

namespace Sys2Proof.Machine

/-- The figure that the n bytes of v spell is v modulo 256ⁿ (R201). -/
theorem ofLe_leBytes (n v : Nat) : ofLe (leBytes n v) = v % 256 ^ n := by
  induction n generalizing v with
  | zero => simp [leBytes, ofLe, Nat.mod_one]
  | succ n ih =>
    have h : v % 256 ^ (n + 1) = v % 256 + 256 * (v / 256 % 256 ^ n) := by rw [Nat.pow_succ', Nat.mod_mul]
    rw [h]
    simp only [leBytes, ofLe, ih]
    simp

@[simp] theorem leBytes_length (n v : Nat) : (leBytes n v).length = n := by
  induction n generalizing v with
  | zero => rfl
  | succ n ih => simp [leBytes, ih]

/-- A word of whole bytes is read back from its bytes. -/
theorem word_of_leBytes (n : Nat) (h : BitVec (8 * n)) : BitVec.ofNat (8 * n) (ofLe (leBytes n h.toNat)) = h := by
  rw [ofLe_leBytes]
  apply BitVec.eq_of_toNat_eq
  have hp : (256 : Nat) ^ n = 2 ^ (8 * n) := by rw [Nat.pow_mul]
  rw [hp, BitVec.toNat_ofNat, Nat.mod_mod]
  exact Nat.mod_eq_of_lt h.isLt

/-- A two-byte field is two bytes. -/
theorem halfBytes_two (h : Half) : halfBytes h = [BitVec.setWidth 8 h, BitVec.ofNat 8 (h.toNat / 256)] := by
  simp [halfBytes, leBytes]

/-- A two-byte field is read back from its bytes. -/
@[simp] theorem half_of_bytes (h : Half) :
    BitVec.ofNat 16 (ofLe [BitVec.setWidth 8 h, BitVec.ofNat 8 (h.toNat / 256)]) = h := by
  rw [← halfBytes_two]
  exact word_of_leBytes 2 h

end Sys2Proof.Machine
end

