-- ==== Sys2Proof/Laws/Tables.lean ====
section
/-! SUPPORT. What the tables of a fixed size can do: an entry read after a write, a build or a map. -/

namespace Sys2Proof.Machine

variable {α β : Type} {size : Nat}

/-- An entry just put is read back. -/
theorem Tab.get_put_same [Inhabited α] (v : Vector α size) (i : Nat) (x : α) (h : i < size) :
    Tab.get (Tab.put v i x) i = x := by
  simp [Tab.get, Tab.put, Vector.getD, h]

/-- Another entry is as before. -/
theorem Tab.get_put_other [Inhabited α] (v : Vector α size) (i j : Nat) (x : α) (h : i ≠ j) :
    Tab.get (Tab.put v i x) j = Tab.get v j := by
  by_cases hj : j < size
  · simp [Tab.get, Tab.put, Vector.getD, hj, h]
  · simp [Tab.get, Vector.getD, hj]

/-- A write beyond the end changes nothing. -/
theorem Tab.put_beyond (v : Vector α size) (i : Nat) (x : α) (h : size ≤ i) : Tab.put v i x = v := by
  ext j hj
  simp only [Tab.put]
  exact Vector.getElem_setIfInBounds_ne hj (by omega)

/-- An entry of a built table. -/
theorem Tab.get_build [Inhabited α] (n : Nat) (f : Nat → α) (i : Nat) (h : i < n) :
    Tab.get (Tab.build n f) i = f i := by
  simp [Tab.get, Tab.build, Vector.getD, h]

/-- An entry of a mapped table. -/
theorem Tab.get_each [Inhabited α] [Inhabited β] (v : Vector α size) (f : α → β) (i : Nat) (h : i < size) :
    Tab.get (Tab.each v f) i = f (Tab.get v i) := by
  simp [Tab.get, Tab.each, Vector.getD, h]

/-- A table with an entry put back where it was read is the table. -/
theorem Tab.put_get [Inhabited α] (v : Vector α size) (i : Nat) : Tab.put v i (Tab.get v i) = v := by
  by_cases h : i < size
  · ext j hj
    by_cases e : i = j
    · subst e; simp [Tab.put, Tab.get, Vector.getD, h]
    · simp only [Tab.put]; exact Vector.getElem_setIfInBounds_ne hj e
  · exact Tab.put_beyond v i _ (by omega)

end Sys2Proof.Machine
end

