-- ==== Sys2Proof/Laws/State.lean ====
section
/-! SUPPORT. What each update of the part leaves alone: one lemma per field per update, and the combinators that run an
operation over a list, store what checks accept, or guard a configuration write. -/

namespace Sys2Proof.Machine

/-! ### Two views of the link port -/

/-- The link port with its notices set aside: what posting a notice keeps. -/
def Link.still (l : Link) : Link := { l with notices := [] }

/-- The link port with notices, replies, deferred tags, the mask and the save set aside: what an owner's work keeps. -/
def Link.core (l : Link) : Link :=
  { l with
    notices := [], replies := [], waiting := [], deferredMeasure := none, deferredSave := none, mask := 0, unsaved := false
    saving := none }

@[simp] theorem Link.core_mask (l : Link) (m : BitVec 14) : ({ l with mask := m } : Link).core = l.core := rfl
@[simp] theorem Link.core_deferred (l : Link) (d : Option Byte) : ({ l with deferredMeasure := d } : Link).core = l.core := rfl
@[simp] theorem Part.setEditor_running_copy (s : Part) (e : Editor) : (s.setEditor e).cal.running = s.cal.running := rfl
@[simp] theorem Part.setCalZone_running_copy (s : Part) (z : Nat) (x : CalZone) :
    (s.setCalZone z x).cal.running = s.cal.running := rfl
@[simp] theorem Part.markUnsaved_core (s : Part) : s.markUnsaved.link.core = s.link.core := rfl

/-- A reply joining the list touches nothing else of the link port. -/
@[simp] theorem Link.ready_core (l : Link) (r : Reply) : (l.ready r).core = l.core := by unfold Link.ready; split <;> rfl

/-! ### Fields that the updates keep -/

@[simp] theorem Part.owe_clock (s : Part) (d : Due) : (s.owe d).clock = s.clock := rfl
@[simp] theorem Part.owe_cal (s : Part) (d : Due) : (s.owe d).cal = s.cal := rfl
@[simp] theorem Part.owe_mu (s : Part) (d : Due) : (s.owe d).mu = s.mu := rfl
@[simp] theorem Part.owe_dl (s : Part) (d : Due) : (s.owe d).dl = s.dl := rfl
@[simp] theorem Part.owe_zc (s : Part) (d : Due) : (s.owe d).zc = s.zc := rfl
@[simp] theorem Part.owe_air (s : Part) (d : Due) : (s.owe d).air = s.air := rfl
@[simp] theorem Part.owe_lb (s : Part) (d : Due) : (s.owe d).lb = s.lb := rfl
@[simp] theorem Part.owe_link (s : Part) (d : Due) : (s.owe d).link = s.link := rfl
@[simp] theorem Part.owe_running (s : Part) (d : Due) : (s.owe d).running = s.running := rfl

@[simp] theorem Part.hand_clock (s : Part) (c : Change) : (s.hand c).clock = s.clock := rfl
@[simp] theorem Part.hand_cal (s : Part) (c : Change) : (s.hand c).cal = s.cal := rfl
@[simp] theorem Part.hand_mu (s : Part) (c : Change) : (s.hand c).mu = s.mu := rfl
@[simp] theorem Part.hand_dl (s : Part) (c : Change) : (s.hand c).dl = s.dl := rfl
@[simp] theorem Part.hand_zc (s : Part) (c : Change) : (s.hand c).zc = s.zc := rfl
@[simp] theorem Part.hand_air (s : Part) (c : Change) : (s.hand c).air = s.air := rfl
@[simp] theorem Part.hand_lb (s : Part) (c : Change) : (s.hand c).lb = s.lb := rfl
@[simp] theorem Part.hand_link (s : Part) (c : Change) : (s.hand c).link = s.link := rfl
@[simp] theorem Part.hand_running (s : Part) (c : Change) : (s.hand c).running = s.running := rfl

@[simp] theorem Part.markUnsaved_clock (s : Part) : s.markUnsaved.clock = s.clock := rfl
@[simp] theorem Part.markUnsaved_cal (s : Part) : s.markUnsaved.cal = s.cal := rfl
@[simp] theorem Part.markUnsaved_mu (s : Part) : s.markUnsaved.mu = s.mu := rfl
@[simp] theorem Part.markUnsaved_dl (s : Part) : s.markUnsaved.dl = s.dl := rfl
@[simp] theorem Part.markUnsaved_zc (s : Part) : s.markUnsaved.zc = s.zc := rfl
@[simp] theorem Part.markUnsaved_air (s : Part) : s.markUnsaved.air = s.air := rfl
@[simp] theorem Part.markUnsaved_lb (s : Part) : s.markUnsaved.lb = s.lb := rfl
@[simp] theorem Part.markUnsaved_due (s : Part) : s.markUnsaved.due = s.due := rfl
@[simp] theorem Part.markUnsaved_running (s : Part) : s.markUnsaved.running = s.running := rfl

@[simp] theorem Part.setZone_clock (s : Part) (z : Nat) (x : Zone) : (s.setZone z x).clock = s.clock := rfl
@[simp] theorem Part.setZone_cal (s : Part) (z : Nat) (x : Zone) : (s.setZone z x).cal = s.cal := rfl
@[simp] theorem Part.setZone_mu (s : Part) (z : Nat) (x : Zone) : (s.setZone z x).mu = s.mu := rfl
@[simp] theorem Part.setZone_dl (s : Part) (z : Nat) (x : Zone) : (s.setZone z x).dl = s.dl := rfl
@[simp] theorem Part.setZone_air (s : Part) (z : Nat) (x : Zone) : (s.setZone z x).air = s.air := rfl
@[simp] theorem Part.setZone_lb (s : Part) (z : Nat) (x : Zone) : (s.setZone z x).lb = s.lb := rfl
@[simp] theorem Part.setZone_link (s : Part) (z : Nat) (x : Zone) : (s.setZone z x).link = s.link := rfl
@[simp] theorem Part.setZone_due (s : Part) (z : Nat) (x : Zone) : (s.setZone z x).due = s.due := rfl
@[simp] theorem Part.setZone_running (s : Part) (z : Nat) (x : Zone) : (s.setZone z x).running = s.running := rfl

@[simp] theorem Part.setCalZone_clock (s : Part) (z : Nat) (x : CalZone) : (s.setCalZone z x).clock = s.clock := rfl
@[simp] theorem Part.setCalZone_mu (s : Part) (z : Nat) (x : CalZone) : (s.setCalZone z x).mu = s.mu := rfl
@[simp] theorem Part.setCalZone_dl (s : Part) (z : Nat) (x : CalZone) : (s.setCalZone z x).dl = s.dl := rfl
@[simp] theorem Part.setCalZone_zc (s : Part) (z : Nat) (x : CalZone) : (s.setCalZone z x).zc = s.zc := rfl
@[simp] theorem Part.setCalZone_air (s : Part) (z : Nat) (x : CalZone) : (s.setCalZone z x).air = s.air := rfl
@[simp] theorem Part.setCalZone_lb (s : Part) (z : Nat) (x : CalZone) : (s.setCalZone z x).lb = s.lb := rfl
@[simp] theorem Part.setCalZone_link (s : Part) (z : Nat) (x : CalZone) : (s.setCalZone z x).link = s.link := rfl
@[simp] theorem Part.setCalZone_due (s : Part) (z : Nat) (x : CalZone) : (s.setCalZone z x).due = s.due := rfl
@[simp] theorem Part.setCalZone_running (s : Part) (z : Nat) (x : CalZone) : (s.setCalZone z x).running = s.running := rfl

@[simp] theorem Part.setStation_clock (s : Part) (a : Nat) (x : Station) : (s.setStation a x).clock = s.clock := rfl
@[simp] theorem Part.setStation_cal (s : Part) (a : Nat) (x : Station) : (s.setStation a x).cal = s.cal := rfl
@[simp] theorem Part.setStation_mu (s : Part) (a : Nat) (x : Station) : (s.setStation a x).mu = s.mu := rfl
@[simp] theorem Part.setStation_zc (s : Part) (a : Nat) (x : Station) : (s.setStation a x).zc = s.zc := rfl
@[simp] theorem Part.setStation_air (s : Part) (a : Nat) (x : Station) : (s.setStation a x).air = s.air := rfl
@[simp] theorem Part.setStation_lb (s : Part) (a : Nat) (x : Station) : (s.setStation a x).lb = s.lb := rfl
@[simp] theorem Part.setStation_link (s : Part) (a : Nat) (x : Station) : (s.setStation a x).link = s.link := rfl
@[simp] theorem Part.setStation_due (s : Part) (a : Nat) (x : Station) : (s.setStation a x).due = s.due := rfl
@[simp] theorem Part.setStation_running (s : Part) (a : Nat) (x : Station) : (s.setStation a x).running = s.running := rfl

@[simp] theorem Part.setChannel_clock (s : Part) (c : Nat) (x : Channel) : (s.setChannel c x).clock = s.clock := rfl
@[simp] theorem Part.setChannel_cal (s : Part) (c : Nat) (x : Channel) : (s.setChannel c x).cal = s.cal := rfl
@[simp] theorem Part.setChannel_dl (s : Part) (c : Nat) (x : Channel) : (s.setChannel c x).dl = s.dl := rfl
@[simp] theorem Part.setChannel_zc (s : Part) (c : Nat) (x : Channel) : (s.setChannel c x).zc = s.zc := rfl
@[simp] theorem Part.setChannel_air (s : Part) (c : Nat) (x : Channel) : (s.setChannel c x).air = s.air := rfl
@[simp] theorem Part.setChannel_lb (s : Part) (c : Nat) (x : Channel) : (s.setChannel c x).lb = s.lb := rfl
@[simp] theorem Part.setChannel_link (s : Part) (c : Nat) (x : Channel) : (s.setChannel c x).link = s.link := rfl
@[simp] theorem Part.setChannel_due (s : Part) (c : Nat) (x : Channel) : (s.setChannel c x).due = s.due := rfl
@[simp] theorem Part.setChannel_running (s : Part) (c : Nat) (x : Channel) : (s.setChannel c x).running = s.running := rfl

@[simp] theorem Part.setGas_clock (s : Part) (c : Nat) (x : Gas) : (s.setGas c x).clock = s.clock := rfl
@[simp] theorem Part.setGas_cal (s : Part) (c : Nat) (x : Gas) : (s.setGas c x).cal = s.cal := rfl
@[simp] theorem Part.setGas_mu (s : Part) (c : Nat) (x : Gas) : (s.setGas c x).mu = s.mu := rfl
@[simp] theorem Part.setGas_dl (s : Part) (c : Nat) (x : Gas) : (s.setGas c x).dl = s.dl := rfl
@[simp] theorem Part.setGas_zc (s : Part) (c : Nat) (x : Gas) : (s.setGas c x).zc = s.zc := rfl
@[simp] theorem Part.setGas_lb (s : Part) (c : Nat) (x : Gas) : (s.setGas c x).lb = s.lb := rfl
@[simp] theorem Part.setGas_link (s : Part) (c : Nat) (x : Gas) : (s.setGas c x).link = s.link := rfl
@[simp] theorem Part.setGas_due (s : Part) (c : Nat) (x : Gas) : (s.setGas c x).due = s.due := rfl
@[simp] theorem Part.setGas_running (s : Part) (c : Nat) (x : Gas) : (s.setGas c x).running = s.running := rfl

@[simp] theorem Part.setGroup_clock (s : Part) (g : Nat) (x : Group) : (s.setGroup g x).clock = s.clock := rfl
@[simp] theorem Part.setGroup_cal (s : Part) (g : Nat) (x : Group) : (s.setGroup g x).cal = s.cal := rfl
@[simp] theorem Part.setGroup_mu (s : Part) (g : Nat) (x : Group) : (s.setGroup g x).mu = s.mu := rfl
@[simp] theorem Part.setGroup_dl (s : Part) (g : Nat) (x : Group) : (s.setGroup g x).dl = s.dl := rfl
@[simp] theorem Part.setGroup_zc (s : Part) (g : Nat) (x : Group) : (s.setGroup g x).zc = s.zc := rfl
@[simp] theorem Part.setGroup_lb (s : Part) (g : Nat) (x : Group) : (s.setGroup g x).lb = s.lb := rfl
@[simp] theorem Part.setGroup_link (s : Part) (g : Nat) (x : Group) : (s.setGroup g x).link = s.link := rfl
@[simp] theorem Part.setGroup_due (s : Part) (g : Nat) (x : Group) : (s.setGroup g x).due = s.due := rfl
@[simp] theorem Part.setGroup_running (s : Part) (g : Nat) (x : Group) : (s.setGroup g x).running = s.running := rfl

@[simp] theorem Part.setRunOn_clock (s : Part) (a : Nat) (x : Option Nat) : (s.setRunOn a x).clock = s.clock := rfl
@[simp] theorem Part.setRunOn_cal (s : Part) (a : Nat) (x : Option Nat) : (s.setRunOn a x).cal = s.cal := rfl
@[simp] theorem Part.setRunOn_mu (s : Part) (a : Nat) (x : Option Nat) : (s.setRunOn a x).mu = s.mu := rfl
@[simp] theorem Part.setRunOn_dl (s : Part) (a : Nat) (x : Option Nat) : (s.setRunOn a x).dl = s.dl := rfl
@[simp] theorem Part.setRunOn_air (s : Part) (a : Nat) (x : Option Nat) : (s.setRunOn a x).air = s.air := rfl
@[simp] theorem Part.setRunOn_lb (s : Part) (a : Nat) (x : Option Nat) : (s.setRunOn a x).lb = s.lb := rfl
@[simp] theorem Part.setRunOn_link (s : Part) (a : Nat) (x : Option Nat) : (s.setRunOn a x).link = s.link := rfl
@[simp] theorem Part.setRunOn_due (s : Part) (a : Nat) (x : Option Nat) : (s.setRunOn a x).due = s.due := rfl
@[simp] theorem Part.setRunOn_running (s : Part) (a : Nat) (x : Option Nat) : (s.setRunOn a x).running = s.running := rfl

@[simp] theorem Part.setCurtainHanded_clock (s : Part) (a : Nat) (x : Bool) : (s.setCurtainHanded a x).clock = s.clock := rfl
@[simp] theorem Part.setCurtainHanded_cal (s : Part) (a : Nat) (x : Bool) : (s.setCurtainHanded a x).cal = s.cal := rfl
@[simp] theorem Part.setCurtainHanded_mu (s : Part) (a : Nat) (x : Bool) : (s.setCurtainHanded a x).mu = s.mu := rfl
@[simp] theorem Part.setCurtainHanded_dl (s : Part) (a : Nat) (x : Bool) : (s.setCurtainHanded a x).dl = s.dl := rfl
@[simp] theorem Part.setCurtainHanded_air (s : Part) (a : Nat) (x : Bool) : (s.setCurtainHanded a x).air = s.air := rfl
@[simp] theorem Part.setCurtainHanded_lb (s : Part) (a : Nat) (x : Bool) : (s.setCurtainHanded a x).lb = s.lb := rfl
@[simp] theorem Part.setCurtainHanded_link (s : Part) (a : Nat) (x : Bool) : (s.setCurtainHanded a x).link = s.link := rfl
@[simp] theorem Part.setCurtainHanded_due (s : Part) (a : Nat) (x : Bool) : (s.setCurtainHanded a x).due = s.due := rfl
@[simp] theorem Part.setCurtainHanded_running (s : Part) (a : Nat) (x : Bool) : (s.setCurtainHanded a x).running = s.running := rfl

@[simp] theorem Part.setEditor_clock (s : Part) (e : Editor) : (s.setEditor e).clock = s.clock := rfl
@[simp] theorem Part.setEditor_mu (s : Part) (e : Editor) : (s.setEditor e).mu = s.mu := rfl
@[simp] theorem Part.setEditor_dl (s : Part) (e : Editor) : (s.setEditor e).dl = s.dl := rfl
@[simp] theorem Part.setEditor_zc (s : Part) (e : Editor) : (s.setEditor e).zc = s.zc := rfl
@[simp] theorem Part.setEditor_air (s : Part) (e : Editor) : (s.setEditor e).air = s.air := rfl
@[simp] theorem Part.setEditor_lb (s : Part) (e : Editor) : (s.setEditor e).lb = s.lb := rfl
@[simp] theorem Part.setEditor_link (s : Part) (e : Editor) : (s.setEditor e).link = s.link := rfl
@[simp] theorem Part.setEditor_due (s : Part) (e : Editor) : (s.setEditor e).due = s.due := rfl
@[simp] theorem Part.setEditor_running (s : Part) (e : Editor) : (s.setEditor e).running = s.running := rfl

@[simp] theorem Part.setLine_clock (s : Part) (l : LineState) : (s.setLine l).clock = s.clock := rfl
@[simp] theorem Part.setLine_cal (s : Part) (l : LineState) : (s.setLine l).cal = s.cal := rfl
@[simp] theorem Part.setLine_mu (s : Part) (l : LineState) : (s.setLine l).mu = s.mu := rfl
@[simp] theorem Part.setLine_zc (s : Part) (l : LineState) : (s.setLine l).zc = s.zc := rfl
@[simp] theorem Part.setLine_air (s : Part) (l : LineState) : (s.setLine l).air = s.air := rfl
@[simp] theorem Part.setLine_lb (s : Part) (l : LineState) : (s.setLine l).lb = s.lb := rfl
@[simp] theorem Part.setLine_link (s : Part) (l : LineState) : (s.setLine l).link = s.link := rfl
@[simp] theorem Part.setLine_due (s : Part) (l : LineState) : (s.setLine l).due = s.due := rfl
@[simp] theorem Part.setLine_running (s : Part) (l : LineState) : (s.setLine l).running = s.running := rfl

@[simp] theorem Part.close_clock (s : Part) : s.close.clock = s.clock := rfl
@[simp] theorem Part.close_cal (s : Part) : s.close.cal = s.cal := rfl
@[simp] theorem Part.close_mu (s : Part) : s.close.mu = s.mu := rfl
@[simp] theorem Part.close_dl (s : Part) : s.close.dl = s.dl := rfl
@[simp] theorem Part.close_zc (s : Part) : s.close.zc = s.zc := rfl
@[simp] theorem Part.close_air (s : Part) : s.close.air = s.air := rfl
@[simp] theorem Part.close_lb (s : Part) : s.close.lb = s.lb := rfl
@[simp] theorem Part.close_due (s : Part) : s.close.due = s.due := rfl
@[simp] theorem Part.close_running (s : Part) : s.close.running = s.running := rfl

/-- Taking a due event leaves everything but the list of due events. -/
@[simp] theorem Part.settleDue_keeps (s : Part) (p : Due → Bool) :
    (s.settleDue p).clock = s.clock ∧ (s.settleDue p).cal = s.cal ∧ (s.settleDue p).mu = s.mu ∧ (s.settleDue p).dl = s.dl ∧
      (s.settleDue p).zc = s.zc ∧ (s.settleDue p).air = s.air ∧ (s.settleDue p).lb = s.lb ∧
      (s.settleDue p).link = s.link ∧ (s.settleDue p).running = s.running := by
  unfold Part.settleDue
  split <;> simp

/-! ### Combinators -/

/-- A fold of an operation that keeps a figure keeps it. -/
theorem foldl_keeps {α β : Type} (g : Part → β) (f : Part → α → Part) (h : ∀ s a, g (f s a) = g s) (l : List α) (s : Part) :
    g (l.foldl f s) = g s := by
  induction l generalizing s with
  | nil => rfl
  | cons a l ih => exact (ih _).trans (h s a)

/-- Storing what checks accept keeps what the store keeps. -/
theorem Part.outcome_keeps {α β : Type} (g : Part → β) (s : Part) (c : Checked α) (store : α → Part)
    (data : Part → List Byte) (h : ∀ v, g (store v) = g s) : g (s.outcome c store data).1 = g s := by
  unfold Part.outcome
  split
  · rfl
  · exact h _

/-- A configuration write keeps what its owner keeps, unsaved changes apart. -/
theorem Part.configWrite_keeps {β : Type} (g : Part → β) (s : Part) (act : Part → Part × Verdict)
    (hu : ∀ s, g (Part.markUnsaved s) = g s) (h : ∀ s, g (act s).1 = g s) : g (s.configWrite act).1 = g s := by
  unfold Part.configWrite unsavedIfDone
  split
  · rfl
  · split
    · exact (hu _).trans (h s)
    · exact h s

/-- A write of the edit copy keeps what setting the editor keeps. -/
theorem Part.calWrite_keeps {α β : Type} (g : Part → β) (s : Part) (c : Checked α) (store : CalCopy → α → CalCopy)
    (h : ∀ e s, g (Part.setEditor s e) = g s) : g (s.calWrite c store).1 = g s := by
  unfold Part.calWrite
  split
  · exact Part.outcome_keeps g s c _ _ fun v => h _ _
  · rfl
  · rfl

/-- A read changes nothing. -/
@[simp] theorem Part.read_part (s : Part) (bad : Bool) (field : Nat) (data : Part → List Byte) :
    (s.read bad field data).1 = s := by unfold Part.read; split <;> rfl

/-- A read of a calendar record changes nothing. -/
@[simp] theorem Part.calRead_part (s : Part) (c : Byte) (b : Bool) (data : CalCopy → List Byte) :
    (s.calRead c b data).1 = s := by unfold Part.calRead; (repeat' split) <;> rfl

@[simp] theorem Part.forEach_clock (f : Part → Nat → Part) (h : ∀ s n, (f s n).clock = s.clock) (l : List Nat) (s : Part) :
    (s.forEach l f).clock = s.clock := foldl_keeps (fun p => p.clock) f h l s
@[simp] theorem Part.foldl_clock {α : Type} (f : Part → α → Part) (h : ∀ s a, (f s a).clock = s.clock) (l : List α) (s : Part) :
    (l.foldl f s).clock = s.clock := foldl_keeps (fun p => p.clock) f h l s
@[simp] theorem Part.outcome_clock {α : Type} (s : Part) (c : Checked α) (store : α → Part) (data : Part → List Byte)
    (h : ∀ v, (store v).clock = s.clock) : (s.outcome c store data).1.clock = s.clock :=
  Part.outcome_keeps (fun p => p.clock) s c store data h
@[simp] theorem Part.configWrite_clock (s : Part) (act : Part → Part × Verdict) (h : ∀ s, (act s).1.clock = s.clock) :
    (s.configWrite act).1.clock = s.clock := Part.configWrite_keeps (fun p => p.clock) s act (fun _ => rfl) h
@[simp] theorem Part.calWrite_clock {α : Type} (s : Part) (c : Checked α) (store : CalCopy → α → CalCopy) :
    (s.calWrite c store).1.clock = s.clock := Part.calWrite_keeps (fun p => p.clock) s c store (fun _ _ => rfl)
@[simp] theorem Part.forEach_cal (f : Part → Nat → Part) (h : ∀ s n, (f s n).cal = s.cal) (l : List Nat) (s : Part) :
    (s.forEach l f).cal = s.cal := foldl_keeps (fun p => p.cal) f h l s
@[simp] theorem Part.foldl_cal {α : Type} (f : Part → α → Part) (h : ∀ s a, (f s a).cal = s.cal) (l : List α) (s : Part) :
    (l.foldl f s).cal = s.cal := foldl_keeps (fun p => p.cal) f h l s
@[simp] theorem Part.outcome_cal {α : Type} (s : Part) (c : Checked α) (store : α → Part) (data : Part → List Byte)
    (h : ∀ v, (store v).cal = s.cal) : (s.outcome c store data).1.cal = s.cal :=
  Part.outcome_keeps (fun p => p.cal) s c store data h
@[simp] theorem Part.configWrite_cal (s : Part) (act : Part → Part × Verdict) (h : ∀ s, (act s).1.cal = s.cal) :
    (s.configWrite act).1.cal = s.cal := Part.configWrite_keeps (fun p => p.cal) s act (fun _ => rfl) h
@[simp] theorem Part.forEach_mu (f : Part → Nat → Part) (h : ∀ s n, (f s n).mu = s.mu) (l : List Nat) (s : Part) :
    (s.forEach l f).mu = s.mu := foldl_keeps (fun p => p.mu) f h l s
@[simp] theorem Part.foldl_mu {α : Type} (f : Part → α → Part) (h : ∀ s a, (f s a).mu = s.mu) (l : List α) (s : Part) :
    (l.foldl f s).mu = s.mu := foldl_keeps (fun p => p.mu) f h l s
@[simp] theorem Part.outcome_mu {α : Type} (s : Part) (c : Checked α) (store : α → Part) (data : Part → List Byte)
    (h : ∀ v, (store v).mu = s.mu) : (s.outcome c store data).1.mu = s.mu :=
  Part.outcome_keeps (fun p => p.mu) s c store data h
@[simp] theorem Part.configWrite_mu (s : Part) (act : Part → Part × Verdict) (h : ∀ s, (act s).1.mu = s.mu) :
    (s.configWrite act).1.mu = s.mu := Part.configWrite_keeps (fun p => p.mu) s act (fun _ => rfl) h
@[simp] theorem Part.calWrite_mu {α : Type} (s : Part) (c : Checked α) (store : CalCopy → α → CalCopy) :
    (s.calWrite c store).1.mu = s.mu := Part.calWrite_keeps (fun p => p.mu) s c store (fun _ _ => rfl)
@[simp] theorem Part.forEach_dl (f : Part → Nat → Part) (h : ∀ s n, (f s n).dl = s.dl) (l : List Nat) (s : Part) :
    (s.forEach l f).dl = s.dl := foldl_keeps (fun p => p.dl) f h l s
@[simp] theorem Part.foldl_dl {α : Type} (f : Part → α → Part) (h : ∀ s a, (f s a).dl = s.dl) (l : List α) (s : Part) :
    (l.foldl f s).dl = s.dl := foldl_keeps (fun p => p.dl) f h l s
@[simp] theorem Part.outcome_dl {α : Type} (s : Part) (c : Checked α) (store : α → Part) (data : Part → List Byte)
    (h : ∀ v, (store v).dl = s.dl) : (s.outcome c store data).1.dl = s.dl :=
  Part.outcome_keeps (fun p => p.dl) s c store data h
@[simp] theorem Part.configWrite_dl (s : Part) (act : Part → Part × Verdict) (h : ∀ s, (act s).1.dl = s.dl) :
    (s.configWrite act).1.dl = s.dl := Part.configWrite_keeps (fun p => p.dl) s act (fun _ => rfl) h
@[simp] theorem Part.calWrite_dl {α : Type} (s : Part) (c : Checked α) (store : CalCopy → α → CalCopy) :
    (s.calWrite c store).1.dl = s.dl := Part.calWrite_keeps (fun p => p.dl) s c store (fun _ _ => rfl)
@[simp] theorem Part.forEach_zc (f : Part → Nat → Part) (h : ∀ s n, (f s n).zc = s.zc) (l : List Nat) (s : Part) :
    (s.forEach l f).zc = s.zc := foldl_keeps (fun p => p.zc) f h l s
@[simp] theorem Part.foldl_zc {α : Type} (f : Part → α → Part) (h : ∀ s a, (f s a).zc = s.zc) (l : List α) (s : Part) :
    (l.foldl f s).zc = s.zc := foldl_keeps (fun p => p.zc) f h l s
@[simp] theorem Part.outcome_zc {α : Type} (s : Part) (c : Checked α) (store : α → Part) (data : Part → List Byte)
    (h : ∀ v, (store v).zc = s.zc) : (s.outcome c store data).1.zc = s.zc :=
  Part.outcome_keeps (fun p => p.zc) s c store data h
@[simp] theorem Part.configWrite_zc (s : Part) (act : Part → Part × Verdict) (h : ∀ s, (act s).1.zc = s.zc) :
    (s.configWrite act).1.zc = s.zc := Part.configWrite_keeps (fun p => p.zc) s act (fun _ => rfl) h
@[simp] theorem Part.calWrite_zc {α : Type} (s : Part) (c : Checked α) (store : CalCopy → α → CalCopy) :
    (s.calWrite c store).1.zc = s.zc := Part.calWrite_keeps (fun p => p.zc) s c store (fun _ _ => rfl)
@[simp] theorem Part.forEach_air (f : Part → Nat → Part) (h : ∀ s n, (f s n).air = s.air) (l : List Nat) (s : Part) :
    (s.forEach l f).air = s.air := foldl_keeps (fun p => p.air) f h l s
@[simp] theorem Part.foldl_air {α : Type} (f : Part → α → Part) (h : ∀ s a, (f s a).air = s.air) (l : List α) (s : Part) :
    (l.foldl f s).air = s.air := foldl_keeps (fun p => p.air) f h l s
@[simp] theorem Part.outcome_air {α : Type} (s : Part) (c : Checked α) (store : α → Part) (data : Part → List Byte)
    (h : ∀ v, (store v).air = s.air) : (s.outcome c store data).1.air = s.air :=
  Part.outcome_keeps (fun p => p.air) s c store data h
@[simp] theorem Part.configWrite_air (s : Part) (act : Part → Part × Verdict) (h : ∀ s, (act s).1.air = s.air) :
    (s.configWrite act).1.air = s.air := Part.configWrite_keeps (fun p => p.air) s act (fun _ => rfl) h
@[simp] theorem Part.calWrite_air {α : Type} (s : Part) (c : Checked α) (store : CalCopy → α → CalCopy) :
    (s.calWrite c store).1.air = s.air := Part.calWrite_keeps (fun p => p.air) s c store (fun _ _ => rfl)
@[simp] theorem Part.forEach_lb (f : Part → Nat → Part) (h : ∀ s n, (f s n).lb = s.lb) (l : List Nat) (s : Part) :
    (s.forEach l f).lb = s.lb := foldl_keeps (fun p => p.lb) f h l s
@[simp] theorem Part.foldl_lb {α : Type} (f : Part → α → Part) (h : ∀ s a, (f s a).lb = s.lb) (l : List α) (s : Part) :
    (l.foldl f s).lb = s.lb := foldl_keeps (fun p => p.lb) f h l s
@[simp] theorem Part.outcome_lb {α : Type} (s : Part) (c : Checked α) (store : α → Part) (data : Part → List Byte)
    (h : ∀ v, (store v).lb = s.lb) : (s.outcome c store data).1.lb = s.lb :=
  Part.outcome_keeps (fun p => p.lb) s c store data h
@[simp] theorem Part.configWrite_lb (s : Part) (act : Part → Part × Verdict) (h : ∀ s, (act s).1.lb = s.lb) :
    (s.configWrite act).1.lb = s.lb := Part.configWrite_keeps (fun p => p.lb) s act (fun _ => rfl) h
@[simp] theorem Part.calWrite_lb {α : Type} (s : Part) (c : Checked α) (store : CalCopy → α → CalCopy) :
    (s.calWrite c store).1.lb = s.lb := Part.calWrite_keeps (fun p => p.lb) s c store (fun _ _ => rfl)
@[simp] theorem Part.forEach_link (f : Part → Nat → Part) (h : ∀ s n, (f s n).link = s.link) (l : List Nat) (s : Part) :
    (s.forEach l f).link = s.link := foldl_keeps (fun p => p.link) f h l s
@[simp] theorem Part.foldl_link {α : Type} (f : Part → α → Part) (h : ∀ s a, (f s a).link = s.link) (l : List α) (s : Part) :
    (l.foldl f s).link = s.link := foldl_keeps (fun p => p.link) f h l s
@[simp] theorem Part.outcome_link {α : Type} (s : Part) (c : Checked α) (store : α → Part) (data : Part → List Byte)
    (h : ∀ v, (store v).link = s.link) : (s.outcome c store data).1.link = s.link :=
  Part.outcome_keeps (fun p => p.link) s c store data h
@[simp] theorem Part.calWrite_link {α : Type} (s : Part) (c : Checked α) (store : CalCopy → α → CalCopy) :
    (s.calWrite c store).1.link = s.link := Part.calWrite_keeps (fun p => p.link) s c store (fun _ _ => rfl)
@[simp] theorem Part.forEach_due (f : Part → Nat → Part) (h : ∀ s n, (f s n).due = s.due) (l : List Nat) (s : Part) :
    (s.forEach l f).due = s.due := foldl_keeps (fun p => p.due) f h l s
@[simp] theorem Part.foldl_due {α : Type} (f : Part → α → Part) (h : ∀ s a, (f s a).due = s.due) (l : List α) (s : Part) :
    (l.foldl f s).due = s.due := foldl_keeps (fun p => p.due) f h l s
@[simp] theorem Part.outcome_due {α : Type} (s : Part) (c : Checked α) (store : α → Part) (data : Part → List Byte)
    (h : ∀ v, (store v).due = s.due) : (s.outcome c store data).1.due = s.due :=
  Part.outcome_keeps (fun p => p.due) s c store data h
@[simp] theorem Part.configWrite_due (s : Part) (act : Part → Part × Verdict) (h : ∀ s, (act s).1.due = s.due) :
    (s.configWrite act).1.due = s.due := Part.configWrite_keeps (fun p => p.due) s act (fun _ => rfl) h
@[simp] theorem Part.calWrite_due {α : Type} (s : Part) (c : Checked α) (store : CalCopy → α → CalCopy) :
    (s.calWrite c store).1.due = s.due := Part.calWrite_keeps (fun p => p.due) s c store (fun _ _ => rfl)
@[simp] theorem Part.forEach_running (f : Part → Nat → Part) (h : ∀ s n, (f s n).running = s.running) (l : List Nat) (s : Part) :
    (s.forEach l f).running = s.running := foldl_keeps (fun p => p.running) f h l s
@[simp] theorem Part.foldl_running {α : Type} (f : Part → α → Part) (h : ∀ s a, (f s a).running = s.running) (l : List α) (s : Part) :
    (l.foldl f s).running = s.running := foldl_keeps (fun p => p.running) f h l s
@[simp] theorem Part.outcome_running {α : Type} (s : Part) (c : Checked α) (store : α → Part) (data : Part → List Byte)
    (h : ∀ v, (store v).running = s.running) : (s.outcome c store data).1.running = s.running :=
  Part.outcome_keeps (fun p => p.running) s c store data h
@[simp] theorem Part.configWrite_running (s : Part) (act : Part → Part × Verdict) (h : ∀ s, (act s).1.running = s.running) :
    (s.configWrite act).1.running = s.running := Part.configWrite_keeps (fun p => p.running) s act (fun _ => rfl) h
@[simp] theorem Part.calWrite_running {α : Type} (s : Part) (c : Checked α) (store : CalCopy → α → CalCopy) :
    (s.calWrite c store).1.running = s.running := Part.calWrite_keeps (fun p => p.running) s c store (fun _ _ => rfl)
@[simp] theorem Part.forEach_link_still (f : Part → Nat → Part) (h : ∀ s n, (f s n).link.still = s.link.still) (l : List Nat) (s : Part) :
    (s.forEach l f).link.still = s.link.still := foldl_keeps (fun p => p.link.still) f h l s
@[simp] theorem Part.foldl_link_still {α : Type} (f : Part → α → Part) (h : ∀ s a, (f s a).link.still = s.link.still) (l : List α) (s : Part) :
    (l.foldl f s).link.still = s.link.still := foldl_keeps (fun p => p.link.still) f h l s
@[simp] theorem Part.outcome_link_still {α : Type} (s : Part) (c : Checked α) (store : α → Part) (data : Part → List Byte)
    (h : ∀ v, (store v).link.still = s.link.still) : (s.outcome c store data).1.link.still = s.link.still :=
  Part.outcome_keeps (fun p => p.link.still) s c store data h
@[simp] theorem Part.calWrite_link_still {α : Type} (s : Part) (c : Checked α) (store : CalCopy → α → CalCopy) :
    (s.calWrite c store).1.link.still = s.link.still := Part.calWrite_keeps (fun p => p.link.still) s c store (fun _ _ => rfl)
@[simp] theorem Part.forEach_link_core (f : Part → Nat → Part) (h : ∀ s n, (f s n).link.core = s.link.core) (l : List Nat) (s : Part) :
    (s.forEach l f).link.core = s.link.core := foldl_keeps (fun p => p.link.core) f h l s
@[simp] theorem Part.foldl_link_core {α : Type} (f : Part → α → Part) (h : ∀ s a, (f s a).link.core = s.link.core) (l : List α) (s : Part) :
    (l.foldl f s).link.core = s.link.core := foldl_keeps (fun p => p.link.core) f h l s
@[simp] theorem Part.outcome_link_core {α : Type} (s : Part) (c : Checked α) (store : α → Part) (data : Part → List Byte)
    (h : ∀ v, (store v).link.core = s.link.core) : (s.outcome c store data).1.link.core = s.link.core :=
  Part.outcome_keeps (fun p => p.link.core) s c store data h
@[simp] theorem Part.configWrite_link_core (s : Part) (act : Part → Part × Verdict) (h : ∀ s, (act s).1.link.core = s.link.core) :
    (s.configWrite act).1.link.core = s.link.core := Part.configWrite_keeps (fun p => p.link.core) s act (fun _ => rfl) h
@[simp] theorem Part.calWrite_link_core {α : Type} (s : Part) (c : Checked α) (store : CalCopy → α → CalCopy) :
    (s.calWrite c store).1.link.core = s.link.core := Part.calWrite_keeps (fun p => p.link.core) s c store (fun _ _ => rfl)
@[simp] theorem Part.forEach_cal_running (f : Part → Nat → Part) (h : ∀ s n, (f s n).cal.running = s.cal.running) (l : List Nat) (s : Part) :
    (s.forEach l f).cal.running = s.cal.running := foldl_keeps (fun p => p.cal.running) f h l s
@[simp] theorem Part.foldl_cal_running {α : Type} (f : Part → α → Part) (h : ∀ s a, (f s a).cal.running = s.cal.running) (l : List α) (s : Part) :
    (l.foldl f s).cal.running = s.cal.running := foldl_keeps (fun p => p.cal.running) f h l s
@[simp] theorem Part.outcome_cal_running {α : Type} (s : Part) (c : Checked α) (store : α → Part) (data : Part → List Byte)
    (h : ∀ v, (store v).cal.running = s.cal.running) : (s.outcome c store data).1.cal.running = s.cal.running :=
  Part.outcome_keeps (fun p => p.cal.running) s c store data h
@[simp] theorem Part.configWrite_cal_running (s : Part) (act : Part → Part × Verdict) (h : ∀ s, (act s).1.cal.running = s.cal.running) :
    (s.configWrite act).1.cal.running = s.cal.running := Part.configWrite_keeps (fun p => p.cal.running) s act (fun _ => rfl) h
@[simp] theorem Part.calWrite_cal_running {α : Type} (s : Part) (c : Checked α) (store : CalCopy → α → CalCopy) :
    (s.calWrite c store).1.cal.running = s.cal.running := Part.calWrite_keeps (fun p => p.cal.running) s c store (fun _ _ => rfl)

end Sys2Proof.Machine
end

