-- ==== Sys2Proof/Laws/Frames.lean ====
section
/-! SUPPORT. The frame of each operation over the part: which blocks it leaves as they were. One lemma an operation; simp takes
each conjunct of it. -/

namespace Sys2Proof.Machine

/-! ### Operations -/

@[simp] theorem Part.post_keeps (s : Part) (kind : NoticeKind) (subject : Nat) (detail : List Byte) :
    (s.post kind subject detail).clock = s.clock ∧ (s.post kind subject detail).cal = s.cal ∧
      (s.post kind subject detail).mu = s.mu ∧ (s.post kind subject detail).dl = s.dl ∧
      (s.post kind subject detail).zc = s.zc ∧ (s.post kind subject detail).air = s.air ∧
      (s.post kind subject detail).lb = s.lb ∧ (s.post kind subject detail).due = s.due ∧
      (s.post kind subject detail).running = s.running ∧ (s.post kind subject detail).link.still = s.link.still ∧
      (s.post kind subject detail).link.core = s.link.core := by
  unfold Part.post
  (repeat' split) <;> simp [Link.core, Link.still]

/-! ### Outbound queue -/

@[simp] theorem Part.formOutputs_keeps (s : Part) (a : Nat) :
    (s.formOutputs a).clock = s.clock ∧ (s.formOutputs a).cal = s.cal ∧ (s.formOutputs a).mu = s.mu ∧
      (s.formOutputs a).zc = s.zc ∧ (s.formOutputs a).air = s.air ∧ (s.formOutputs a).lb = s.lb ∧
      (s.formOutputs a).link = s.link ∧ (s.formOutputs a).due = s.due ∧ (s.formOutputs a).running = s.running := by
  simp only [Part.formOutputs]
  (repeat' split) <;> simp_all

@[simp] theorem Part.startFrame_keeps (s : Part) :
    s.startFrame.clock = s.clock ∧ s.startFrame.cal = s.cal ∧ s.startFrame.mu = s.mu ∧ s.startFrame.zc = s.zc ∧
      s.startFrame.air = s.air ∧ s.startFrame.lb = s.lb ∧ s.startFrame.link = s.link ∧ s.startFrame.due = s.due ∧
      s.startFrame.running = s.running := by
  unfold Part.startFrame
  (repeat' split) <;> simp

/-! ### Allocation -/

@[simp] theorem Part.driveOutputs_keeps (s : Part) (before : Budget) (queue : List Nat) :
    (s.driveOutputs before queue).clock = s.clock ∧ (s.driveOutputs before queue).cal = s.cal ∧
      (s.driveOutputs before queue).mu = s.mu ∧ (s.driveOutputs before queue).zc = s.zc ∧
      (s.driveOutputs before queue).air = s.air ∧ (s.driveOutputs before queue).link = s.link ∧
      (s.driveOutputs before queue).due = s.due ∧ (s.driveOutputs before queue).running = s.running := by
  simp [Part.driveOutputs]

@[simp] theorem Part.budgetCheck_keeps (s : Part) :
    s.budgetCheck.clock = s.clock ∧ s.budgetCheck.cal = s.cal ∧ s.budgetCheck.mu = s.mu ∧ s.budgetCheck.dl = s.dl ∧
      s.budgetCheck.zc = s.zc ∧ s.budgetCheck.air = s.air ∧ s.budgetCheck.due = s.due ∧
      s.budgetCheck.running = s.running ∧ s.budgetCheck.link.still = s.link.still ∧
      s.budgetCheck.link.core = s.link.core := by
  simp only [Part.budgetCheck]
  (repeat' split) <;> simp_all

@[simp] theorem Part.withTable_keeps (s : Part) (lb : Budget) :
    (s.withTable lb).clock = s.clock ∧ (s.withTable lb).cal = s.cal ∧ (s.withTable lb).mu = s.mu ∧
      (s.withTable lb).zc = s.zc ∧ (s.withTable lb).air = s.air ∧ (s.withTable lb).due = s.due ∧
      (s.withTable lb).running = s.running ∧ (s.withTable lb).link.still = s.link.still ∧
      (s.withTable lb).link.core = s.link.core := by
  simp [Part.withTable]

@[simp] theorem Part.pass_keeps (s : Part) :
    s.pass.clock = s.clock ∧ s.pass.cal = s.cal ∧ s.pass.mu = s.mu ∧ s.pass.zc = s.zc ∧ s.pass.air = s.air ∧
      s.pass.due = s.due ∧ s.pass.running = s.running ∧ s.pass.link.still = s.link.still ∧
      s.pass.link.core = s.link.core := by
  simp [Part.pass]

@[simp] theorem Part.startEvent_keeps (s : Part) :
    s.startEvent.clock = s.clock ∧ s.startEvent.cal = s.cal ∧ s.startEvent.mu = s.mu ∧ s.startEvent.zc = s.zc ∧
      s.startEvent.air = s.air ∧ s.startEvent.link = s.link ∧ s.startEvent.due = s.due ∧
      s.startEvent.running = s.running := by
  simp [Part.startEvent]

@[simp] theorem Part.takeChange_keeps (s : Part) (c : Change) :
    (s.takeChange c).clock = s.clock ∧ (s.takeChange c).cal = s.cal ∧ (s.takeChange c).mu = s.mu ∧
      (s.takeChange c).zc = s.zc ∧ (s.takeChange c).air = s.air ∧ (s.takeChange c).due = s.due ∧
      (s.takeChange c).running = s.running ∧ (s.takeChange c).link.still = s.link.still ∧
      (s.takeChange c).link.core = s.link.core := by
  simp only [Part.takeChange]
  (repeat' split) <;> simp_all

@[simp] theorem Part.takeOldest_keeps (s : Part) (c : Change) :
    (s.takeOldest c).clock = s.clock ∧ (s.takeOldest c).cal = s.cal ∧ (s.takeOldest c).mu = s.mu ∧
      (s.takeOldest c).zc = s.zc ∧ (s.takeOldest c).air = s.air ∧ (s.takeOldest c).running = s.running ∧
      (s.takeOldest c).link.still = s.link.still ∧ (s.takeOldest c).link.core = s.link.core := by
  unfold Part.takeOldest
  (repeat' split) <;> simp

@[simp] theorem Part.takeNth_keeps (s : Part) (n : Nat) :
    (s.takeNth n).clock = s.clock ∧ (s.takeNth n).cal = s.cal ∧ (s.takeNth n).mu = s.mu ∧ (s.takeNth n).zc = s.zc ∧
      (s.takeNth n).air = s.air ∧ (s.takeNth n).running = s.running ∧ (s.takeNth n).link.still = s.link.still ∧
      (s.takeNth n).link.core = s.link.core := by
  unfold Part.takeNth
  (repeat' split) <;> simp

@[simp] theorem Part.handWindow_keeps (s : Part) (limit : Option Nat) :
    (s.handWindow limit).clock = s.clock ∧ (s.handWindow limit).cal = s.cal ∧ (s.handWindow limit).mu = s.mu ∧
      (s.handWindow limit).zc = s.zc ∧ (s.handWindow limit).air = s.air ∧ (s.handWindow limit).running = s.running ∧
      (s.handWindow limit).link.still = s.link.still ∧ (s.handWindow limit).link.core = s.link.core := by
  simp [Part.handWindow]

@[simp] theorem Part.withLimits_keeps (s : Part) (lb : Budget) :
    (s.withLimits lb).clock = s.clock ∧ (s.withLimits lb).cal = s.cal ∧ (s.withLimits lb).mu = s.mu ∧
      (s.withLimits lb).zc = s.zc ∧ (s.withLimits lb).air = s.air ∧ (s.withLimits lb).due = s.due ∧
      (s.withLimits lb).running = s.running ∧ (s.withLimits lb).link.still = s.link.still ∧
      (s.withLimits lb).link.core = s.link.core := by
  unfold Part.withLimits
  (repeat' split) <;> simp

/-! ### Zone conditioner -/

@[simp] theorem Part.postLost_keeps (s : Part) (z : Nat) (zone : Zone) (r : HeatReading) :
    (s.postLost z zone r).clock = s.clock ∧ (s.postLost z zone r).cal = s.cal ∧ (s.postLost z zone r).mu = s.mu ∧
      (s.postLost z zone r).dl = s.dl ∧ (s.postLost z zone r).zc = s.zc ∧ (s.postLost z zone r).air = s.air ∧
      (s.postLost z zone r).lb = s.lb ∧ (s.postLost z zone r).due = s.due ∧ (s.postLost z zone r).running = s.running
      ∧ (s.postLost z zone r).link.still = s.link.still ∧ (s.postLost z zone r).link.core = s.link.core := by
  unfold Part.postLost
  (repeat' split) <;> simp

@[simp] theorem Part.handHeatStage_keeps (z : Nat) (s : Part) (k : Nat) :
    (Part.handHeatStage z s k).clock = s.clock ∧ (Part.handHeatStage z s k).cal = s.cal ∧
      (Part.handHeatStage z s k).mu = s.mu ∧ (Part.handHeatStage z s k).dl = s.dl ∧
      (Part.handHeatStage z s k).air = s.air ∧ (Part.handHeatStage z s k).lb = s.lb ∧
      (Part.handHeatStage z s k).link = s.link ∧ (Part.handHeatStage z s k).running = s.running := by
  simp only [Part.handHeatStage]
  (repeat' split) <;> simp_all

@[simp] theorem Part.handHeat_keeps (s : Part) (z : Nat) :
    (s.handHeat z).clock = s.clock ∧ (s.handHeat z).cal = s.cal ∧ (s.handHeat z).mu = s.mu ∧
      (s.handHeat z).dl = s.dl ∧ (s.handHeat z).air = s.air ∧ (s.handHeat z).lb = s.lb ∧ (s.handHeat z).link = s.link
      ∧ (s.handHeat z).running = s.running := by
  simp [Part.handHeat]

@[simp] theorem Part.computeLight_keeps (s : Part) (z : Nat) :
    (s.computeLight z).clock = s.clock ∧ (s.computeLight z).cal = s.cal ∧ (s.computeLight z).mu = s.mu ∧
      (s.computeLight z).dl = s.dl ∧ (s.computeLight z).air = s.air ∧ (s.computeLight z).lb = s.lb ∧
      (s.computeLight z).link = s.link ∧ (s.computeLight z).running = s.running := by
  simp only [Part.computeLight]
  (repeat' split) <;> simp_all

@[simp] theorem Part.judgeLightGuard_keeps (s : Part) (z : Nat) :
    (s.judgeLightGuard z).clock = s.clock ∧ (s.judgeLightGuard z).cal = s.cal ∧ (s.judgeLightGuard z).mu = s.mu ∧
      (s.judgeLightGuard z).dl = s.dl ∧ (s.judgeLightGuard z).air = s.air ∧ (s.judgeLightGuard z).lb = s.lb ∧
      (s.judgeLightGuard z).link = s.link ∧ (s.judgeLightGuard z).running = s.running := by
  simp only [Part.judgeLightGuard]
  (repeat' split) <;> simp_all

@[simp] theorem Part.withPresence_keeps (s : Part) (z : Nat) (left : Option Nat) :
    (s.withPresence z left).clock = s.clock ∧ (s.withPresence z left).cal = s.cal ∧
      (s.withPresence z left).mu = s.mu ∧ (s.withPresence z left).dl = s.dl ∧ (s.withPresence z left).air = s.air ∧
      (s.withPresence z left).lb = s.lb ∧ (s.withPresence z left).link = s.link ∧
      (s.withPresence z left).running = s.running := by
  simp [Part.withPresence]

@[simp] theorem Part.takePresence_keeps (s : Part) (z : Nat) :
    (s.takePresence z).clock = s.clock ∧ (s.takePresence z).cal = s.cal ∧ (s.takePresence z).mu = s.mu ∧
      (s.takePresence z).dl = s.dl ∧ (s.takePresence z).air = s.air ∧ (s.takePresence z).lb = s.lb ∧
      (s.takePresence z).link = s.link ∧ (s.takePresence z).running = s.running := by
  simp [Part.takePresence]

@[simp] theorem Part.handCurtain_keeps (s : Part) (a : Nat) :
    (s.handCurtain a).clock = s.clock ∧ (s.handCurtain a).cal = s.cal ∧ (s.handCurtain a).mu = s.mu ∧
      (s.handCurtain a).dl = s.dl ∧ (s.handCurtain a).air = s.air ∧ (s.handCurtain a).lb = s.lb ∧
      (s.handCurtain a).link = s.link ∧ (s.handCurtain a).running = s.running := by
  unfold Part.handCurtain
  (repeat' split) <;> simp

@[simp] theorem Part.setDemand_keeps (s : Part) (a : Nat) (demand : Nat) (runOn : Option Nat) :
    (s.setDemand a demand runOn).clock = s.clock ∧ (s.setDemand a demand runOn).cal = s.cal ∧
      (s.setDemand a demand runOn).mu = s.mu ∧ (s.setDemand a demand runOn).air = s.air ∧
      (s.setDemand a demand runOn).lb = s.lb ∧ (s.setDemand a demand runOn).link = s.link ∧
      (s.setDemand a demand runOn).running = s.running := by
  simp [Part.setDemand]

@[simp] theorem Part.computeCurtain_keeps (s : Part) (a : Nat) :
    (s.computeCurtain a).clock = s.clock ∧ (s.computeCurtain a).cal = s.cal ∧ (s.computeCurtain a).mu = s.mu ∧
      (s.computeCurtain a).air = s.air ∧ (s.computeCurtain a).lb = s.lb ∧ (s.computeCurtain a).link = s.link ∧
      (s.computeCurtain a).running = s.running := by
  simp [Part.computeCurtain]

@[simp] theorem Part.zeroDemand_keeps (s : Part) (a : Nat) :
    (s.zeroDemand a).clock = s.clock ∧ (s.zeroDemand a).cal = s.cal ∧ (s.zeroDemand a).mu = s.mu ∧
      (s.zeroDemand a).air = s.air ∧ (s.zeroDemand a).lb = s.lb ∧ (s.zeroDemand a).link = s.link ∧
      (s.zeroDemand a).running = s.running := by
  simp [Part.zeroDemand]

@[simp] theorem Part.evaluate_keeps (s : Part) (z : Nat) :
    (s.evaluate z).clock = s.clock ∧ (s.evaluate z).cal = s.cal ∧ (s.evaluate z).mu = s.mu ∧
      (s.evaluate z).air = s.air ∧ (s.evaluate z).lb = s.lb ∧ (s.evaluate z).running = s.running ∧
      (s.evaluate z).link.still = s.link.still ∧ (s.evaluate z).link.core = s.link.core := by
  simp [Part.evaluate]

@[simp] theorem Part.takePhase_keeps (s : Part) (z : Nat) (before : Phase) :
    (s.takePhase z before).clock = s.clock ∧ (s.takePhase z before).cal = s.cal ∧ (s.takePhase z before).mu = s.mu ∧
      (s.takePhase z before).dl = s.dl ∧ (s.takePhase z before).air = s.air ∧ (s.takePhase z before).lb = s.lb ∧
      (s.takePhase z before).link = s.link ∧ (s.takePhase z before).running = s.running := by
  simp only [Part.takePhase]
  (repeat' split) <;> simp_all

@[simp] theorem Part.setFreezeGuard_keeps (s : Part) (z : Nat) (stands : Bool) :
    (s.setFreezeGuard z stands).clock = s.clock ∧ (s.setFreezeGuard z stands).cal = s.cal ∧
      (s.setFreezeGuard z stands).mu = s.mu ∧ (s.setFreezeGuard z stands).dl = s.dl ∧
      (s.setFreezeGuard z stands).air = s.air ∧ (s.setFreezeGuard z stands).lb = s.lb ∧
      (s.setFreezeGuard z stands).link = s.link ∧ (s.setFreezeGuard z stands).running = s.running := by
  unfold Part.setFreezeGuard
  (repeat' split) <;> simp

@[simp] theorem Part.takeFreezeEdge_keeps (s : Part) (c : Nat) (alarm : Bool) :
    (s.takeFreezeEdge c alarm).clock = s.clock ∧ (s.takeFreezeEdge c alarm).cal = s.cal ∧
      (s.takeFreezeEdge c alarm).mu = s.mu ∧ (s.takeFreezeEdge c alarm).air = s.air ∧
      (s.takeFreezeEdge c alarm).lb = s.lb ∧ (s.takeFreezeEdge c alarm).running = s.running ∧
      (s.takeFreezeEdge c alarm).link.still = s.link.still ∧ (s.takeFreezeEdge c alarm).link.core = s.link.core := by
  simp [Part.takeFreezeEdge]

@[simp] theorem Part.takeStageCount_keeps (s : Part) (z : Nat) :
    (s.takeStageCount z).clock = s.clock ∧ (s.takeStageCount z).cal = s.cal ∧ (s.takeStageCount z).mu = s.mu ∧
      (s.takeStageCount z).air = s.air ∧ (s.takeStageCount z).lb = s.lb ∧ (s.takeStageCount z).running = s.running ∧
      (s.takeStageCount z).link.still = s.link.still ∧ (s.takeStageCount z).link.core = s.link.core := by
  simp [Part.takeStageCount]

@[simp] theorem Part.gainLight_keeps (s : Part) (z : Nat) :
    (s.gainLight z).clock = s.clock ∧ (s.gainLight z).cal = s.cal ∧ (s.gainLight z).mu = s.mu ∧
      (s.gainLight z).dl = s.dl ∧ (s.gainLight z).air = s.air ∧ (s.gainLight z).lb = s.lb ∧
      (s.gainLight z).link = s.link ∧ (s.gainLight z).running = s.running := by
  simp only [Part.gainLight]
  split <;> simp

@[simp] theorem Part.loseLight_keeps (s : Part) (z : Nat) :
    (s.loseLight z).clock = s.clock ∧ (s.loseLight z).cal = s.cal ∧ (s.loseLight z).mu = s.mu ∧
      (s.loseLight z).dl = s.dl ∧ (s.loseLight z).air = s.air ∧ (s.loseLight z).lb = s.lb ∧
      (s.loseLight z).link = s.link ∧ (s.loseLight z).due = s.due ∧ (s.loseLight z).running = s.running := by
  simp [Part.loseLight]

@[simp] theorem Part.gainCurtain_keeps (s : Part) (a : Nat) :
    (s.gainCurtain a).clock = s.clock ∧ (s.gainCurtain a).cal = s.cal ∧ (s.gainCurtain a).mu = s.mu ∧
      (s.gainCurtain a).dl = s.dl ∧ (s.gainCurtain a).air = s.air ∧ (s.gainCurtain a).lb = s.lb ∧
      (s.gainCurtain a).link = s.link ∧ (s.gainCurtain a).running = s.running := by
  simp only [Part.gainCurtain]
  split <;> simp

@[simp] theorem Part.loseCurtain_keeps (s : Part) (a : Nat) :
    (s.loseCurtain a).clock = s.clock ∧ (s.loseCurtain a).cal = s.cal ∧ (s.loseCurtain a).mu = s.mu ∧
      (s.loseCurtain a).air = s.air ∧ (s.loseCurtain a).lb = s.lb ∧ (s.loseCurtain a).link = s.link ∧
      (s.loseCurtain a).due = s.due ∧ (s.loseCurtain a).running = s.running := by
  simp [Part.loseCurtain]

@[simp] theorem Part.runOnExpires_keeps (s : Part) (a : Nat) :
    (s.runOnExpires a).clock = s.clock ∧ (s.runOnExpires a).cal = s.cal ∧ (s.runOnExpires a).mu = s.mu ∧
      (s.runOnExpires a).air = s.air ∧ (s.runOnExpires a).lb = s.lb ∧ (s.runOnExpires a).link = s.link ∧
      (s.runOnExpires a).running = s.running := by
  simp [Part.runOnExpires]

/-! ### Air quality unit -/

@[simp] theorem Part.postLevel_keeps (s : Part) (c old new : Nat) (cause : LevelCause) :
    (s.postLevel c old new cause).clock = s.clock ∧ (s.postLevel c old new cause).cal = s.cal ∧
      (s.postLevel c old new cause).mu = s.mu ∧ (s.postLevel c old new cause).dl = s.dl ∧
      (s.postLevel c old new cause).zc = s.zc ∧ (s.postLevel c old new cause).air = s.air ∧
      (s.postLevel c old new cause).lb = s.lb ∧ (s.postLevel c old new cause).due = s.due ∧
      (s.postLevel c old new cause).running = s.running ∧ (s.postLevel c old new cause).link.still = s.link.still ∧
      (s.postLevel c old new cause).link.core = s.link.core := by
  simp [Part.postLevel]

@[simp] theorem Part.setLevel_keeps (s : Part) (c level : Nat) (source : LevelSource) (cause : LevelCause) :
    (s.setLevel c level source cause).clock = s.clock ∧ (s.setLevel c level source cause).cal = s.cal ∧
      (s.setLevel c level source cause).mu = s.mu ∧ (s.setLevel c level source cause).dl = s.dl ∧
      (s.setLevel c level source cause).zc = s.zc ∧ (s.setLevel c level source cause).lb = s.lb ∧
      (s.setLevel c level source cause).running = s.running ∧
      (s.setLevel c level source cause).link.still = s.link.still ∧
      (s.setLevel c level source cause).link.core = s.link.core := by
  simp only [Part.setLevel]
  (repeat' split) <;> simp_all

@[simp] theorem Part.oweGroups_keeps (s : Part) (a b : Nat) :
    (s.oweGroups a b).clock = s.clock ∧ (s.oweGroups a b).cal = s.cal ∧ (s.oweGroups a b).mu = s.mu ∧
      (s.oweGroups a b).dl = s.dl ∧ (s.oweGroups a b).zc = s.zc ∧ (s.oweGroups a b).air = s.air ∧
      (s.oweGroups a b).lb = s.lb ∧ (s.oweGroups a b).link = s.link ∧ (s.oweGroups a b).running = s.running := by
  unfold Part.oweGroups
  (repeat' split) <;> simp

@[simp] theorem Part.takeUp_keeps (s : Part) (c : Nat) :
    (s.takeUp c).clock = s.clock ∧ (s.takeUp c).cal = s.cal ∧ (s.takeUp c).mu = s.mu ∧ (s.takeUp c).dl = s.dl ∧
      (s.takeUp c).zc = s.zc ∧ (s.takeUp c).lb = s.lb ∧ (s.takeUp c).running = s.running ∧
      (s.takeUp c).link.still = s.link.still ∧ (s.takeUp c).link.core = s.link.core := by
  simp only [Part.takeUp]
  (repeat' split) <;> simp_all

@[simp] theorem Part.judgeHold_keeps (s : Part) (c : Nat) (age : Option Nat) :
    (s.judgeHold c age).clock = s.clock ∧ (s.judgeHold c age).cal = s.cal ∧ (s.judgeHold c age).mu = s.mu ∧
      (s.judgeHold c age).dl = s.dl ∧ (s.judgeHold c age).zc = s.zc ∧ (s.judgeHold c age).lb = s.lb ∧
      (s.judgeHold c age).running = s.running ∧ (s.judgeHold c age).link.still = s.link.still ∧
      (s.judgeHold c age).link.core = s.link.core := by
  simp only [Part.judgeHold]
  (repeat' split) <;> simp_all

@[simp] theorem Part.takeGas_keeps (s : Part) (c : Nat) (value : Int) (validity : Validity) (age : Option Nat) :
    (s.takeGas c value validity age).clock = s.clock ∧ (s.takeGas c value validity age).cal = s.cal ∧
      (s.takeGas c value validity age).mu = s.mu ∧ (s.takeGas c value validity age).dl = s.dl ∧
      (s.takeGas c value validity age).zc = s.zc ∧ (s.takeGas c value validity age).lb = s.lb ∧
      (s.takeGas c value validity age).running = s.running ∧
      (s.takeGas c value validity age).link.still = s.link.still ∧
      (s.takeGas c value validity age).link.core = s.link.core := by
  simp only [Part.takeGas]
  (repeat' split) <;> simp_all

@[simp] theorem Part.holdCheckAt_keeps (s : Part) (c : Nat) :
    (s.holdCheckAt c).clock = s.clock ∧ (s.holdCheckAt c).cal = s.cal ∧ (s.holdCheckAt c).mu = s.mu ∧
      (s.holdCheckAt c).dl = s.dl ∧ (s.holdCheckAt c).zc = s.zc ∧ (s.holdCheckAt c).lb = s.lb ∧
      (s.holdCheckAt c).running = s.running ∧ (s.holdCheckAt c).link.still = s.link.still ∧
      (s.holdCheckAt c).link.core = s.link.core := by
  simp only [Part.holdCheckAt]
  (repeat' split) <;> simp_all

@[simp] theorem Part.runHoldCheck_keeps (s : Part) :
    s.runHoldCheck.clock = s.clock ∧ s.runHoldCheck.cal = s.cal ∧ s.runHoldCheck.mu = s.mu ∧
      s.runHoldCheck.dl = s.dl ∧ s.runHoldCheck.zc = s.zc ∧ s.runHoldCheck.lb = s.lb ∧
      s.runHoldCheck.running = s.running ∧ s.runHoldCheck.link.still = s.link.still ∧
      s.runHoldCheck.link.core = s.link.core := by
  simp [Part.runHoldCheck]

@[simp] theorem Part.handFanStage_keeps (g : Nat) (s : Part) (k : Nat) :
    (Part.handFanStage g s k).clock = s.clock ∧ (Part.handFanStage g s k).cal = s.cal ∧
      (Part.handFanStage g s k).mu = s.mu ∧ (Part.handFanStage g s k).dl = s.dl ∧ (Part.handFanStage g s k).zc = s.zc
      ∧ (Part.handFanStage g s k).lb = s.lb ∧ (Part.handFanStage g s k).link = s.link ∧
      (Part.handFanStage g s k).running = s.running := by
  simp only [Part.handFanStage]
  (repeat' split) <;> simp_all

@[simp] theorem Part.judgeAlarm_keeps (s : Part) (g : Nat) :
    (s.judgeAlarm g).clock = s.clock ∧ (s.judgeAlarm g).cal = s.cal ∧ (s.judgeAlarm g).mu = s.mu ∧
      (s.judgeAlarm g).dl = s.dl ∧ (s.judgeAlarm g).zc = s.zc ∧ (s.judgeAlarm g).lb = s.lb ∧
      (s.judgeAlarm g).running = s.running ∧ (s.judgeAlarm g).link.still = s.link.still ∧
      (s.judgeAlarm g).link.core = s.link.core := by
  simp only [Part.judgeAlarm]
  (repeat' split) <;> simp_all

@[simp] theorem Part.computeDemand_keeps (s : Part) (g : Nat) :
    (s.computeDemand g).clock = s.clock ∧ (s.computeDemand g).cal = s.cal ∧ (s.computeDemand g).mu = s.mu ∧
      (s.computeDemand g).dl = s.dl ∧ (s.computeDemand g).zc = s.zc ∧ (s.computeDemand g).lb = s.lb ∧
      (s.computeDemand g).running = s.running ∧ (s.computeDemand g).link.still = s.link.still ∧
      (s.computeDemand g).link.core = s.link.core := by
  simp [Part.computeDemand]

@[simp] theorem Part.takeFanCount_keeps (s : Part) (g : Nat) :
    (s.takeFanCount g).clock = s.clock ∧ (s.takeFanCount g).cal = s.cal ∧ (s.takeFanCount g).mu = s.mu ∧
      (s.takeFanCount g).dl = s.dl ∧ (s.takeFanCount g).zc = s.zc ∧ (s.takeFanCount g).lb = s.lb ∧
      (s.takeFanCount g).running = s.running ∧ (s.takeFanCount g).link.still = s.link.still ∧
      (s.takeFanCount g).link.core = s.link.core := by
  simp [Part.takeFanCount]

/-! ### Calendar and clock -/

@[simp] theorem Part.postPhase_keeps (s : Part) (z : Nat) (old : Standing) :
    (s.postPhase z old).clock = s.clock ∧ (s.postPhase z old).cal = s.cal ∧ (s.postPhase z old).mu = s.mu ∧
      (s.postPhase z old).dl = s.dl ∧ (s.postPhase z old).zc = s.zc ∧ (s.postPhase z old).air = s.air ∧
      (s.postPhase z old).lb = s.lb ∧ (s.postPhase z old).due = s.due ∧ (s.postPhase z old).running = s.running ∧
      (s.postPhase z old).link.still = s.link.still ∧ (s.postPhase z old).link.core = s.link.core := by
  simp [Part.postPhase]

@[simp] theorem Part.handPhase_keeps (s : Part) (z : Nat) (old : Standing) :
    (s.handPhase z old).clock = s.clock ∧ (s.handPhase z old).cal = s.cal ∧ (s.handPhase z old).mu = s.mu ∧
      (s.handPhase z old).dl = s.dl ∧ (s.handPhase z old).air = s.air ∧ (s.handPhase z old).lb = s.lb ∧
      (s.handPhase z old).link = s.link ∧ (s.handPhase z old).running = s.running := by
  simp [Part.handPhase]

@[simp] theorem Part.handZone_keeps (s : Part) (z : Nat) (old : Standing) (always : Bool) :
    (s.handZone z old always).clock = s.clock ∧ (s.handZone z old always).cal = s.cal ∧
      (s.handZone z old always).mu = s.mu ∧ (s.handZone z old always).dl = s.dl ∧
      (s.handZone z old always).air = s.air ∧ (s.handZone z old always).lb = s.lb ∧
      (s.handZone z old always).running = s.running ∧ (s.handZone z old always).link.still = s.link.still ∧
      (s.handZone z old always).link.core = s.link.core := by
  unfold Part.handZone
  (repeat' split) <;> simp

@[simp] theorem Part.handZones_keeps (s : Part) (old : Vector CalZone 12) (always : Bool) :
    (s.handZones old always).clock = s.clock ∧ (s.handZones old always).cal = s.cal ∧
      (s.handZones old always).mu = s.mu ∧ (s.handZones old always).dl = s.dl ∧ (s.handZones old always).air = s.air ∧
      (s.handZones old always).lb = s.lb ∧ (s.handZones old always).running = s.running ∧
      (s.handZones old always).link.still = s.link.still ∧ (s.handZones old always).link.core = s.link.core := by
  simp [Part.handZones]

@[simp] theorem Part.recomputeWindow_keeps (s : Part) :
    s.recomputeWindow.clock = s.clock ∧ s.recomputeWindow.mu = s.mu ∧ s.recomputeWindow.zc = s.zc ∧
      s.recomputeWindow.air = s.air ∧ s.recomputeWindow.running = s.running ∧
      s.recomputeWindow.link.still = s.link.still ∧ s.recomputeWindow.link.core = s.link.core ∧
      s.recomputeWindow.cal.running = s.cal.running := by
  simp only [Part.recomputeWindow]
  (repeat' split) <;> simp_all

@[simp] theorem Part.postOverrideEnd_keeps (s : Part) (z : Nat) (light cancelled : Bool) (what : Nat) :
    (s.postOverrideEnd z light cancelled what).clock = s.clock ∧
      (s.postOverrideEnd z light cancelled what).cal = s.cal ∧ (s.postOverrideEnd z light cancelled what).mu = s.mu ∧
      (s.postOverrideEnd z light cancelled what).dl = s.dl ∧ (s.postOverrideEnd z light cancelled what).zc = s.zc ∧
      (s.postOverrideEnd z light cancelled what).air = s.air ∧ (s.postOverrideEnd z light cancelled what).lb = s.lb ∧
      (s.postOverrideEnd z light cancelled what).due = s.due ∧
      (s.postOverrideEnd z light cancelled what).running = s.running ∧
      (s.postOverrideEnd z light cancelled what).link.still = s.link.still ∧
      (s.postOverrideEnd z light cancelled what).link.core = s.link.core := by
  simp [Part.postOverrideEnd]

@[simp] theorem Part.resolveZones_keeps (s : Part) :
    s.resolveZones.clock = s.clock ∧ s.resolveZones.mu = s.mu ∧ s.resolveZones.dl = s.dl ∧ s.resolveZones.zc = s.zc
      ∧ s.resolveZones.air = s.air ∧ s.resolveZones.lb = s.lb ∧ s.resolveZones.link = s.link ∧
      s.resolveZones.due = s.due ∧ s.resolveZones.running = s.running ∧ s.resolveZones.cal.running = s.cal.running := by
  simp [Part.resolveZones]

@[simp] theorem Part.passZones_keeps (s : Part) :
    s.passZones.clock = s.clock ∧ s.passZones.mu = s.mu ∧ s.passZones.dl = s.dl ∧ s.passZones.zc = s.zc ∧
      s.passZones.air = s.air ∧ s.passZones.lb = s.lb ∧ s.passZones.link = s.link ∧ s.passZones.due = s.due ∧
      s.passZones.running = s.running ∧ s.passZones.cal.running = s.cal.running := by
  simp [Part.passZones]

@[simp] theorem Part.noteEnds_keeps (s : Part) (z : Nat) (old : CalZone) :
    (s.noteEnds z old).clock = s.clock ∧ (s.noteEnds z old).cal = s.cal ∧ (s.noteEnds z old).mu = s.mu ∧
      (s.noteEnds z old).dl = s.dl ∧ (s.noteEnds z old).zc = s.zc ∧ (s.noteEnds z old).air = s.air ∧
      (s.noteEnds z old).lb = s.lb ∧ (s.noteEnds z old).running = s.running ∧
      (s.noteEnds z old).link.still = s.link.still ∧ (s.noteEnds z old).link.core = s.link.core := by
  simp only [Part.noteEnds]
  (repeat' split) <;> simp_all

@[simp] theorem Part.setPhaseOverride_keeps (s : Part) (z : Nat) (o : PhaseOverride) :
    (s.setPhaseOverride z o).clock = s.clock ∧ (s.setPhaseOverride z o).mu = s.mu ∧
      (s.setPhaseOverride z o).dl = s.dl ∧ (s.setPhaseOverride z o).air = s.air ∧ (s.setPhaseOverride z o).lb = s.lb ∧
      (s.setPhaseOverride z o).running = s.running ∧ (s.setPhaseOverride z o).link.still = s.link.still ∧
      (s.setPhaseOverride z o).link.core = s.link.core ∧ (s.setPhaseOverride z o).cal.running = s.cal.running := by
  simp [Part.setPhaseOverride]

@[simp] theorem Part.cancelPhase_keeps (s : Part) (z : Nat) (o : PhaseOverride) :
    (s.cancelPhase z o).clock = s.clock ∧ (s.cancelPhase z o).mu = s.mu ∧ (s.cancelPhase z o).dl = s.dl ∧
      (s.cancelPhase z o).air = s.air ∧ (s.cancelPhase z o).lb = s.lb ∧ (s.cancelPhase z o).running = s.running ∧
      (s.cancelPhase z o).link.still = s.link.still ∧ (s.cancelPhase z o).link.core = s.link.core ∧
      (s.cancelPhase z o).cal.running = s.cal.running := by
  simp [Part.cancelPhase]

@[simp] theorem Part.setLightOverride_keeps (s : Part) (z : Nat) (o : LightOverride) :
    (s.setLightOverride z o).clock = s.clock ∧ (s.setLightOverride z o).mu = s.mu ∧
      (s.setLightOverride z o).dl = s.dl ∧ (s.setLightOverride z o).zc = s.zc ∧ (s.setLightOverride z o).air = s.air ∧
      (s.setLightOverride z o).lb = s.lb ∧ (s.setLightOverride z o).link = s.link ∧
      (s.setLightOverride z o).running = s.running ∧ (s.setLightOverride z o).cal.running = s.cal.running := by
  simp [Part.setLightOverride]

@[simp] theorem Part.cancelLight_keeps (s : Part) (z : Nat) (o : LightOverride) :
    (s.cancelLight z o).clock = s.clock ∧ (s.cancelLight z o).mu = s.mu ∧ (s.cancelLight z o).dl = s.dl ∧
      (s.cancelLight z o).zc = s.zc ∧ (s.cancelLight z o).air = s.air ∧ (s.cancelLight z o).lb = s.lb ∧
      (s.cancelLight z o).running = s.running ∧ (s.cancelLight z o).link.still = s.link.still ∧
      (s.cancelLight z o).link.core = s.link.core ∧ (s.cancelLight z o).cal.running = s.cal.running := by
  simp [Part.cancelLight]

@[simp] theorem Part.postCalendar_keeps (s : Part) (changed : Nat) :
    (s.postCalendar changed).clock = s.clock ∧ (s.postCalendar changed).cal = s.cal ∧
      (s.postCalendar changed).mu = s.mu ∧ (s.postCalendar changed).dl = s.dl ∧ (s.postCalendar changed).zc = s.zc ∧
      (s.postCalendar changed).air = s.air ∧ (s.postCalendar changed).lb = s.lb ∧ (s.postCalendar changed).due = s.due
      ∧ (s.postCalendar changed).running = s.running ∧ (s.postCalendar changed).link.still = s.link.still ∧
      (s.postCalendar changed).link.core = s.link.core := by
  simp [Part.postCalendar]

@[simp] theorem Part.boundary_keeps (s : Part) :
    s.boundary.clock = s.clock ∧ s.boundary.mu = s.mu ∧ s.boundary.air = s.air ∧ s.boundary.running = s.running ∧
      s.boundary.link.core = s.link.core := by
  simp only [Part.boundary]
  (repeat' split) <;> simp_all

@[simp] theorem Part.cycle_keeps (s : Part) :
    s.cycle.mu = s.mu ∧ s.cycle.air = s.air ∧ s.cycle.running = s.running ∧ s.cycle.link.core = s.link.core := by
  unfold Part.cycle
  (repeat' split) <;> simp

@[simp] theorem Part.setClock_keeps (s : Part) (m sec days : Nat) :
    (s.setClock m sec days).mu = s.mu ∧ (s.setClock m sec days).air = s.air ∧
      (s.setClock m sec days).running = s.running ∧ (s.setClock m sec days).link.still = s.link.still ∧
      (s.setClock m sec days).link.core = s.link.core ∧ (s.setClock m sec days).cal.running = s.cal.running := by
  simp [Part.setClock]

/-! ### Measurement unit -/

@[simp] theorem Part.answerMeasure_keeps (s : Part) (v : Verdict) :
    (s.answerMeasure v).clock = s.clock ∧ (s.answerMeasure v).cal = s.cal ∧ (s.answerMeasure v).dl = s.dl ∧
      (s.answerMeasure v).zc = s.zc ∧ (s.answerMeasure v).air = s.air ∧ (s.answerMeasure v).lb = s.lb ∧
      (s.answerMeasure v).due = s.due ∧ (s.answerMeasure v).running = s.running ∧
      (s.answerMeasure v).link.core = s.link.core := by
  unfold Part.answerMeasure
  (repeat' split) <;> simp

@[simp] theorem Part.noteSensor_keeps (s : Part) (c : Nat) (old new : Validity) :
    (s.noteSensor c old new).clock = s.clock ∧ (s.noteSensor c old new).cal = s.cal ∧
      (s.noteSensor c old new).mu = s.mu ∧ (s.noteSensor c old new).dl = s.dl ∧ (s.noteSensor c old new).zc = s.zc ∧
      (s.noteSensor c old new).air = s.air ∧ (s.noteSensor c old new).lb = s.lb ∧ (s.noteSensor c old new).due = s.due
      ∧ (s.noteSensor c old new).running = s.running ∧ (s.noteSensor c old new).link.still = s.link.still ∧
      (s.noteSensor c old new).link.core = s.link.core := by
  unfold Part.noteSensor
  (repeat' split) <;> simp

@[simp] theorem Part.noteWindow_keeps (s : Part) (c : Nat) (old new : WindowState) :
    (s.noteWindow c old new).clock = s.clock ∧ (s.noteWindow c old new).cal = s.cal ∧
      (s.noteWindow c old new).mu = s.mu ∧ (s.noteWindow c old new).dl = s.dl ∧ (s.noteWindow c old new).zc = s.zc ∧
      (s.noteWindow c old new).air = s.air ∧ (s.noteWindow c old new).lb = s.lb ∧ (s.noteWindow c old new).due = s.due
      ∧ (s.noteWindow c old new).running = s.running ∧ (s.noteWindow c old new).link.still = s.link.still ∧
      (s.noteWindow c old new).link.core = s.link.core := by
  unfold Part.noteWindow
  (repeat' split) <;> simp

@[simp] theorem Part.tellEdge_keeps (s : Part) (c : Nat) (old new : WindowState) :
    (s.tellEdge c old new).clock = s.clock ∧ (s.tellEdge c old new).cal = s.cal ∧ (s.tellEdge c old new).mu = s.mu ∧
      (s.tellEdge c old new).dl = s.dl ∧ (s.tellEdge c old new).zc = s.zc ∧ (s.tellEdge c old new).air = s.air ∧
      (s.tellEdge c old new).lb = s.lb ∧ (s.tellEdge c old new).link = s.link ∧
      (s.tellEdge c old new).running = s.running := by
  unfold Part.tellEdge
  (repeat' split) <;> simp

@[simp] theorem Part.tellGas_keeps (s : Part) (cfg : ChanConfig) (c : Nat) :
    (s.tellGas cfg c).clock = s.clock ∧ (s.tellGas cfg c).cal = s.cal ∧ (s.tellGas cfg c).mu = s.mu ∧
      (s.tellGas cfg c).dl = s.dl ∧ (s.tellGas cfg c).zc = s.zc ∧ (s.tellGas cfg c).air = s.air ∧
      (s.tellGas cfg c).lb = s.lb ∧ (s.tellGas cfg c).link = s.link ∧ (s.tellGas cfg c).running = s.running := by
  unfold Part.tellGas
  (repeat' split) <;> simp

@[simp] theorem Part.nextConversion_keeps (s : Part) :
    s.nextConversion.clock = s.clock ∧ s.nextConversion.cal = s.cal ∧ s.nextConversion.dl = s.dl ∧
      s.nextConversion.zc = s.zc ∧ s.nextConversion.air = s.air ∧ s.nextConversion.lb = s.lb ∧
      s.nextConversion.link = s.link ∧ s.nextConversion.due = s.due ∧ s.nextConversion.running = s.running := by
  simp [Part.nextConversion]

@[simp] theorem Part.processResult_keeps (s : Part) (v : Conversion) (nanovolts : Int) :
    (s.processResult v nanovolts).clock = s.clock ∧ (s.processResult v nanovolts).cal = s.cal ∧
      (s.processResult v nanovolts).dl = s.dl ∧ (s.processResult v nanovolts).zc = s.zc ∧
      (s.processResult v nanovolts).air = s.air ∧ (s.processResult v nanovolts).lb = s.lb ∧
      (s.processResult v nanovolts).running = s.running ∧ (s.processResult v nanovolts).link.core = s.link.core := by
  unfold Part.processResult
  (repeat' split) <;> simp

@[simp] theorem Part.completeConversion_keeps (s : Part) (nanovolts : Int) :
    (s.completeConversion nanovolts).clock = s.clock ∧ (s.completeConversion nanovolts).cal = s.cal ∧
      (s.completeConversion nanovolts).dl = s.dl ∧ (s.completeConversion nanovolts).zc = s.zc ∧
      (s.completeConversion nanovolts).air = s.air ∧ (s.completeConversion nanovolts).lb = s.lb ∧
      (s.completeConversion nanovolts).running = s.running ∧ (s.completeConversion nanovolts).link.core = s.link.core := by
  unfold Part.completeConversion
  (repeat' split) <;> simp

@[simp] theorem Part.fastRequest_keeps (s : Part) (c : Nat) :
    (s.fastRequest c).clock = s.clock ∧ (s.fastRequest c).cal = s.cal ∧ (s.fastRequest c).dl = s.dl ∧
      (s.fastRequest c).zc = s.zc ∧ (s.fastRequest c).air = s.air ∧ (s.fastRequest c).lb = s.lb ∧
      (s.fastRequest c).link = s.link ∧ (s.fastRequest c).due = s.due ∧ (s.fastRequest c).running = s.running := by
  simp only [Part.fastRequest]
  (repeat' split) <;> simp_all

@[simp] theorem Part.clearWindow_keeps (s : Part) (c : Nat) :
    (s.clearWindow c).clock = s.clock ∧ (s.clearWindow c).cal = s.cal ∧ (s.clearWindow c).dl = s.dl ∧
      (s.clearWindow c).zc = s.zc ∧ (s.clearWindow c).air = s.air ∧ (s.clearWindow c).lb = s.lb ∧
      (s.clearWindow c).running = s.running ∧ (s.clearWindow c).link.still = s.link.still ∧
      (s.clearWindow c).link.core = s.link.core := by
  simp [Part.clearWindow]

@[simp] theorem Part.disableChannel_keeps (s : Part) (c : Nat) :
    (s.disableChannel c).clock = s.clock ∧ (s.disableChannel c).cal = s.cal ∧ (s.disableChannel c).dl = s.dl ∧
      (s.disableChannel c).zc = s.zc ∧ (s.disableChannel c).air = s.air ∧ (s.disableChannel c).lb = s.lb ∧
      (s.disableChannel c).running = s.running ∧ (s.disableChannel c).link.core = s.link.core := by
  simp only [Part.disableChannel]
  (repeat' split) <;> simp_all

@[simp] theorem Part.writeChannel_keeps (s : Part) (c : Nat) (cfg : ChanConfig) :
    (s.writeChannel c cfg).clock = s.clock ∧ (s.writeChannel c cfg).cal = s.cal ∧ (s.writeChannel c cfg).dl = s.dl ∧
      (s.writeChannel c cfg).zc = s.zc ∧ (s.writeChannel c cfg).lb = s.lb ∧ (s.writeChannel c cfg).running = s.running
      ∧ (s.writeChannel c cfg).link.core = s.link.core := by
  simp only [Part.writeChannel]
  (repeat' split) <;> simp_all

@[simp] theorem Part.measure_keeps (s : Part) (c : Nat) :
    (s.measure c).1.clock = s.clock ∧ (s.measure c).1.cal = s.cal ∧ (s.measure c).1.dl = s.dl ∧
      (s.measure c).1.zc = s.zc ∧ (s.measure c).1.air = s.air ∧ (s.measure c).1.lb = s.lb ∧
      (s.measure c).1.link = s.link ∧ (s.measure c).1.due = s.due ∧ (s.measure c).1.running = s.running := by
  unfold Part.measure
  (repeat' split) <;> simp

/-! ### Stations -/

@[simp] theorem Part.postStation_keeps (s : Part) (a : Nat) (old new : StationState) (cause : StationCause) (last :
    List Byte) :
    (s.postStation a old new cause last).clock = s.clock ∧ (s.postStation a old new cause last).cal = s.cal ∧
      (s.postStation a old new cause last).mu = s.mu ∧ (s.postStation a old new cause last).dl = s.dl ∧
      (s.postStation a old new cause last).zc = s.zc ∧ (s.postStation a old new cause last).air = s.air ∧
      (s.postStation a old new cause last).lb = s.lb ∧ (s.postStation a old new cause last).due = s.due ∧
      (s.postStation a old new cause last).running = s.running ∧
      (s.postStation a old new cause last).link.still = s.link.still ∧
      (s.postStation a old new cause last).link.core = s.link.core := by
  simp [Part.postStation]

@[simp] theorem Part.postStationMove_keeps (s : Part) (a : Nat) (old : StationState) (cause : StationCause) :
    (s.postStationMove a old cause).clock = s.clock ∧ (s.postStationMove a old cause).cal = s.cal ∧
      (s.postStationMove a old cause).mu = s.mu ∧ (s.postStationMove a old cause).dl = s.dl ∧
      (s.postStationMove a old cause).zc = s.zc ∧ (s.postStationMove a old cause).air = s.air ∧
      (s.postStationMove a old cause).lb = s.lb ∧ (s.postStationMove a old cause).due = s.due ∧
      (s.postStationMove a old cause).running = s.running ∧ (s.postStationMove a old cause).link.still = s.link.still
      ∧ (s.postStationMove a old cause).link.core = s.link.core := by
  simp [Part.postStationMove]

@[simp] theorem Part.postDoor_keeps (s : Part) (a : Nat) (old : Station) :
    (s.postDoor a old).clock = s.clock ∧ (s.postDoor a old).cal = s.cal ∧ (s.postDoor a old).mu = s.mu ∧
      (s.postDoor a old).dl = s.dl ∧ (s.postDoor a old).zc = s.zc ∧ (s.postDoor a old).air = s.air ∧
      (s.postDoor a old).lb = s.lb ∧ (s.postDoor a old).due = s.due ∧ (s.postDoor a old).running = s.running ∧
      (s.postDoor a old).link.still = s.link.still ∧ (s.postDoor a old).link.core = s.link.core := by
  simp [Part.postDoor]

@[simp] theorem Part.judgeWatch_keeps (s : Part) (a : Nat) :
    (s.judgeWatch a).clock = s.clock ∧ (s.judgeWatch a).cal = s.cal ∧ (s.judgeWatch a).mu = s.mu ∧
      (s.judgeWatch a).zc = s.zc ∧ (s.judgeWatch a).air = s.air ∧ (s.judgeWatch a).lb = s.lb ∧
      (s.judgeWatch a).due = s.due ∧ (s.judgeWatch a).running = s.running ∧ (s.judgeWatch a).link.still = s.link.still
      ∧ (s.judgeWatch a).link.core = s.link.core := by
  simp only [Part.judgeWatch]
  (repeat' split) <;> simp_all

@[simp] theorem Part.changeDoor_keeps (s : Part) (a : Nat) (door : DoorState) (docked : Bool) :
    (s.changeDoor a door docked).clock = s.clock ∧ (s.changeDoor a door docked).cal = s.cal ∧
      (s.changeDoor a door docked).mu = s.mu ∧ (s.changeDoor a door docked).zc = s.zc ∧
      (s.changeDoor a door docked).air = s.air ∧ (s.changeDoor a door docked).lb = s.lb ∧
      (s.changeDoor a door docked).running = s.running ∧ (s.changeDoor a door docked).link.still = s.link.still ∧
      (s.changeDoor a door docked).link.core = s.link.core := by
  simp only [Part.changeDoor]
  (repeat' split) <;> simp_all

@[simp] theorem Part.loseDoor_keeps (s : Part) (a : Nat) :
    (s.loseDoor a).clock = s.clock ∧ (s.loseDoor a).cal = s.cal ∧ (s.loseDoor a).mu = s.mu ∧
      (s.loseDoor a).zc = s.zc ∧ (s.loseDoor a).air = s.air ∧ (s.loseDoor a).lb = s.lb ∧
      (s.loseDoor a).running = s.running ∧ (s.loseDoor a).link.still = s.link.still ∧
      (s.loseDoor a).link.core = s.link.core := by
  simp [Part.loseDoor]

@[simp] theorem Part.hear_keeps (s : Part) (a : Nat) (cause : StationCause) :
    (s.hear a cause).clock = s.clock ∧ (s.hear a cause).cal = s.cal ∧ (s.hear a cause).mu = s.mu ∧
      (s.hear a cause).zc = s.zc ∧ (s.hear a cause).air = s.air ∧ (s.hear a cause).lb = s.lb ∧
      (s.hear a cause).due = s.due ∧ (s.hear a cause).running = s.running ∧ (s.hear a cause).link.still = s.link.still
      ∧ (s.hear a cause).link.core = s.link.core := by
  simp only [Part.hear]
  (repeat' split) <;> simp_all

@[simp] theorem Part.silence_keeps (s : Part) (a : Nat) (cause : StationCause) :
    (s.silence a cause).clock = s.clock ∧ (s.silence a cause).cal = s.cal ∧ (s.silence a cause).mu = s.mu ∧
      (s.silence a cause).zc = s.zc ∧ (s.silence a cause).air = s.air ∧ (s.silence a cause).lb = s.lb ∧
      (s.silence a cause).running = s.running ∧ (s.silence a cause).link.still = s.link.still ∧
      (s.silence a cause).link.core = s.link.core := by
  simp only [Part.silence]
  (repeat' split) <;> simp_all

@[simp] theorem Part.enableStation_keeps (s : Part) (a : Nat) :
    (s.enableStation a).clock = s.clock ∧ (s.enableStation a).cal = s.cal ∧ (s.enableStation a).mu = s.mu ∧
      (s.enableStation a).zc = s.zc ∧ (s.enableStation a).air = s.air ∧ (s.enableStation a).lb = s.lb ∧
      (s.enableStation a).link = s.link ∧ (s.enableStation a).due = s.due ∧ (s.enableStation a).running = s.running := by
  simp [Part.enableStation]

@[simp] theorem Part.disableStation_keeps (s : Part) (a : Nat) :
    (s.disableStation a).clock = s.clock ∧ (s.disableStation a).cal = s.cal ∧ (s.disableStation a).mu = s.mu ∧
      (s.disableStation a).air = s.air ∧ (s.disableStation a).lb = s.lb ∧ (s.disableStation a).running = s.running ∧
      (s.disableStation a).link.still = s.link.still ∧ (s.disableStation a).link.core = s.link.core := by
  simp only [Part.disableStation]
  (repeat' split) <;> simp_all

@[simp] theorem Part.clearStation_keeps (s : Part) (a : Nat) :
    (s.clearStation a).clock = s.clock ∧ (s.clearStation a).cal = s.cal ∧ (s.clearStation a).mu = s.mu ∧
      (s.clearStation a).air = s.air ∧ (s.clearStation a).lb = s.lb ∧ (s.clearStation a).running = s.running ∧
      (s.clearStation a).link.still = s.link.still ∧ (s.clearStation a).link.core = s.link.core := by
  simp only [Part.clearStation]
  (repeat' split) <;> simp_all

@[simp] theorem Part.lineClear_keeps (s : Part) :
    s.lineClear.clock = s.clock ∧ s.lineClear.cal = s.cal ∧ s.lineClear.mu = s.mu ∧ s.lineClear.air = s.air ∧
      s.lineClear.lb = s.lb ∧ s.lineClear.running = s.running ∧ s.lineClear.link.still = s.link.still ∧
      s.lineClear.link.core = s.link.core := by
  simp [Part.lineClear]

@[simp] theorem Part.takeDoorByte_keeps (s : Part) (a : Nat) (b : Byte) :
    (s.takeDoorByte a b).clock = s.clock ∧ (s.takeDoorByte a b).cal = s.cal ∧ (s.takeDoorByte a b).mu = s.mu ∧
      (s.takeDoorByte a b).zc = s.zc ∧ (s.takeDoorByte a b).air = s.air ∧ (s.takeDoorByte a b).lb = s.lb ∧
      (s.takeDoorByte a b).running = s.running ∧ (s.takeDoorByte a b).link.still = s.link.still ∧
      (s.takeDoorByte a b).link.core = s.link.core := by
  simp only [Part.takeDoorByte]
  (repeat' split) <;> simp_all

@[simp] theorem Part.takeCondition_keeps (s : Part) (a : Nat) (c : Byte) :
    (s.takeCondition a c).clock = s.clock ∧ (s.takeCondition a c).cal = s.cal ∧ (s.takeCondition a c).mu = s.mu ∧
      (s.takeCondition a c).zc = s.zc ∧ (s.takeCondition a c).air = s.air ∧ (s.takeCondition a c).lb = s.lb ∧
      (s.takeCondition a c).due = s.due ∧ (s.takeCondition a c).running = s.running ∧
      (s.takeCondition a c).link.still = s.link.still ∧ (s.takeCondition a c).link.core = s.link.core := by
  simp only [Part.takeCondition]
  (repeat' split) <;> simp_all

@[simp] theorem Part.takeHello_keeps (s : Part) (a : Nat) (kind revision : Byte) :
    (s.takeHello a kind revision).clock = s.clock ∧ (s.takeHello a kind revision).cal = s.cal ∧
      (s.takeHello a kind revision).mu = s.mu ∧ (s.takeHello a kind revision).zc = s.zc ∧
      (s.takeHello a kind revision).air = s.air ∧ (s.takeHello a kind revision).lb = s.lb ∧
      (s.takeHello a kind revision).due = s.due ∧ (s.takeHello a kind revision).running = s.running ∧
      (s.takeHello a kind revision).link.still = s.link.still ∧ (s.takeHello a kind revision).link.core = s.link.core := by
  simp only [Part.takeHello]
  (repeat' split) <;> simp_all

@[simp] theorem Part.takeLimit_keeps (s : Part) (z limit : Nat) (mark : Bool) :
    (s.takeLimit z limit mark).clock = s.clock ∧ (s.takeLimit z limit mark).cal = s.cal ∧
      (s.takeLimit z limit mark).mu = s.mu ∧ (s.takeLimit z limit mark).zc = s.zc ∧
      (s.takeLimit z limit mark).air = s.air ∧ (s.takeLimit z limit mark).lb = s.lb ∧
      (s.takeLimit z limit mark).due = s.due ∧ (s.takeLimit z limit mark).running = s.running ∧
      (s.takeLimit z limit mark).link.still = s.link.still ∧ (s.takeLimit z limit mark).link.core = s.link.core := by
  unfold Part.takeLimit
  (repeat' split) <;> simp

@[simp] theorem Part.doorSecond_keeps (s : Part) :
    s.doorSecond.clock = s.clock ∧ s.doorSecond.cal = s.cal ∧ s.doorSecond.mu = s.mu ∧ s.doorSecond.zc = s.zc ∧
      s.doorSecond.air = s.air ∧ s.doorSecond.lb = s.lb ∧ s.doorSecond.due = s.due ∧ s.doorSecond.running = s.running
      ∧ s.doorSecond.link.still = s.link.still ∧ s.doorSecond.link.core = s.link.core := by
  simp [Part.doorSecond]

@[simp] theorem Part.moveStation_keeps (s : Part) (a z : Nat) :
    (s.moveStation a z).clock = s.clock ∧ (s.moveStation a z).cal = s.cal ∧ (s.moveStation a z).mu = s.mu ∧
      (s.moveStation a z).zc = s.zc ∧ (s.moveStation a z).air = s.air ∧ (s.moveStation a z).lb = s.lb ∧
      (s.moveStation a z).running = s.running ∧ (s.moveStation a z).link.still = s.link.still ∧
      (s.moveStation a z).link.core = s.link.core := by
  simp [Part.moveStation]

@[simp] theorem Part.writeStation_keeps (s : Part) (a : Nat) (enabled : Bool) (z : Nat) :
    (s.writeStation a enabled z).clock = s.clock ∧ (s.writeStation a enabled z).cal = s.cal ∧
      (s.writeStation a enabled z).mu = s.mu ∧ (s.writeStation a enabled z).air = s.air ∧
      (s.writeStation a enabled z).lb = s.lb ∧ (s.writeStation a enabled z).running = s.running ∧
      (s.writeStation a enabled z).link.still = s.link.still ∧ (s.writeStation a enabled z).link.core = s.link.core := by
  simp only [Part.writeStation]
  (repeat' split) <;> simp_all

/-! ### Door line -/

@[simp] theorem Part.noAnswer_keeps (s : Part) :
    s.noAnswer.clock = s.clock ∧ s.noAnswer.cal = s.cal ∧ s.noAnswer.mu = s.mu ∧ s.noAnswer.zc = s.zc ∧
      s.noAnswer.air = s.air ∧ s.noAnswer.lb = s.lb ∧ s.noAnswer.running = s.running ∧
      s.noAnswer.link.still = s.link.still ∧ s.noAnswer.link.core = s.link.core := by
  simp only [Part.noAnswer]
  (repeat' split) <;> simp_all

@[simp] theorem Part.takeAnswer_keeps (s : Part) (a : Nat) (door : Byte) (condition : Option Byte) :
    (s.takeAnswer a door condition).clock = s.clock ∧ (s.takeAnswer a door condition).cal = s.cal ∧
      (s.takeAnswer a door condition).mu = s.mu ∧ (s.takeAnswer a door condition).zc = s.zc ∧
      (s.takeAnswer a door condition).air = s.air ∧ (s.takeAnswer a door condition).lb = s.lb ∧
      (s.takeAnswer a door condition).running = s.running ∧ (s.takeAnswer a door condition).link.still = s.link.still
      ∧ (s.takeAnswer a door condition).link.core = s.link.core := by
  unfold Part.takeAnswer
  (repeat' split) <;> simp

@[simp] theorem Part.receiveAnswer_keeps (s : Part) (kind : EntryKind) (door : Byte) (condition : Option Byte) (check
    : Byte) :
    (s.receiveAnswer kind door condition check).clock = s.clock ∧
      (s.receiveAnswer kind door condition check).cal = s.cal ∧ (s.receiveAnswer kind door condition check).mu = s.mu
      ∧ (s.receiveAnswer kind door condition check).zc = s.zc ∧
      (s.receiveAnswer kind door condition check).air = s.air ∧ (s.receiveAnswer kind door condition check).lb = s.lb
      ∧ (s.receiveAnswer kind door condition check).running = s.running ∧
      (s.receiveAnswer kind door condition check).link.still = s.link.still ∧
      (s.receiveAnswer kind door condition check).link.core = s.link.core := by
  unfold Part.receiveAnswer
  (repeat' split) <;> simp

@[simp] theorem Part.handFrame_keeps (s : Part) (a : Nat) (f : StationFrame) :
    (s.handFrame a f).clock = s.clock ∧ (s.handFrame a f).cal = s.cal ∧ (s.handFrame a f).mu = s.mu ∧
      (s.handFrame a f).air = s.air ∧ (s.handFrame a f).lb = s.lb ∧ (s.handFrame a f).running = s.running ∧
      (s.handFrame a f).link.still = s.link.still ∧ (s.handFrame a f).link.core = s.link.core := by
  unfold Part.handFrame
  (repeat' split) <;> simp

@[simp] theorem Part.formAnswer_keeps (s : Part) (a : Nat) :
    (s.formAnswer a).clock = s.clock ∧ (s.formAnswer a).cal = s.cal ∧ (s.formAnswer a).mu = s.mu ∧
      (s.formAnswer a).zc = s.zc ∧ (s.formAnswer a).air = s.air ∧ (s.formAnswer a).lb = s.lb ∧
      (s.formAnswer a).link = s.link ∧ (s.formAnswer a).due = s.due ∧ (s.formAnswer a).running = s.running := by
  simp [Part.formAnswer]

@[simp] theorem Part.frameArrives_keeps (s : Part) :
    s.frameArrives.clock = s.clock ∧ s.frameArrives.cal = s.cal ∧ s.frameArrives.mu = s.mu ∧
      s.frameArrives.zc = s.zc ∧ s.frameArrives.air = s.air ∧ s.frameArrives.lb = s.lb ∧
      s.frameArrives.running = s.running ∧ s.frameArrives.link.still = s.link.still ∧
      s.frameArrives.link.core = s.link.core := by
  unfold Part.frameArrives
  (repeat' split) <;> simp

/-- What the taking of an event due before an early answer keeps. -/
@[simp] theorem Part.takeEarly_keeps (s : Part) (e : Early) :
    (s.takeEarly e).clock = s.clock ∧ (s.takeEarly e).cal = s.cal ∧ (s.takeEarly e).mu = s.mu ∧
      (s.takeEarly e).running = s.running ∧ (s.takeEarly e).link.still = s.link.still ∧
      (s.takeEarly e).link.core = s.link.core := by
  unfold Part.takeEarly
  (repeat' split) <;> simp

/-- What the taking of events before an early answer keeps. -/
@[simp] theorem Part.takeEarlies_keeps (early : List Early) (s : Part) :
    (early.foldl Part.takeEarly s).clock = s.clock ∧ (early.foldl Part.takeEarly s).cal = s.cal ∧
      (early.foldl Part.takeEarly s).mu = s.mu ∧ (early.foldl Part.takeEarly s).running = s.running ∧
      (early.foldl Part.takeEarly s).link.still = s.link.still ∧
      (early.foldl Part.takeEarly s).link.core = s.link.core := by
  induction early generalizing s with
  | nil => simp
  | cons e rest ih => simp [ih]

@[simp] theorem Part.acceptFrame_keeps (s : Part) (a : Nat) (f : StationFrame) (early : List Early) :
    (s.acceptFrame a f early).clock = s.clock ∧ (s.acceptFrame a f early).cal = s.cal ∧
      (s.acceptFrame a f early).mu = s.mu ∧ (s.acceptFrame a f early).running = s.running ∧
      (s.acceptFrame a f early).link.still = s.link.still ∧ (s.acceptFrame a f early).link.core = s.link.core := by
  unfold Part.acceptFrame
  (repeat' split) <;> simp

@[simp] theorem Part.acceptFrame_nil_air (s : Part) (a : Nat) (f : StationFrame) : (s.acceptFrame a f []).air = s.air := by
  unfold Part.acceptFrame
  split <;> simp

@[simp] theorem Part.receiveFrame_keeps (s : Part) (address : Byte) (f : StationFrame) (early : List Early) :
    (s.receiveFrame address f early).clock = s.clock ∧ (s.receiveFrame address f early).cal = s.cal ∧
      (s.receiveFrame address f early).mu = s.mu ∧ (s.receiveFrame address f early).running = s.running ∧
      (s.receiveFrame address f early).link.still = s.link.still ∧
      (s.receiveFrame address f early).link.core = s.link.core := by
  simp only [Part.receiveFrame]
  (repeat' split) <;> simp_all

@[simp] theorem Part.answerSent_keeps (s : Part) :
    s.answerSent.clock = s.clock ∧ s.answerSent.cal = s.cal ∧ s.answerSent.mu = s.mu ∧ s.answerSent.zc = s.zc ∧
      s.answerSent.air = s.air ∧ s.answerSent.lb = s.lb ∧ s.answerSent.link = s.link ∧ s.answerSent.due = s.due ∧
      s.answerSent.running = s.running := by
  simp only [Part.answerSent]
  (repeat' split) <;> simp_all

@[simp] theorem Part.postLine_keeps (s : Part) (old : LineState) :
    (s.postLine old).clock = s.clock ∧ (s.postLine old).cal = s.cal ∧ (s.postLine old).mu = s.mu ∧
      (s.postLine old).dl = s.dl ∧ (s.postLine old).zc = s.zc ∧ (s.postLine old).air = s.air ∧
      (s.postLine old).lb = s.lb ∧ (s.postLine old).due = s.due ∧ (s.postLine old).running = s.running ∧
      (s.postLine old).link.still = s.link.still ∧ (s.postLine old).link.core = s.link.core := by
  simp [Part.postLine]

@[simp] theorem Part.goStuck_keeps (s : Part) :
    s.goStuck.clock = s.clock ∧ s.goStuck.cal = s.cal ∧ s.goStuck.mu = s.mu ∧ s.goStuck.zc = s.zc ∧
      s.goStuck.air = s.air ∧ s.goStuck.lb = s.lb ∧ s.goStuck.due = s.due ∧ s.goStuck.running = s.running ∧
      s.goStuck.link.still = s.link.still ∧ s.goStuck.link.core = s.link.core := by
  unfold Part.goStuck
  (repeat' split) <;> simp

@[simp] theorem Part.releaseStuck_keeps (s : Part) :
    s.releaseStuck.clock = s.clock ∧ s.releaseStuck.cal = s.cal ∧ s.releaseStuck.mu = s.mu ∧
      s.releaseStuck.air = s.air ∧ s.releaseStuck.lb = s.lb ∧ s.releaseStuck.running = s.running ∧
      s.releaseStuck.link.still = s.link.still ∧ s.releaseStuck.link.core = s.link.core := by
  unfold Part.releaseStuck
  (repeat' split) <;> simp

@[simp] theorem Part.goDead_keeps (s : Part) :
    s.goDead.clock = s.clock ∧ s.goDead.cal = s.cal ∧ s.goDead.mu = s.mu ∧ s.goDead.zc = s.zc ∧ s.goDead.air = s.air
      ∧ s.goDead.lb = s.lb ∧ s.goDead.due = s.due ∧ s.goDead.running = s.running ∧ s.goDead.link.still = s.link.still
      ∧ s.goDead.link.core = s.link.core := by
  unfold Part.goDead
  (repeat' split) <;> simp

@[simp] theorem Part.probeDead_keeps (s : Part) (released echoed : Bool) :
    (s.probeDead released echoed).clock = s.clock ∧ (s.probeDead released echoed).cal = s.cal ∧
      (s.probeDead released echoed).mu = s.mu ∧ (s.probeDead released echoed).zc = s.zc ∧
      (s.probeDead released echoed).air = s.air ∧ (s.probeDead released echoed).lb = s.lb ∧
      (s.probeDead released echoed).due = s.due ∧ (s.probeDead released echoed).running = s.running ∧
      (s.probeDead released echoed).link.still = s.link.still ∧ (s.probeDead released echoed).link.core = s.link.core := by
  unfold Part.probeDead
  (repeat' split) <;> simp

@[simp] theorem Part.receiveClear_keeps (s : Part) :
    s.receiveClear.clock = s.clock ∧ s.receiveClear.cal = s.cal ∧ s.receiveClear.mu = s.mu ∧
      s.receiveClear.air = s.air ∧ s.receiveClear.lb = s.lb ∧ s.receiveClear.running = s.running ∧
      s.receiveClear.link.still = s.link.still ∧ s.receiveClear.link.core = s.link.core := by
  unfold Part.receiveClear
  (repeat' split) <;> simp

@[simp] theorem Part.comeToRest_keeps (s : Part) :
    s.comeToRest.clock = s.clock ∧ s.comeToRest.cal = s.cal ∧ s.comeToRest.mu = s.mu ∧ s.comeToRest.zc = s.zc ∧
      s.comeToRest.air = s.air ∧ s.comeToRest.lb = s.lb ∧ s.comeToRest.running = s.running ∧
      s.comeToRest.link.still = s.link.still ∧ s.comeToRest.link.core = s.link.core := by
  simp [Part.comeToRest]

@[simp] theorem Part.restLine_keeps (s : Part) :
    s.restLine.clock = s.clock ∧ s.restLine.cal = s.cal ∧ s.restLine.mu = s.mu ∧
      s.restLine.air = s.air ∧ s.restLine.lb = s.lb ∧ s.restLine.running = s.running ∧
      s.restLine.link.still = s.link.still ∧ s.restLine.link.core = s.link.core := by
  unfold Part.restLine
  (repeat' split) <;> simp

@[simp] theorem Part.beginFrame_keeps (s : Part) :
    s.beginFrame.clock = s.clock ∧ s.beginFrame.cal = s.cal ∧ s.beginFrame.mu = s.mu ∧ s.beginFrame.zc = s.zc ∧
      s.beginFrame.air = s.air ∧ s.beginFrame.lb = s.lb ∧ s.beginFrame.link = s.link ∧ s.beginFrame.due = s.due ∧
      s.beginFrame.running = s.running := by
  unfold Part.beginFrame
  (repeat' split) <;> simp

@[simp] theorem Part.drivingEdge_keeps (s : Part) :
    s.drivingEdge.clock = s.clock ∧ s.drivingEdge.cal = s.cal ∧ s.drivingEdge.mu = s.mu ∧ s.drivingEdge.zc = s.zc ∧
      s.drivingEdge.air = s.air ∧ s.drivingEdge.lb = s.lb ∧ s.drivingEdge.link = s.link ∧ s.drivingEdge.due = s.due ∧
      s.drivingEdge.running = s.running := by
  unfold Part.drivingEdge
  (repeat' split) <;> simp

@[simp] theorem Part.loseArbitration_keeps (s : Part) :
    s.loseArbitration.clock = s.clock ∧ s.loseArbitration.cal = s.cal ∧ s.loseArbitration.mu = s.mu ∧
      s.loseArbitration.zc = s.zc ∧ s.loseArbitration.air = s.air ∧ s.loseArbitration.lb = s.lb ∧
      s.loseArbitration.link = s.link ∧ s.loseArbitration.due = s.due ∧ s.loseArbitration.running = s.running := by
  simp [Part.loseArbitration]

@[simp] theorem Part.sendClear_keeps (s : Part) :
    s.sendClear.1.clock = s.clock ∧ s.sendClear.1.cal = s.cal ∧ s.sendClear.1.mu = s.mu ∧ s.sendClear.1.air = s.air
      ∧ s.sendClear.1.lb = s.lb ∧ s.sendClear.1.running = s.running ∧ s.sendClear.1.link.still = s.link.still ∧
      s.sendClear.1.link.core = s.link.core := by
  unfold Part.sendClear
  (repeat' split) <;> simp

@[simp] theorem Part.endReceived_keeps (s : Part) (r : Received) :
    (s.endReceived r).clock = s.clock ∧ (s.endReceived r).cal = s.cal ∧ (s.endReceived r).mu = s.mu ∧
      (s.endReceived r).air = s.air ∧ (s.endReceived r).running = s.running ∧
      (s.endReceived r).link.still = s.link.still ∧ (s.endReceived r).link.core = s.link.core := by
  simp only [Part.endReceived]
  (repeat' split) <;> simp_all

@[simp] theorem Part.frameEnded_keeps (s : Part) (r : Received) :
    (s.frameEnded r).clock = s.clock ∧ (s.frameEnded r).cal = s.cal ∧ (s.frameEnded r).mu = s.mu ∧
      (s.frameEnded r).air = s.air ∧ (s.frameEnded r).running = s.running ∧
      (s.frameEnded r).link.still = s.link.still ∧ (s.frameEnded r).link.core = s.link.core := by
  simp only [Part.frameEnded]
  (repeat' split) <;> simp_all

@[simp] theorem Part.answerEnded_keeps (s : Part) (r : Received) :
    (s.answerEnded r).clock = s.clock ∧ (s.answerEnded r).cal = s.cal ∧ (s.answerEnded r).mu = s.mu ∧
      (s.answerEnded r).air = s.air ∧ (s.answerEnded r).lb = s.lb ∧ (s.answerEnded r).running = s.running ∧
      (s.answerEnded r).link.still = s.link.still ∧ (s.answerEnded r).link.core = s.link.core := by
  simp only [Part.answerEnded]
  (repeat' split) <;> simp

@[simp] theorem Part.takeLineEvent_keeps (s : Part) (e : LineEvent) :
    (s.takeLineEvent e).clock = s.clock ∧ (s.takeLineEvent e).cal = s.cal ∧ (s.takeLineEvent e).mu = s.mu ∧
      (s.takeLineEvent e).air = s.air ∧ (s.takeLineEvent e).running = s.running ∧
      (s.takeLineEvent e).link.still = s.link.still ∧ (s.takeLineEvent e).link.core = s.link.core := by
  cases e <;> simp [Part.takeLineEvent]

@[simp] theorem Part.probeCycle_keeps (s : Part) :
    s.probeCycle.clock = s.clock ∧ s.probeCycle.cal = s.cal ∧ s.probeCycle.mu = s.mu ∧ s.probeCycle.zc = s.zc ∧
      s.probeCycle.air = s.air ∧ s.probeCycle.lb = s.lb ∧ s.probeCycle.link = s.link ∧ s.probeCycle.due = s.due ∧
      s.probeCycle.running = s.running := by
  simp [Part.probeCycle]

/-! ### Requests -/

@[simp] theorem Part.doAskStatus_keeps (s : Part) :
    s.doAskStatus.1 = s := by
  simp [Part.doAskStatus]

@[simp] theorem Part.doSetClock_keeps (m : Half) (sec : Byte) (days : Half) (s : Part) :
    (Part.doSetClock m sec days s).1.mu = s.mu ∧ (Part.doSetClock m sec days s).1.air = s.air ∧
      (Part.doSetClock m sec days s).1.running = s.running ∧
      (Part.doSetClock m sec days s).1.link.still = s.link.still ∧
      (Part.doSetClock m sec days s).1.link.core = s.link.core ∧
      (Part.doSetClock m sec days s).1.cal.running = s.cal.running := by
  simp [Part.doSetClock]

@[simp] theorem Part.doAskClock_keeps (s : Part) :
    s.doAskClock.1 = s := by
  simp [Part.doAskClock]

@[simp] theorem Part.doSetTrim_keeps (a : Half) (kq t0 : Byte) (s : Part) :
    (Part.doSetTrim a kq t0 s).1.cal = s.cal ∧ (Part.doSetTrim a kq t0 s).1.mu = s.mu ∧
      (Part.doSetTrim a kq t0 s).1.dl = s.dl ∧ (Part.doSetTrim a kq t0 s).1.zc = s.zc ∧
      (Part.doSetTrim a kq t0 s).1.air = s.air ∧ (Part.doSetTrim a kq t0 s).1.lb = s.lb ∧
      (Part.doSetTrim a kq t0 s).1.due = s.due ∧ (Part.doSetTrim a kq t0 s).1.running = s.running ∧
      (Part.doSetTrim a kq t0 s).1.link.core = s.link.core := by
  simp [Part.doSetTrim]

@[simp] theorem Part.doCalOpen_keeps (s : Part) :
    s.doCalOpen.1.clock = s.clock ∧ s.doCalOpen.1.mu = s.mu ∧ s.doCalOpen.1.dl = s.dl ∧ s.doCalOpen.1.zc = s.zc ∧
      s.doCalOpen.1.air = s.air ∧ s.doCalOpen.1.lb = s.lb ∧ s.doCalOpen.1.link = s.link ∧ s.doCalOpen.1.due = s.due ∧
      s.doCalOpen.1.running = s.running ∧ s.doCalOpen.1.cal.running = s.cal.running := by
  unfold Part.doCalOpen
  (repeat' split) <;> simp

@[simp] theorem Part.doCalWriteHeader_keeps (f : HeaderFields) (s : Part) :
    (Part.doCalWriteHeader f s).1.clock = s.clock ∧ (Part.doCalWriteHeader f s).1.mu = s.mu ∧
      (Part.doCalWriteHeader f s).1.dl = s.dl ∧ (Part.doCalWriteHeader f s).1.zc = s.zc ∧
      (Part.doCalWriteHeader f s).1.air = s.air ∧ (Part.doCalWriteHeader f s).1.lb = s.lb ∧
      (Part.doCalWriteHeader f s).1.link = s.link ∧ (Part.doCalWriteHeader f s).1.due = s.due ∧
      (Part.doCalWriteHeader f s).1.running = s.running ∧ (Part.doCalWriteHeader f s).1.cal.running = s.cal.running := by
  simp [Part.doCalWriteHeader]

@[simp] theorem Part.doCalWriteShift_keeps (entry : Byte) (f : ShiftFields) (s : Part) :
    (Part.doCalWriteShift entry f s).1.clock = s.clock ∧ (Part.doCalWriteShift entry f s).1.mu = s.mu ∧
      (Part.doCalWriteShift entry f s).1.dl = s.dl ∧ (Part.doCalWriteShift entry f s).1.zc = s.zc ∧
      (Part.doCalWriteShift entry f s).1.air = s.air ∧ (Part.doCalWriteShift entry f s).1.lb = s.lb ∧
      (Part.doCalWriteShift entry f s).1.link = s.link ∧ (Part.doCalWriteShift entry f s).1.due = s.due ∧
      (Part.doCalWriteShift entry f s).1.running = s.running ∧
      (Part.doCalWriteShift entry f s).1.cal.running = s.cal.running := by
  simp [Part.doCalWriteShift]

@[simp] theorem Part.doCalWriteProfile_keeps (profile : Byte) (f : ProfileFields) (s : Part) :
    (Part.doCalWriteProfile profile f s).1.clock = s.clock ∧ (Part.doCalWriteProfile profile f s).1.mu = s.mu ∧
      (Part.doCalWriteProfile profile f s).1.dl = s.dl ∧ (Part.doCalWriteProfile profile f s).1.zc = s.zc ∧
      (Part.doCalWriteProfile profile f s).1.air = s.air ∧ (Part.doCalWriteProfile profile f s).1.lb = s.lb ∧
      (Part.doCalWriteProfile profile f s).1.link = s.link ∧ (Part.doCalWriteProfile profile f s).1.due = s.due ∧
      (Part.doCalWriteProfile profile f s).1.running = s.running ∧
      (Part.doCalWriteProfile profile f s).1.cal.running = s.cal.running := by
  simp [Part.doCalWriteProfile]

@[simp] theorem Part.doCalWriteWindow_keeps (window : Byte) (f : WindowFields) (s : Part) :
    (Part.doCalWriteWindow window f s).1.clock = s.clock ∧ (Part.doCalWriteWindow window f s).1.mu = s.mu ∧
      (Part.doCalWriteWindow window f s).1.dl = s.dl ∧ (Part.doCalWriteWindow window f s).1.zc = s.zc ∧
      (Part.doCalWriteWindow window f s).1.air = s.air ∧ (Part.doCalWriteWindow window f s).1.lb = s.lb ∧
      (Part.doCalWriteWindow window f s).1.link = s.link ∧ (Part.doCalWriteWindow window f s).1.due = s.due ∧
      (Part.doCalWriteWindow window f s).1.running = s.running ∧
      (Part.doCalWriteWindow window f s).1.cal.running = s.cal.running := by
  simp [Part.doCalWriteWindow]

@[simp] theorem Part.doCalClose_keeps (s : Part) :
    s.doCalClose.1.clock = s.clock ∧ s.doCalClose.1.mu = s.mu ∧ s.doCalClose.1.dl = s.dl ∧ s.doCalClose.1.zc = s.zc
      ∧ s.doCalClose.1.air = s.air ∧ s.doCalClose.1.lb = s.lb ∧ s.doCalClose.1.link = s.link ∧
      s.doCalClose.1.due = s.due ∧ s.doCalClose.1.running = s.running ∧ s.doCalClose.1.cal.running = s.cal.running := by
  unfold Part.doCalClose
  (repeat' split) <;> simp

@[simp] theorem Part.doCalDrop_keeps (s : Part) :
    s.doCalDrop.1.clock = s.clock ∧ s.doCalDrop.1.mu = s.mu ∧ s.doCalDrop.1.dl = s.dl ∧ s.doCalDrop.1.zc = s.zc ∧
      s.doCalDrop.1.air = s.air ∧ s.doCalDrop.1.lb = s.lb ∧ s.doCalDrop.1.link = s.link ∧ s.doCalDrop.1.due = s.due ∧
      s.doCalDrop.1.running = s.running ∧ s.doCalDrop.1.cal.running = s.cal.running := by
  unfold Part.doCalDrop
  (repeat' split) <;> simp

@[simp] theorem Part.doCalReadHeader_keeps (copy : Byte) (s : Part) :
    (Part.doCalReadHeader copy s).1 = s := by
  simp [Part.doCalReadHeader]

@[simp] theorem Part.doCalReadShift_keeps (copy entry : Byte) (s : Part) :
    (Part.doCalReadShift copy entry s).1 = s := by
  simp [Part.doCalReadShift]

@[simp] theorem Part.doCalReadProfile_keeps (copy profile : Byte) (s : Part) :
    (Part.doCalReadProfile copy profile s).1 = s := by
  simp [Part.doCalReadProfile]

@[simp] theorem Part.doCalReadWindow_keeps (copy window : Byte) (s : Part) :
    (Part.doCalReadWindow copy window s).1 = s := by
  simp [Part.doCalReadWindow]

@[simp] theorem Part.doCalReadState_keeps (s : Part) :
    s.doCalReadState.1 = s := by
  simp [Part.doCalReadState]

@[simp] theorem Part.doCalReadZone_keeps (zone : Byte) (s : Part) :
    (Part.doCalReadZone zone s).1 = s := by
  simp [Part.doCalReadZone]

@[simp] theorem Part.doOverrideActive_keeps (zone profile : Byte) (d : Half) (s : Part) :
    (Part.doOverrideActive zone profile d s).1.clock = s.clock ∧
      (Part.doOverrideActive zone profile d s).1.mu = s.mu ∧ (Part.doOverrideActive zone profile d s).1.dl = s.dl ∧
      (Part.doOverrideActive zone profile d s).1.air = s.air ∧ (Part.doOverrideActive zone profile d s).1.lb = s.lb ∧
      (Part.doOverrideActive zone profile d s).1.running = s.running ∧
      (Part.doOverrideActive zone profile d s).1.link.still = s.link.still ∧
      (Part.doOverrideActive zone profile d s).1.link.core = s.link.core ∧
      (Part.doOverrideActive zone profile d s).1.cal.running = s.cal.running := by
  simp [Part.doOverrideActive]

@[simp] theorem Part.doOverrideIdle_keeps (zone : Byte) (d : Half) (s : Part) :
    (Part.doOverrideIdle zone d s).1.clock = s.clock ∧ (Part.doOverrideIdle zone d s).1.mu = s.mu ∧
      (Part.doOverrideIdle zone d s).1.dl = s.dl ∧ (Part.doOverrideIdle zone d s).1.air = s.air ∧
      (Part.doOverrideIdle zone d s).1.lb = s.lb ∧ (Part.doOverrideIdle zone d s).1.running = s.running ∧
      (Part.doOverrideIdle zone d s).1.link.still = s.link.still ∧
      (Part.doOverrideIdle zone d s).1.link.core = s.link.core ∧
      (Part.doOverrideIdle zone d s).1.cal.running = s.cal.running := by
  simp [Part.doOverrideIdle]

@[simp] theorem Part.doOverrideLight_keeps (zone level : Byte) (d : Half) (s : Part) :
    (Part.doOverrideLight zone level d s).1.clock = s.clock ∧ (Part.doOverrideLight zone level d s).1.mu = s.mu ∧
      (Part.doOverrideLight zone level d s).1.dl = s.dl ∧ (Part.doOverrideLight zone level d s).1.zc = s.zc ∧
      (Part.doOverrideLight zone level d s).1.air = s.air ∧ (Part.doOverrideLight zone level d s).1.lb = s.lb ∧
      (Part.doOverrideLight zone level d s).1.link = s.link ∧
      (Part.doOverrideLight zone level d s).1.running = s.running ∧
      (Part.doOverrideLight zone level d s).1.cal.running = s.cal.running := by
  simp [Part.doOverrideLight]

@[simp] theorem Part.doCancelPhase_keeps (zone : Byte) (s : Part) :
    (Part.doCancelPhase zone s).1.clock = s.clock ∧ (Part.doCancelPhase zone s).1.mu = s.mu ∧
      (Part.doCancelPhase zone s).1.dl = s.dl ∧ (Part.doCancelPhase zone s).1.air = s.air ∧
      (Part.doCancelPhase zone s).1.lb = s.lb ∧ (Part.doCancelPhase zone s).1.running = s.running ∧
      (Part.doCancelPhase zone s).1.link.still = s.link.still ∧ (Part.doCancelPhase zone s).1.link.core = s.link.core
      ∧ (Part.doCancelPhase zone s).1.cal.running = s.cal.running := by
  unfold Part.doCancelPhase
  (repeat' split) <;> simp

@[simp] theorem Part.doCancelLight_keeps (zone : Byte) (s : Part) :
    (Part.doCancelLight zone s).1.clock = s.clock ∧ (Part.doCancelLight zone s).1.mu = s.mu ∧
      (Part.doCancelLight zone s).1.dl = s.dl ∧ (Part.doCancelLight zone s).1.zc = s.zc ∧
      (Part.doCancelLight zone s).1.air = s.air ∧ (Part.doCancelLight zone s).1.lb = s.lb ∧
      (Part.doCancelLight zone s).1.running = s.running ∧ (Part.doCancelLight zone s).1.link.still = s.link.still ∧
      (Part.doCancelLight zone s).1.link.core = s.link.core ∧
      (Part.doCancelLight zone s).1.cal.running = s.cal.running := by
  unfold Part.doCancelLight
  (repeat' split) <;> simp

@[simp] theorem Part.writeZone_keeps (s : Part) (z : Nat) (cfg : ZoneConfig) :
    (s.writeZone z cfg).clock = s.clock ∧ (s.writeZone z cfg).cal = s.cal ∧ (s.writeZone z cfg).mu = s.mu ∧
      (s.writeZone z cfg).air = s.air ∧ (s.writeZone z cfg).lb = s.lb ∧ (s.writeZone z cfg).running = s.running ∧
      (s.writeZone z cfg).link.still = s.link.still ∧ (s.writeZone z cfg).link.core = s.link.core := by
  simp only [Part.writeZone]
  (repeat' split) <;> simp_all

@[simp] theorem Part.doZoneWriteOne_keeps (zone : Byte) (f : ZoneFields) (s : Part) :
    (Part.doZoneWriteOne zone f s).1.clock = s.clock ∧ (Part.doZoneWriteOne zone f s).1.cal = s.cal ∧
      (Part.doZoneWriteOne zone f s).1.mu = s.mu ∧ (Part.doZoneWriteOne zone f s).1.air = s.air ∧
      (Part.doZoneWriteOne zone f s).1.lb = s.lb ∧ (Part.doZoneWriteOne zone f s).1.running = s.running ∧
      (Part.doZoneWriteOne zone f s).1.link.core = s.link.core := by
  simp [Part.doZoneWriteOne]

@[simp] theorem Part.doZoneWriteTiming_keeps (interval : Byte) (hold : Half) (s : Part) :
    (Part.doZoneWriteTiming interval hold s).1.clock = s.clock ∧
      (Part.doZoneWriteTiming interval hold s).1.cal = s.cal ∧ (Part.doZoneWriteTiming interval hold s).1.mu = s.mu ∧
      (Part.doZoneWriteTiming interval hold s).1.dl = s.dl ∧ (Part.doZoneWriteTiming interval hold s).1.air = s.air ∧
      (Part.doZoneWriteTiming interval hold s).1.lb = s.lb ∧ (Part.doZoneWriteTiming interval hold s).1.due = s.due ∧
      (Part.doZoneWriteTiming interval hold s).1.running = s.running ∧
      (Part.doZoneWriteTiming interval hold s).1.link.core = s.link.core := by
  simp [Part.doZoneWriteTiming]

@[simp] theorem Part.doZoneRead_keeps (zone : Byte) (s : Part) :
    (Part.doZoneRead zone s).1 = s := by
  simp [Part.doZoneRead]

@[simp] theorem Part.doChanWrite_keeps (channel : Byte) (f : ChannelFields) (s : Part) :
    (Part.doChanWrite channel f s).1.clock = s.clock ∧ (Part.doChanWrite channel f s).1.cal = s.cal ∧
      (Part.doChanWrite channel f s).1.dl = s.dl ∧ (Part.doChanWrite channel f s).1.zc = s.zc ∧
      (Part.doChanWrite channel f s).1.lb = s.lb ∧ (Part.doChanWrite channel f s).1.running = s.running ∧
      (Part.doChanWrite channel f s).1.link.core = s.link.core := by
  simp [Part.doChanWrite]

@[simp] theorem Part.doChanReadChannel_keeps (channel : Byte) (s : Part) :
    (Part.doChanReadChannel channel s).1 = s := by
  simp [Part.doChanReadChannel]

@[simp] theorem Part.doChanReadScan_keeps (s : Part) :
    s.doChanReadScan.1 = s := by
  simp [Part.doChanReadScan]

@[simp] theorem Part.doScanWrite_keeps (count : Byte) (entries : List Byte) (period fast : Byte) (s : Part) :
    (Part.doScanWrite count entries period fast s).1.clock = s.clock ∧
      (Part.doScanWrite count entries period fast s).1.cal = s.cal ∧
      (Part.doScanWrite count entries period fast s).1.dl = s.dl ∧
      (Part.doScanWrite count entries period fast s).1.zc = s.zc ∧
      (Part.doScanWrite count entries period fast s).1.air = s.air ∧
      (Part.doScanWrite count entries period fast s).1.lb = s.lb ∧
      (Part.doScanWrite count entries period fast s).1.due = s.due ∧
      (Part.doScanWrite count entries period fast s).1.running = s.running ∧
      (Part.doScanWrite count entries period fast s).1.link.core = s.link.core := by
  unfold Part.doScanWrite
  (repeat' split) <;> simp

@[simp] theorem Part.doMeasure_keeps (channel : Byte) (s : Part) :
    (Part.doMeasure channel s).1.clock = s.clock ∧ (Part.doMeasure channel s).1.cal = s.cal ∧
      (Part.doMeasure channel s).1.dl = s.dl ∧ (Part.doMeasure channel s).1.zc = s.zc ∧
      (Part.doMeasure channel s).1.air = s.air ∧ (Part.doMeasure channel s).1.lb = s.lb ∧
      (Part.doMeasure channel s).1.link = s.link ∧ (Part.doMeasure channel s).1.due = s.due ∧
      (Part.doMeasure channel s).1.running = s.running := by
  unfold Part.doMeasure
  (repeat' split) <;> simp

@[simp] theorem Part.doFlagsClear_keeps (mask : BitVec 24) (s : Part) :
    (Part.doFlagsClear mask s).1.clock = s.clock ∧ (Part.doFlagsClear mask s).1.cal = s.cal ∧
      (Part.doFlagsClear mask s).1.dl = s.dl ∧ (Part.doFlagsClear mask s).1.zc = s.zc ∧
      (Part.doFlagsClear mask s).1.air = s.air ∧ (Part.doFlagsClear mask s).1.lb = s.lb ∧
      (Part.doFlagsClear mask s).1.link = s.link ∧ (Part.doFlagsClear mask s).1.due = s.due ∧
      (Part.doFlagsClear mask s).1.running = s.running := by
  simp [Part.doFlagsClear]

@[simp] theorem Part.doGroupWriteOne_keeps (group credit : Byte) (s : Part) :
    (Part.doGroupWriteOne group credit s).1.clock = s.clock ∧ (Part.doGroupWriteOne group credit s).1.cal = s.cal ∧
      (Part.doGroupWriteOne group credit s).1.mu = s.mu ∧ (Part.doGroupWriteOne group credit s).1.dl = s.dl ∧
      (Part.doGroupWriteOne group credit s).1.zc = s.zc ∧ (Part.doGroupWriteOne group credit s).1.lb = s.lb ∧
      (Part.doGroupWriteOne group credit s).1.running = s.running ∧
      (Part.doGroupWriteOne group credit s).1.link.core = s.link.core := by
  simp [Part.doGroupWriteOne]

@[simp] theorem Part.doGroupWriteHold_keeps (limit : Half) (s : Part) :
    (Part.doGroupWriteHold limit s).1.clock = s.clock ∧ (Part.doGroupWriteHold limit s).1.cal = s.cal ∧
      (Part.doGroupWriteHold limit s).1.mu = s.mu ∧ (Part.doGroupWriteHold limit s).1.dl = s.dl ∧
      (Part.doGroupWriteHold limit s).1.zc = s.zc ∧ (Part.doGroupWriteHold limit s).1.lb = s.lb ∧
      (Part.doGroupWriteHold limit s).1.due = s.due ∧ (Part.doGroupWriteHold limit s).1.running = s.running ∧
      (Part.doGroupWriteHold limit s).1.link.core = s.link.core := by
  simp [Part.doGroupWriteHold]

@[simp] theorem Part.doGroupRead_keeps (group : Byte) (s : Part) :
    (Part.doGroupRead group s).1 = s := by
  simp [Part.doGroupRead]

@[simp] theorem Part.doStationWriteOne_keeps (address enabled zone : Byte) (s : Part) :
    (Part.doStationWriteOne address enabled zone s).1.clock = s.clock ∧
      (Part.doStationWriteOne address enabled zone s).1.cal = s.cal ∧
      (Part.doStationWriteOne address enabled zone s).1.mu = s.mu ∧
      (Part.doStationWriteOne address enabled zone s).1.air = s.air ∧
      (Part.doStationWriteOne address enabled zone s).1.lb = s.lb ∧
      (Part.doStationWriteOne address enabled zone s).1.running = s.running ∧
      (Part.doStationWriteOne address enabled zone s).1.link.core = s.link.core := by
  simp [Part.doStationWriteOne]

@[simp] theorem Part.doStationMaskEnable_keeps (mask : BitVec 48) (s : Part) :
    (Part.doStationMaskEnable mask s).1.clock = s.clock ∧ (Part.doStationMaskEnable mask s).1.cal = s.cal ∧
      (Part.doStationMaskEnable mask s).1.mu = s.mu ∧ (Part.doStationMaskEnable mask s).1.zc = s.zc ∧
      (Part.doStationMaskEnable mask s).1.air = s.air ∧ (Part.doStationMaskEnable mask s).1.lb = s.lb ∧
      (Part.doStationMaskEnable mask s).1.due = s.due ∧ (Part.doStationMaskEnable mask s).1.running = s.running ∧
      (Part.doStationMaskEnable mask s).1.link.core = s.link.core := by
  simp [Part.doStationMaskEnable]

@[simp] theorem Part.doStationMaskDisable_keeps (mask : BitVec 48) (s : Part) :
    (Part.doStationMaskDisable mask s).1.clock = s.clock ∧ (Part.doStationMaskDisable mask s).1.cal = s.cal ∧
      (Part.doStationMaskDisable mask s).1.mu = s.mu ∧ (Part.doStationMaskDisable mask s).1.air = s.air ∧
      (Part.doStationMaskDisable mask s).1.lb = s.lb ∧ (Part.doStationMaskDisable mask s).1.running = s.running ∧
      (Part.doStationMaskDisable mask s).1.link.core = s.link.core := by
  simp [Part.doStationMaskDisable]

@[simp] theorem Part.doStationTimeout_keeps (timeout : Half) (s : Part) :
    (Part.doStationTimeout timeout s).1.clock = s.clock ∧ (Part.doStationTimeout timeout s).1.cal = s.cal ∧
      (Part.doStationTimeout timeout s).1.mu = s.mu ∧ (Part.doStationTimeout timeout s).1.zc = s.zc ∧
      (Part.doStationTimeout timeout s).1.air = s.air ∧ (Part.doStationTimeout timeout s).1.lb = s.lb ∧
      (Part.doStationTimeout timeout s).1.due = s.due ∧ (Part.doStationTimeout timeout s).1.running = s.running ∧
      (Part.doStationTimeout timeout s).1.link.core = s.link.core := by
  simp [Part.doStationTimeout]

@[simp] theorem Part.doStationReadOne_keeps (address : Byte) (s : Part) :
    (Part.doStationReadOne address s).1 = s := by
  simp [Part.doStationReadOne]

@[simp] theorem Part.doStationReadSummary_keeps (s : Part) :
    s.doStationReadSummary.1 = s := by
  simp [Part.doStationReadSummary]

@[simp] theorem Part.doLineReset_keeps (s : Part) :
    s.doLineReset.1.clock = s.clock ∧ s.doLineReset.1.cal = s.cal ∧ s.doLineReset.1.mu = s.mu ∧
      s.doLineReset.1.air = s.air ∧ s.doLineReset.1.lb = s.lb ∧ s.doLineReset.1.running = s.running ∧
      s.doLineReset.1.link.still = s.link.still ∧ s.doLineReset.1.link.core = s.link.core := by
  simp [Part.doLineReset]

@[simp] theorem Part.tellZone_keeps (before : Budget) (s : Part) (z : Nat) :
    (Part.tellZone before s z).clock = s.clock ∧ (Part.tellZone before s z).cal = s.cal ∧
      (Part.tellZone before s z).mu = s.mu ∧ (Part.tellZone before s z).air = s.air ∧
      (Part.tellZone before s z).lb = s.lb ∧ (Part.tellZone before s z).running = s.running ∧
      (Part.tellZone before s z).link.still = s.link.still ∧ (Part.tellZone before s z).link.core = s.link.core := by
  unfold Part.tellZone
  (repeat' split) <;> simp

@[simp] theorem Part.tellStation_keeps (before : Budget) (s : Part) (a : Nat) :
    (Part.tellStation before s a).clock = s.clock ∧ (Part.tellStation before s a).cal = s.cal ∧
      (Part.tellStation before s a).mu = s.mu ∧ (Part.tellStation before s a).air = s.air ∧
      (Part.tellStation before s a).lb = s.lb ∧ (Part.tellStation before s a).link = s.link ∧
      (Part.tellStation before s a).running = s.running := by
  unfold Part.tellStation
  (repeat' split) <;> simp

@[simp] theorem Part.tellGroup_keeps (before : Budget) (s : Part) (g : Nat) :
    (Part.tellGroup before s g).clock = s.clock ∧ (Part.tellGroup before s g).cal = s.cal ∧
      (Part.tellGroup before s g).mu = s.mu ∧ (Part.tellGroup before s g).dl = s.dl ∧
      (Part.tellGroup before s g).zc = s.zc ∧ (Part.tellGroup before s g).lb = s.lb ∧
      (Part.tellGroup before s g).running = s.running ∧ (Part.tellGroup before s g).link.still = s.link.still ∧
      (Part.tellGroup before s g).link.core = s.link.core := by
  unfold Part.tellGroup
  (repeat' split) <;> simp

@[simp] theorem Part.tellOwners_keeps (s : Part) (before : Budget) :
    (s.tellOwners before).clock = s.clock ∧ (s.tellOwners before).cal = s.cal ∧ (s.tellOwners before).mu = s.mu ∧
      (s.tellOwners before).lb = s.lb ∧ (s.tellOwners before).running = s.running ∧
      (s.tellOwners before).link.still = s.link.still ∧ (s.tellOwners before).link.core = s.link.core := by
  simp [Part.tellOwners]

@[simp] theorem Part.writeLoad_keeps (s : Part) (i : Nat) (c : LoadConfig) :
    (s.writeLoad i c).clock = s.clock ∧ (s.writeLoad i c).cal = s.cal ∧ (s.writeLoad i c).mu = s.mu ∧
      (s.writeLoad i c).running = s.running ∧ (s.writeLoad i c).link.still = s.link.still ∧
      (s.writeLoad i c).link.core = s.link.core := by
  simp [Part.writeLoad]

@[simp] theorem Part.doLoadWrite_keeps (load : Byte) (f : LoadFields) (s : Part) :
    (Part.doLoadWrite load f s).1.clock = s.clock ∧ (Part.doLoadWrite load f s).1.cal = s.cal ∧
      (Part.doLoadWrite load f s).1.mu = s.mu ∧ (Part.doLoadWrite load f s).1.running = s.running ∧
      (Part.doLoadWrite load f s).1.link.core = s.link.core := by
  simp [Part.doLoadWrite]

@[simp] theorem Part.doLoadReadOne_keeps (load : Byte) (s : Part) :
    (Part.doLoadReadOne load s).1 = s := by
  simp [Part.doLoadReadOne]

@[simp] theorem Part.doLoadReadSummary_keeps (s : Part) :
    s.doLoadReadSummary.1 = s := by
  simp [Part.doLoadReadSummary]

@[simp] theorem Part.enableLoads_keeps (s : Part) (mask : BitVec 128) (set : Bool) :
    (s.enableLoads mask set).1.clock = s.clock ∧ (s.enableLoads mask set).1.cal = s.cal ∧
      (s.enableLoads mask set).1.mu = s.mu ∧ (s.enableLoads mask set).1.zc = s.zc ∧
      (s.enableLoads mask set).1.air = s.air ∧ (s.enableLoads mask set).1.due = s.due ∧
      (s.enableLoads mask set).1.running = s.running ∧ (s.enableLoads mask set).1.link.still = s.link.still ∧
      (s.enableLoads mask set).1.link.core = s.link.core := by
  simp only [Part.enableLoads]
  (repeat' split) <;> simp_all

@[simp] theorem Part.doLoadEnableSet_keeps (mask : BitVec 128) (s : Part) :
    (Part.doLoadEnableSet mask s).1.clock = s.clock ∧ (Part.doLoadEnableSet mask s).1.cal = s.cal ∧
      (Part.doLoadEnableSet mask s).1.mu = s.mu ∧ (Part.doLoadEnableSet mask s).1.zc = s.zc ∧
      (Part.doLoadEnableSet mask s).1.air = s.air ∧ (Part.doLoadEnableSet mask s).1.due = s.due ∧
      (Part.doLoadEnableSet mask s).1.running = s.running ∧ (Part.doLoadEnableSet mask s).1.link.core = s.link.core := by
  simp [Part.doLoadEnableSet]

@[simp] theorem Part.doLoadEnableClear_keeps (mask : BitVec 128) (s : Part) :
    (Part.doLoadEnableClear mask s).1.clock = s.clock ∧ (Part.doLoadEnableClear mask s).1.cal = s.cal ∧
      (Part.doLoadEnableClear mask s).1.mu = s.mu ∧ (Part.doLoadEnableClear mask s).1.zc = s.zc ∧
      (Part.doLoadEnableClear mask s).1.air = s.air ∧ (Part.doLoadEnableClear mask s).1.due = s.due ∧
      (Part.doLoadEnableClear mask s).1.running = s.running ∧
      (Part.doLoadEnableClear mask s).1.link.core = s.link.core := by
  simp [Part.doLoadEnableClear]

@[simp] theorem Part.storeAux_keeps (s : Part) (i request urgency : Nat) :
    (s.storeAux i request urgency).clock = s.clock ∧ (s.storeAux i request urgency).cal = s.cal ∧
      (s.storeAux i request urgency).mu = s.mu ∧ (s.storeAux i request urgency).zc = s.zc ∧
      (s.storeAux i request urgency).air = s.air ∧ (s.storeAux i request urgency).due = s.due ∧
      (s.storeAux i request urgency).running = s.running ∧ (s.storeAux i request urgency).link.still = s.link.still ∧
      (s.storeAux i request urgency).link.core = s.link.core := by
  simp only [Part.storeAux]
  (repeat' split) <;> simp_all

@[simp] theorem Part.doAuxRequest_keeps (load request : Byte) (urgency : Half) (s : Part) :
    (Part.doAuxRequest load request urgency s).1.clock = s.clock ∧
      (Part.doAuxRequest load request urgency s).1.cal = s.cal ∧
      (Part.doAuxRequest load request urgency s).1.mu = s.mu ∧ (Part.doAuxRequest load request urgency s).1.zc = s.zc
      ∧ (Part.doAuxRequest load request urgency s).1.air = s.air ∧
      (Part.doAuxRequest load request urgency s).1.due = s.due ∧
      (Part.doAuxRequest load request urgency s).1.running = s.running ∧
      (Part.doAuxRequest load request urgency s).1.link.still = s.link.still ∧
      (Part.doAuxRequest load request urgency s).1.link.core = s.link.core := by
  simp [Part.doAuxRequest]

@[simp] theorem Part.doLimitWrite_keeps (base : Half) (spacing : Byte) (s : Part) :
    (Part.doLimitWrite base spacing s).1.clock = s.clock ∧ (Part.doLimitWrite base spacing s).1.cal = s.cal ∧
      (Part.doLimitWrite base spacing s).1.mu = s.mu ∧ (Part.doLimitWrite base spacing s).1.zc = s.zc ∧
      (Part.doLimitWrite base spacing s).1.air = s.air ∧ (Part.doLimitWrite base spacing s).1.due = s.due ∧
      (Part.doLimitWrite base spacing s).1.running = s.running ∧
      (Part.doLimitWrite base spacing s).1.link.core = s.link.core := by
  simp [Part.doLimitWrite]

@[simp] theorem Part.doLimitCapSet_keeps (value : Half) (minutes : Byte) (s : Part) :
    (Part.doLimitCapSet value minutes s).1.clock = s.clock ∧ (Part.doLimitCapSet value minutes s).1.cal = s.cal ∧
      (Part.doLimitCapSet value minutes s).1.mu = s.mu ∧ (Part.doLimitCapSet value minutes s).1.zc = s.zc ∧
      (Part.doLimitCapSet value minutes s).1.air = s.air ∧ (Part.doLimitCapSet value minutes s).1.due = s.due ∧
      (Part.doLimitCapSet value minutes s).1.running = s.running ∧
      (Part.doLimitCapSet value minutes s).1.link.still = s.link.still ∧
      (Part.doLimitCapSet value minutes s).1.link.core = s.link.core := by
  simp [Part.doLimitCapSet]

@[simp] theorem Part.doLimitCapCancel_keeps (s : Part) :
    s.doLimitCapCancel.1.clock = s.clock ∧ s.doLimitCapCancel.1.cal = s.cal ∧ s.doLimitCapCancel.1.mu = s.mu ∧
      s.doLimitCapCancel.1.zc = s.zc ∧ s.doLimitCapCancel.1.air = s.air ∧ s.doLimitCapCancel.1.due = s.due ∧
      s.doLimitCapCancel.1.running = s.running ∧ s.doLimitCapCancel.1.link.still = s.link.still ∧
      s.doLimitCapCancel.1.link.core = s.link.core := by
  simp [Part.doLimitCapCancel]

@[simp] theorem Part.doNoticeMask_keeps (mask : Half) (s : Part) :
    (Part.doNoticeMask mask s).1.clock = s.clock ∧ (Part.doNoticeMask mask s).1.cal = s.cal ∧
      (Part.doNoticeMask mask s).1.mu = s.mu ∧ (Part.doNoticeMask mask s).1.dl = s.dl ∧
      (Part.doNoticeMask mask s).1.zc = s.zc ∧ (Part.doNoticeMask mask s).1.air = s.air ∧
      (Part.doNoticeMask mask s).1.lb = s.lb ∧ (Part.doNoticeMask mask s).1.due = s.due ∧
      (Part.doNoticeMask mask s).1.running = s.running ∧ (Part.doNoticeMask mask s).1.link.core = s.link.core := by
  unfold Part.doNoticeMask Part.configWrite
  split <;> (repeat' apply And.intro) <;> rfl

@[simp] theorem Part.doSaveConfig_keeps (s : Part) :
    s.doSaveConfig.1.clock = s.clock ∧ s.doSaveConfig.1.cal = s.cal ∧ s.doSaveConfig.1.mu = s.mu ∧
      s.doSaveConfig.1.dl = s.dl ∧ s.doSaveConfig.1.zc = s.zc ∧ s.doSaveConfig.1.air = s.air ∧
      s.doSaveConfig.1.lb = s.lb ∧ s.doSaveConfig.1.due = s.due ∧ s.doSaveConfig.1.running = s.running ∧
      s.doSaveConfig.1.link.core = s.link.core := by
  unfold Part.doSaveConfig
  (repeat' split) <;> simp [Link.core]

@[simp] theorem Part.doRestart_keeps (s : Part) :
    s.doRestart.1 = s := by
  unfold Part.doRestart
  (repeat' split) <;> simp

@[simp] theorem Part.notRequest_keeps (s : Part) :
    s.notRequest.1 = s := by
  simp [Part.notRequest]

/-! ### Timers -/

@[simp] theorem Part.scanExpires_keeps (s : Part) :
    s.scanExpires.clock = s.clock ∧ s.scanExpires.cal = s.cal ∧ s.scanExpires.dl = s.dl ∧ s.scanExpires.zc = s.zc ∧
      s.scanExpires.air = s.air ∧ s.scanExpires.lb = s.lb ∧ s.scanExpires.link = s.link ∧ s.scanExpires.due = s.due ∧
      s.scanExpires.running = s.running := by
  simp [Part.scanExpires]

@[simp] theorem Part.fastExpires_keeps (s : Part) :
    s.fastExpires.clock = s.clock ∧ s.fastExpires.cal = s.cal ∧ s.fastExpires.dl = s.dl ∧ s.fastExpires.zc = s.zc ∧
      s.fastExpires.air = s.air ∧ s.fastExpires.lb = s.lb ∧ s.fastExpires.link = s.link ∧ s.fastExpires.due = s.due ∧
      s.fastExpires.running = s.running := by
  simp [Part.fastExpires]

@[simp] theorem Part.ageSecond_keeps (s : Part) :
    s.ageSecond.clock = s.clock ∧ s.ageSecond.cal = s.cal ∧ s.ageSecond.dl = s.dl ∧ s.ageSecond.zc = s.zc ∧
      s.ageSecond.air = s.air ∧ s.ageSecond.lb = s.lb ∧ s.ageSecond.link = s.link ∧ s.ageSecond.due = s.due ∧
      s.ageSecond.running = s.running := by
  simp [Part.ageSecond]

@[simp] theorem Part.presenceExpires_keeps (s : Part) (z : Nat) :
    (s.presenceExpires z).clock = s.clock ∧ (s.presenceExpires z).cal = s.cal ∧ (s.presenceExpires z).mu = s.mu ∧
      (s.presenceExpires z).dl = s.dl ∧ (s.presenceExpires z).air = s.air ∧ (s.presenceExpires z).lb = s.lb ∧
      (s.presenceExpires z).link = s.link ∧ (s.presenceExpires z).running = s.running := by
  unfold Part.presenceExpires
  (repeat' split) <;> simp

@[simp] theorem Part.runOnTimerExpires_keeps (s : Part) (a : Nat) :
    (s.runOnTimerExpires a).clock = s.clock ∧ (s.runOnTimerExpires a).cal = s.cal ∧
      (s.runOnTimerExpires a).mu = s.mu ∧ (s.runOnTimerExpires a).air = s.air ∧ (s.runOnTimerExpires a).lb = s.lb ∧
      (s.runOnTimerExpires a).link = s.link ∧ (s.runOnTimerExpires a).running = s.running := by
  unfold Part.runOnTimerExpires
  (repeat' split) <;> simp

@[simp] theorem Part.silenceExpires_keeps (s : Part) (a : Nat) :
    (s.silenceExpires a).clock = s.clock ∧ (s.silenceExpires a).cal = s.cal ∧ (s.silenceExpires a).mu = s.mu ∧
      (s.silenceExpires a).zc = s.zc ∧ (s.silenceExpires a).air = s.air ∧ (s.silenceExpires a).lb = s.lb ∧
      (s.silenceExpires a).running = s.running ∧ (s.silenceExpires a).link.still = s.link.still ∧
      (s.silenceExpires a).link.core = s.link.core := by
  unfold Part.silenceExpires
  (repeat' split) <;> simp

@[simp] theorem Part.spacingExpires_keeps (s : Part) :
    s.spacingExpires.clock = s.clock ∧ s.spacingExpires.cal = s.cal ∧ s.spacingExpires.mu = s.mu ∧
      s.spacingExpires.zc = s.zc ∧ s.spacingExpires.air = s.air ∧ s.spacingExpires.link = s.link ∧
      s.spacingExpires.due = s.due ∧ s.spacingExpires.running = s.running := by
  unfold Part.spacingExpires
  (repeat' split) <;> simp

@[simp] theorem Part.minOnExpires_keeps (s : Part) (i : Nat) :
    (s.minOnExpires i).clock = s.clock ∧ (s.minOnExpires i).cal = s.cal ∧ (s.minOnExpires i).mu = s.mu ∧
      (s.minOnExpires i).zc = s.zc ∧ (s.minOnExpires i).air = s.air ∧ (s.minOnExpires i).due = s.due ∧
      (s.minOnExpires i).running = s.running ∧ (s.minOnExpires i).link.still = s.link.still ∧
      (s.minOnExpires i).link.core = s.link.core := by
  simp only [Part.minOnExpires]
  (repeat' split) <;> simp_all

@[simp] theorem Part.minOffExpires_keeps (s : Part) (i : Nat) :
    (s.minOffExpires i).clock = s.clock ∧ (s.minOffExpires i).cal = s.cal ∧ (s.minOffExpires i).mu = s.mu ∧
      (s.minOffExpires i).zc = s.zc ∧ (s.minOffExpires i).air = s.air ∧ (s.minOffExpires i).due = s.due ∧
      (s.minOffExpires i).running = s.running ∧ (s.minOffExpires i).link.still = s.link.still ∧
      (s.minOffExpires i).link.core = s.link.core := by
  simp only [Part.minOffExpires]
  (repeat' split) <;> simp_all

@[simp] theorem Part.capExpires_keeps (s : Part) :
    s.capExpires.clock = s.clock ∧ s.capExpires.cal = s.cal ∧ s.capExpires.mu = s.mu ∧ s.capExpires.zc = s.zc ∧
      s.capExpires.air = s.air ∧ s.capExpires.due = s.due ∧ s.capExpires.running = s.running ∧
      s.capExpires.link.still = s.link.still ∧ s.capExpires.link.core = s.link.core := by
  unfold Part.capExpires
  (repeat' split) <;> simp

@[simp] theorem Part.dimPeriod_keeps (s : Part) (n : Nat) :
    (s.dimPeriod n).clock = s.clock ∧ (s.dimPeriod n).cal = s.cal ∧ (s.dimPeriod n).mu = s.mu ∧
      (s.dimPeriod n).dl = s.dl ∧ (s.dimPeriod n).zc = s.zc ∧ (s.dimPeriod n).air = s.air ∧
      (s.dimPeriod n).link = s.link ∧ (s.dimPeriod n).due = s.due ∧ (s.dimPeriod n).running = s.running := by
  simp [Part.dimPeriod]

@[simp] theorem Part.second_keeps (s : Part) :
    s.second.clock = s.clock ∧ s.second.cal = s.cal ∧ s.second.air = s.air ∧ s.second.link = s.link ∧
      s.second.due = s.due ∧ s.second.running = s.running := by
  simp [Part.second]

/-! ### Phase hand-off -/

@[simp] theorem Part.takePhaseLimit_keeps (s : Part) (z : Nat) :
    (s.takePhaseLimit z).clock = s.clock ∧ (s.takePhaseLimit z).cal = s.cal ∧ (s.takePhaseLimit z).mu = s.mu ∧
      (s.takePhaseLimit z).zc = s.zc ∧ (s.takePhaseLimit z).air = s.air ∧ (s.takePhaseLimit z).lb = s.lb ∧
      (s.takePhaseLimit z).running = s.running ∧ (s.takePhaseLimit z).link.still = s.link.still ∧
      (s.takePhaseLimit z).link.core = s.link.core := by
  unfold Part.takePhaseLimit
  (repeat' split) <;> simp

/-! ### Gas conversions -/

@[simp] theorem Part.takeConversion_keeps (s : Part) (c : Nat) :
    (s.takeConversion c).clock = s.clock ∧ (s.takeConversion c).cal = s.cal ∧ (s.takeConversion c).mu = s.mu ∧
      (s.takeConversion c).dl = s.dl ∧ (s.takeConversion c).zc = s.zc ∧ (s.takeConversion c).lb = s.lb ∧
      (s.takeConversion c).running = s.running ∧ (s.takeConversion c).link.still = s.link.still ∧
      (s.takeConversion c).link.core = s.link.core := by
  unfold Part.takeConversion
  (repeat' split) <;> simp

end Sys2Proof.Machine
end

