-- ==== Sys2Proof/Laws/Link.lean ====
section
/-! SUPPORT. The link port's lists: replies on their way out keep their order, a request taken at once is answered last among
them, and the end of an event moves nothing else. -/

namespace Sys2Proof.Machine

/-! ### Replies on their way out -/

/-- The transmitter's pick changes no reply on its way out. -/
@[simp] theorem Link.kick_outgoing (l : Link) : l.kick.outgoing = l.outgoing := by
  unfold Link.kick
  split
  · rename_i ht
    split
    · rename_i r rest hr
      cases hw : l.waiting <;> simp [Link.outgoing, Transmitter.replyBody, ht, hr, hw]
    · rename_i hr
      split
      · simp [Link.outgoing, Transmitter.replyBody, ht, hr]
      · rfl
  · rfl

/-- A reply that becomes ready stands last. -/
@[simp] theorem Link.ready_outgoing (l : Link) (r : Reply) : (l.ready r).outgoing = l.outgoing ++ [r.body] := by
  unfold Link.ready
  split
  · rename_i h
    simp [Link.outgoing, h.2]
  · simp [Link.outgoing]

/-- Two link ports that differ in their notices only have the same replies on their way out. -/
theorem Link.outgoing_of_still {l m : Link} (h : l.still = m.still) : l.outgoing = m.outgoing := by
  have ht : l.transmitter = m.transmitter := by change l.still.transmitter = m.still.transmitter; rw [h]
  have hr : l.replies = m.replies := by change l.still.replies = m.still.replies; rw [h]
  have hw : l.waiting = m.waiting := by change l.still.waiting = m.still.waiting; rw [h]
  simp [Link.outgoing, ht, hr, hw]

@[simp] theorem Link.kick_inHand (l : Link) : l.kick.inHand = l.inHand := by unfold Link.kick; (repeat' split) <;> rfl
@[simp] theorem Link.kick_holding (l : Link) : l.kick.holding = l.holding := by unfold Link.kick; (repeat' split) <;> rfl
@[simp] theorem Link.kick_receiver (l : Link) : l.kick.receiver = l.receiver := by unfold Link.kick; (repeat' split) <;> rfl
@[simp] theorem Link.kick_errors (l : Link) : l.kick.errors = l.errors := by unfold Link.kick; (repeat' split) <;> rfl
@[simp] theorem Link.kick_mask (l : Link) : l.kick.mask = l.mask := by unfold Link.kick; (repeat' split) <;> rfl
@[simp] theorem Link.kick_saving (l : Link) : l.kick.saving = l.saving := by unfold Link.kick; (repeat' split) <;> rfl
@[simp] theorem Link.kick_unsaved (l : Link) : l.kick.unsaved = l.unsaved := by unfold Link.kick; (repeat' split) <;> rfl
@[simp] theorem Link.kick_store (l : Link) : l.kick.store = l.store := by unfold Link.kick; (repeat' split) <;> rfl
@[simp] theorem Link.kick_storeGood (l : Link) : l.kick.storeGood = l.storeGood := by
  unfold Link.kick; (repeat' split) <;> rfl
@[simp] theorem Link.kick_startCause (l : Link) : l.kick.startCause = l.startCause := by
  unfold Link.kick; (repeat' split) <;> rfl
@[simp] theorem Link.kick_source (l : Link) : l.kick.source = l.source := by unfold Link.kick; (repeat' split) <;> rfl
@[simp] theorem Link.kick_speed (l : Link) : l.kick.speed = l.speed := by unfold Link.kick; (repeat' split) <;> rfl
@[simp] theorem Link.kick_deferredMeasure (l : Link) : l.kick.deferredMeasure = l.deferredMeasure := by
  unfold Link.kick; (repeat' split) <;> rfl
@[simp] theorem Link.kick_deferredSave (l : Link) : l.kick.deferredSave = l.deferredSave := by
  unfold Link.kick; (repeat' split) <;> rfl

/-- A transmitter that has picked, or had nothing to pick, picks nothing more. -/
@[simp] theorem Link.kick_kick (l : Link) : l.kick.kick = l.kick := by
  unfold Link.kick
  (repeat' split) <;> simp_all

@[simp] theorem Part.close_close (s : Part) : s.close.close = s.close := by simp [Part.close]

/-- With a reply to send, the transmitter's pick takes no notice. -/
theorem Link.kick_aside (l : Link) (h : l.replies ≠ []) : l.kick.aside = l.aside := by
  unfold Link.kick
  split
  · cases hr : l.replies with
    | nil => exact absurd hr h
    | cons r rest => simp [Link.aside]
  · rfl

/-- A reply that becomes ready leaves some reply in the list, when replies wait outside it only then. -/
theorem Link.ready_replies (l : Link) (r : Reply) (h : l.waiting ≠ [] → l.replies ≠ []) : (l.ready r).replies ≠ [] := by
  unfold Link.ready
  split
  · simp
  · rename_i hn
    by_cases hw : l.waiting = []
    · intro he
      have he' : l.replies = [] := he
      exact hn ⟨by simp [he', Config.replyPlaces], hw⟩
    · exact h hw

@[simp] theorem Link.ready_aside (l : Link) (r : Reply) : (l.ready r).aside = l.aside := by
  unfold Link.ready; split <;> rfl

@[simp] theorem Link.ready_inHand (l : Link) (r : Reply) : (l.ready r).inHand = l.inHand := by
  unfold Link.ready; split <;> rfl

/-! ### What an owner's work leaves of the link port -/

/-- An owner's work on a request leaves the receiver, the holding area, the request in hand, the transmitter, the error count,
the store and the start figures, and the part running or held. -/
@[simp] theorem Part.serve_keeps (i : Instr) (s : Part) :
    (s.serve i).1.link.core = s.link.core ∧ (s.serve i).1.running = s.running := by
  cases i <;> simp [Part.serve]

theorem Link.holding_of_core {l m : Link} (h : l.core = m.core) : l.holding = m.holding := by
  change l.core.holding = m.core.holding; rw [h]
theorem Link.inHand_of_core {l m : Link} (h : l.core = m.core) : l.inHand = m.inHand := by
  change l.core.inHand = m.core.inHand; rw [h]
theorem Link.transmitter_of_core {l m : Link} (h : l.core = m.core) : l.transmitter = m.transmitter := by
  change l.core.transmitter = m.core.transmitter; rw [h]
theorem Link.receiver_of_core {l m : Link} (h : l.core = m.core) : l.receiver = m.receiver := by
  change l.core.receiver = m.core.receiver; rw [h]
theorem Link.store_of_core {l m : Link} (h : l.core = m.core) : l.store = m.store := by
  change l.core.store = m.core.store; rw [h]
theorem Link.errors_of_core {l m : Link} (h : l.core = m.core) : l.errors = m.errors := by
  change l.core.errors = m.core.errors; rw [h]

/-- A request taken leaves the holding area as it was. -/
theorem Part.take_holding (s : Part) (tag kind : Byte) (i : Instr) :
    (s.take tag kind (Part.serve i)).link.holding = s.link.holding := by
  have h := Link.holding_of_core
    (Part.serve_keeps i { s with link := { s.link with inHand := some (tag, kind) } }).1
  unfold Part.take Part.settle
  split
  · simp only [Link.defer]
    split <;> exact h
  · simp only [Link.ready]
    split <;> exact h

/-! ### A request taken at once -/

/-- The part with a request in hand. -/
def Part.taken (p : Part) (tag kind : Byte) : Part := { p with link := { p.link with inHand := some (tag, kind) } }

/-- A request that is taken at once and answered: what its owner leaves, with the reply last among those on their way out. -/
theorem Answers.of_act {i : Instr} {s : State} {tag kind : Byte} {act : Part → Part × Verdict} {v : Verdict}
    (hi : exec i s = s.request i tag kind act) (r : s.Ready) (hv : (act (s.part.taken tag kind)).2 = v)
    (hd : v ≠ .deferred)
    (hstill : (act (s.part.taken tag kind)).1.link.outgoing = s.part.link.outgoing)
    (hhand : (act (s.part.taken tag kind)).1.link.inHand = some (tag, kind))
    (horder : (act (s.part.taken tag kind)).1.link.waiting ≠ [] → (act (s.part.taken tag kind)).1.link.replies ≠ []) :
    Answers i s tag kind v fun q => q.aside = (act (s.part.taken tag kind)).1.aside := by
  have hset : Part.settle tag kind (act (s.part.taken tag kind)) =
      { (act (s.part.taken tag kind)).1 with
        link := (act (s.part.taken tag kind)).1.link.ready (v.reply tag kind true) } := by
    unfold Part.settle
    rw [hv]
    cases v with
    | deferred => exact absurd rfl hd
    | done c d => rfl
    | refused c f => rfl
  refine ⟨{ s with part := (Part.settle tag kind (act (s.part.taken tag kind))).close }, ?_, rfl, ?_, ?_, ?_⟩
  · rw [hi]
    simp only [State.request, State.act, r.runs, if_true, Part.request, r.free, r.noneHeld, and_self]
    rfl
  · rw [hset]
    simp [Part.close, hstill, Verdict.reply]
  · rw [hset]
    simp [Part.close, hhand]
  · rw [hset]
    simp only [Part.aside, Part.close]
    rw [Link.kick_aside _ (Link.ready_replies _ _ horder)]
    simp

/-! ### What the line carried -/

/-- One event of the line that closes by itself moves none of these. -/
theorem Part.lineEvent_closed_keeps (s : Part) (e : LineEvent) :
    (s.takeLineEvent e).close.clock = s.clock ∧ (s.takeLineEvent e).close.cal = s.cal ∧
      (s.takeLineEvent e).close.mu = s.mu ∧ (s.takeLineEvent e).close.air = s.air ∧
      (s.takeLineEvent e).close.running = s.running ∧
      (s.takeLineEvent e).close.link.outgoing = s.link.outgoing ∧
      (s.takeLineEvent e).close.link.inHand = s.link.inHand := by
  have h := Part.takeLineEvent_keeps s e
  have ho := Link.outgoing_of_still h.2.2.2.2.2.1
  have hi : (s.takeLineEvent e).link.inHand = s.link.inHand := by
    change (s.takeLineEvent e).link.still.inHand = s.link.still.inHand
    rw [h.2.2.2.2.2.1]
  simp [Part.close, ho, hi]

/-- What the line carried moves none of these, whatever its events. -/
theorem Part.receive_keeps (s : Part) (heard : Heard) :
    (s.receive heard).clock = s.clock ∧ (s.receive heard).cal = s.cal ∧ (s.receive heard).mu = s.mu ∧
      (s.receive heard).air = s.air ∧ (s.receive heard).running = s.running ∧
      (s.receive heard).link.outgoing = s.link.outgoing ∧ (s.receive heard).link.inHand = s.link.inHand := by
  let figures := fun p : Part => (p.clock, p.cal, p.mu, p.air, p.running, p.link.outgoing, p.link.inHand)
  have step : ∀ p e, figures (p.takeLineEvent e).close = figures p := fun p e => by
    obtain ⟨h1, h2, h3, h4, h5, h6, h7⟩ := p.lineEvent_closed_keeps e
    simp only [figures, h1, h2, h3, h4, h5, h6, h7]
  have all := foldl_keeps figures (fun p e => (p.takeLineEvent e).close) step
  have hf : figures (s.receive heard) = figures s := by
    cases heard with
    | frame spans => exact all _ s
    | answer spans => simp only [Part.receive]; split <;> [rfl; exact all _ s]
  simpa [figures] using hf

end Sys2Proof.Machine
end

