-- ==== Sys2Proof/Laws/Exec.lean ====
section
/-! SUPPORT. What exec is for each command: a request row is its owner's work on a request taken, or held for later; an event row
is its operation over the part. Each lemma is true by unfolding the meaning it names, so that no proof unfolds one again. -/

namespace Sys2Proof.Machine

/-! ### Acting on the part -/

/-- A command that acts leaves the queue of commands alone. -/
theorem State.act_next (s : State) (f : Part → Part) : ∃ t, s.act f = .next t ∧ t.pending = s.pending := by
  unfold State.act
  split <;> exact ⟨_, rfl, rfl⟩

/-- A part held in reset takes no command. -/
theorem State.act_held (s : State) (f : Part → Part) (h : s.part.running = false) : s.act f = .next s := by
  simp [State.act, h]

/-- A command acts on a running part. -/
theorem State.act_runs (s : State) (f : Part → Part) (h : s.part.running = true) :
    s.act f = .next { s with part := (f s.part).close } := by
  simp [State.act, h]

/-- Where a command that acts leads: the state unchanged while held in reset, else the part after the operation and the
transmitter's pick. -/
theorem State.act_cases {s t : State} {f : Part → Part} (h : s.act f = .next t) :
    (s.part.running = false ∧ t = s) ∨ (s.part.running = true ∧ t = { s with part := (f s.part).close }) := by
  unfold State.act at h
  split at h
  · rename_i hr
    exact .inr ⟨hr, by cases h; rfl⟩
  · rename_i hr
    exact .inl ⟨by simpa using hr, by cases h; rfl⟩

/-! ### Request rows -/

/-- A request row hands its request to its owner: exec takes it, or holds it, under the tag and kind of its body. -/
theorem exec_request (i : Instr) (s : State) (h : inCatalogue i = true) :
    exec i s = s.request i (bodyTag (encodeRequest i)) (bodyKind (encodeRequest i)) (Part.serve i) := by
  cases i <;> first | exact absurd (show false = true from h) Bool.false_ne_true | rfl

/-! ### Event rows -/

theorem exec_powerOn (straps : BitVec 2) (storeReads : Bool) (s : State) :
    exec (.powerOn straps storeReads) s = .next { s with part := s.part.powerUp straps storeReads } := rfl
theorem exec_resetAsserted (s : State) :
    exec .resetAsserted s = .next { s with part := s.part.heldInReset } := rfl
theorem exec_linkFrameReceived (length : Byte) (body : List Byte) (high low : Byte) (s : State) :
    exec (.linkFrameReceived length body high low) s =
      s.act fun p => (linkFrame length body high low).foldl Part.receiveByte p := rfl
theorem exec_linkGapTimeout (s : State) :
    exec .linkGapTimeout s = s.act fun p => { p with link := p.link.gap } := rfl
theorem exec_requestUnknownKind (kind tag : Byte) (fields : List Byte) (s : State) :
    exec (.requestUnknownKind kind tag fields) s = s.act fun p => p.receiveBody (kind :: tag :: fields) := rfl
theorem exec_linkFrameSent (s : State) : exec .linkFrameSent s = s.act Part.frameSent := rfl
theorem exec_linkByteReceived (byte : Byte) (s : State) :
    exec (.linkByteReceived byte) s = s.act fun p => p.receiveByte byte := rfl
theorem exec_saveComplete (s : State) :
    exec .saveComplete s = s.act fun p => { p with link := p.link.saveEnds } := rfl
theorem exec_restartEffect (s : State) : exec .restartEffect s = s.act Part.takeRestart := rfl
theorem exec_crystalCycle (s : State) : exec .crystalCycle s = s.act Part.cycle := rfl
theorem exec_correctionCycle (s : State) : exec .correctionCycle s = s.act fun p => p.cycle := rfl
theorem exec_quarterSecondMark (s : State) :
    exec .quarterSecondMark s = s.act fun p => ({ p with clock := p.clock.toQuarterEnd }).cycle := rfl
theorem exec_minuteBoundary (s : State) :
    exec .minuteBoundary s = s.act fun p => ({ p with clock := p.clock.toMinuteEnd p.boardChannel }).cycle := rfl
theorem exec_zoneEvaluation (zone : Nat) (s : State) :
    exec (.zoneEvaluation zone) s =
      s.act fun p => if zone < 12 then (p.settleDue fun d => decide (d = .evaluate zone)).evaluate zone else p := rfl
theorem exec_evaluationTimerExpiry (zone : Nat) (s : State) :
    exec (.evaluationTimerExpiry zone) s = s.act fun p => if zone < 12 then p.evaluate zone else p := rfl
theorem exec_freezeGuardEdge (channel : Nat) (alarm : Bool) (s : State) :
    exec (.freezeGuardEdge channel alarm) s =
      s.act fun p =>
        if channel < 20 then (p.settleDue fun d => decide (d = .freezeEdge channel alarm)).takeFreezeEdge channel alarm
        else p := rfl
theorem exec_presenceTimerExpiry (zone : Nat) (s : State) :
    exec (.presenceTimerExpiry zone) s = s.act fun p => if zone < 12 then p.presenceExpires zone else p := rfl
theorem exec_runOnExpiry (address : Nat) (s : State) :
    exec (.runOnExpiry address) s = s.act fun p => if isAddress address then p.runOnTimerExpires address else p := rfl
theorem exec_scanTimerExpiry (s : State) : exec .scanTimerExpiry s = s.act Part.scanExpires := rfl
theorem exec_fastScanTimerExpiry (s : State) : exec .fastScanTimerExpiry s = s.act Part.fastExpires := rfl
theorem exec_conversionComplete (nanovolts : Int) (s : State) :
    exec (.conversionComplete nanovolts) s = s.act fun p => p.completeConversion nanovolts := rfl
theorem exec_validAgeSecond (s : State) : exec .validAgeSecond s = s.act Part.ageSecond := rfl
theorem exec_gasConversion (channel : Nat) (s : State) :
    exec (.gasConversion channel) s = s.act fun p => if channel < 20 then p.takeConversion channel else p := rfl
theorem exec_holdCheck (s : State) : exec .holdCheck s = s.act Part.runHoldCheck := rfl
theorem exec_groupDemandCompute (group : Nat) (s : State) :
    exec (.groupDemandCompute group) s =
      s.act fun p => if group < 6 then (p.settleDue fun d => decide (d = .demand group)).computeDemand group else p := rfl
theorem exec_frameStart (s : State) : exec .frameStart s = s.act Part.beginFrame := rfl
theorem exec_arbitrationLost (s : State) : exec .arbitrationLost s = s.act Part.loseArbitration := rfl
theorem exec_doorReport (address door : Byte) (early : List Early) (s : State) :
    exec (.doorReport address door early) s = s.act fun p => p.receiveFrame address (.doorReport door) early := rfl
theorem exec_hello (address station revision door : Byte) (early : List Early) (s : State) :
    exec (.hello address station revision door early) s =
      s.act fun p => p.receiveFrame address (.hello station revision door) early := rfl
theorem exec_statusReport (address door condition : Byte) (early : List Early) (s : State) :
    exec (.statusReport address door condition early) s =
      s.act fun p => p.receiveFrame address (.status door condition) early := rfl
theorem exec_presenceReport (address motion : Byte) (s : State) :
    exec (.presenceReport address motion) s = s.act fun p => p.receiveFrame address (.presence motion) [] := rfl
theorem exec_stationFrameRejected (heard : Heard) (s : State) :
    exec (.stationFrameRejected heard) s = s.act fun p => p.receive heard := rfl
theorem exec_answerSent (s : State) : exec .answerSent s = s.act Part.answerSent := rfl
theorem exec_queryAnswer (door condition check : Byte) (s : State) :
    exec (.queryAnswer door condition check) s =
      s.act fun p => p.receiveAnswer .query door (some condition) check := rfl
theorem exec_setOutputsAnswer (door check : Byte) (s : State) :
    exec (.setOutputsAnswer door check) s = s.act fun p => p.receiveAnswer .setOutputs door none check := rfl
theorem exec_noAnswer (s : State) : exec .noAnswer s = s.act Part.noAnswer := rfl
theorem exec_lineRest (s : State) : exec .lineRest s = s.act Part.restLine := rfl
theorem exec_lineClearReceived (s : State) : exec .lineClearReceived s = s.act Part.receiveClear := rfl
theorem exec_lineStuck (s : State) : exec .lineStuck s = s.act Part.goStuck := rfl
theorem exec_stuckRelease (s : State) : exec .stuckRelease s = s.act Part.releaseStuck := rfl
theorem exec_lineDead (s : State) : exec .lineDead s = s.act Part.goDead := rfl
theorem exec_deadProbe (released echoed : Bool) (s : State) :
    exec (.deadProbe released echoed) s = s.act fun p => p.probeDead released echoed := rfl
theorem exec_drivingEdge (s : State) : exec .drivingEdge s = s.act Part.drivingEdge := rfl
theorem exec_silenceTimerExpiry (address : Nat) (s : State) :
    exec (.silenceTimerExpiry address) s =
      s.act fun p => if isAddress address then p.silenceExpires address else p := rfl
theorem exec_probeTimerExpiry (s : State) : exec .probeTimerExpiry s = s.act Part.probeCycle := rfl
theorem exec_doorSecondTick (s : State) : exec .doorSecondTick s = s.act Part.doorSecond := rfl
theorem exec_phaseHandoffDoorLine (zone : Nat) (s : State) :
    exec (.phaseHandoffDoorLine zone) s = s.act fun p => if zone < 12 then p.takePhaseLimit zone else p := rfl
theorem exec_allocationPass (change : Nat) (s : State) :
    exec (.allocationPass change) s = s.act fun p => p.takeNth change := rfl
theorem exec_spacingTimerExpiry (s : State) : exec .spacingTimerExpiry s = s.act Part.spacingExpires := rfl
theorem exec_minOnExpiry (load : Nat) (s : State) :
    exec (.minOnExpiry load) s = s.act fun p => if load < 128 then p.minOnExpires load else p := rfl
theorem exec_minOffExpiry (load : Nat) (s : State) :
    exec (.minOffExpiry load) s = s.act fun p => if load < 128 then p.minOffExpires load else p := rfl
theorem exec_capExpiry (s : State) : exec .capExpiry s = s.act Part.capExpires := rfl
theorem exec_outputRefreshLatch (s : State) :
    exec .outputRefreshLatch s = s.act fun p => { p with lb := p.lb.latch } := rfl
theorem exec_periodicRefresh (s : State) :
    exec .periodicRefresh s = s.act fun p => { p with lb := p.lb.refresh } := rfl
theorem exec_dimPeriodStart (output : Nat) (s : State) :
    exec (.dimPeriodStart output) s = s.act fun p => if output < 12 then p.dimPeriod output else p := rfl

/-! ### Every command -/

/-- Every command but POWER_ON and RESET_ASSERTED acts by an operation over the part. -/
theorem exec_acts (c : Instr) (s : State) (hp : ∀ straps reads, c ≠ .powerOn straps reads) (hr : c ≠ .resetAsserted) :
    ∃ f, exec c s = s.act f := by
  cases hc : inCatalogue c
  · cases c
    case powerOn a b => exact absurd rfl (hp a b)
    case resetAsserted => exact absurd rfl hr
    case linkFrameReceived => exact ⟨_, exec_linkFrameReceived _ _ _ _ s⟩
    case linkGapTimeout => exact ⟨_, exec_linkGapTimeout s⟩
    case requestUnknownKind => exact ⟨_, exec_requestUnknownKind _ _ _ s⟩
    case linkFrameSent => exact ⟨_, exec_linkFrameSent s⟩
    case linkByteReceived => exact ⟨_, exec_linkByteReceived _ s⟩
    case saveComplete => exact ⟨_, exec_saveComplete s⟩
    case restartEffect => exact ⟨_, exec_restartEffect s⟩
    case crystalCycle => exact ⟨_, exec_crystalCycle s⟩
    case correctionCycle => exact ⟨_, exec_correctionCycle s⟩
    case quarterSecondMark => exact ⟨_, exec_quarterSecondMark s⟩
    case minuteBoundary => exact ⟨_, exec_minuteBoundary s⟩
    case zoneEvaluation => exact ⟨_, exec_zoneEvaluation _ s⟩
    case evaluationTimerExpiry => exact ⟨_, exec_evaluationTimerExpiry _ s⟩
    case freezeGuardEdge => exact ⟨_, exec_freezeGuardEdge _ _ s⟩
    case presenceTimerExpiry => exact ⟨_, exec_presenceTimerExpiry _ s⟩
    case runOnExpiry => exact ⟨_, exec_runOnExpiry _ s⟩
    case scanTimerExpiry => exact ⟨_, exec_scanTimerExpiry s⟩
    case fastScanTimerExpiry => exact ⟨_, exec_fastScanTimerExpiry s⟩
    case conversionComplete => exact ⟨_, exec_conversionComplete _ s⟩
    case validAgeSecond => exact ⟨_, exec_validAgeSecond s⟩
    case gasConversion => exact ⟨_, exec_gasConversion _ s⟩
    case holdCheck => exact ⟨_, exec_holdCheck s⟩
    case groupDemandCompute => exact ⟨_, exec_groupDemandCompute _ s⟩
    case frameStart => exact ⟨_, exec_frameStart s⟩
    case arbitrationLost => exact ⟨_, exec_arbitrationLost s⟩
    case doorReport => exact ⟨_, exec_doorReport _ _ _ s⟩
    case hello => exact ⟨_, exec_hello _ _ _ _ _ s⟩
    case statusReport => exact ⟨_, exec_statusReport _ _ _ _ s⟩
    case presenceReport => exact ⟨_, exec_presenceReport _ _ s⟩
    case stationFrameRejected => exact ⟨_, exec_stationFrameRejected _ s⟩
    case answerSent => exact ⟨_, exec_answerSent s⟩
    case queryAnswer => exact ⟨_, exec_queryAnswer _ _ _ s⟩
    case setOutputsAnswer => exact ⟨_, exec_setOutputsAnswer _ _ s⟩
    case noAnswer => exact ⟨_, exec_noAnswer s⟩
    case lineRest => exact ⟨_, exec_lineRest s⟩
    case lineClearReceived => exact ⟨_, exec_lineClearReceived s⟩
    case lineStuck => exact ⟨_, exec_lineStuck s⟩
    case stuckRelease => exact ⟨_, exec_stuckRelease s⟩
    case lineDead => exact ⟨_, exec_lineDead s⟩
    case deadProbe => exact ⟨_, exec_deadProbe _ _ s⟩
    case drivingEdge => exact ⟨_, exec_drivingEdge s⟩
    case silenceTimerExpiry => exact ⟨_, exec_silenceTimerExpiry _ s⟩
    case probeTimerExpiry => exact ⟨_, exec_probeTimerExpiry s⟩
    case doorSecondTick => exact ⟨_, exec_doorSecondTick s⟩
    case phaseHandoffDoorLine => exact ⟨_, exec_phaseHandoffDoorLine _ s⟩
    case allocationPass => exact ⟨_, exec_allocationPass _ s⟩
    case spacingTimerExpiry => exact ⟨_, exec_spacingTimerExpiry s⟩
    case minOnExpiry => exact ⟨_, exec_minOnExpiry _ s⟩
    case minOffExpiry => exact ⟨_, exec_minOffExpiry _ s⟩
    case capExpiry => exact ⟨_, exec_capExpiry s⟩
    case outputRefreshLatch => exact ⟨_, exec_outputRefreshLatch s⟩
    case periodicRefresh => exact ⟨_, exec_periodicRefresh s⟩
    case dimPeriodStart => exact ⟨_, exec_dimPeriodStart _ s⟩
    all_goals exact absurd hc (by simp [inCatalogue, encodeRequest])
  · exact ⟨_, exec_request c s hc⟩

/-! ### Claims of requests and events -/

/-- A request of the catalogue that is taken at once and answered, from its owner's work: the part q it leaves and the verdict
v. -/
theorem Answers.of_serve {i : Instr} {s : State} {v : Verdict} {tag kind : Byte} {after : Part → Prop} {q : Part}
    (hc : inCatalogue i = true) (ht : bodyTag (encodeRequest i) = tag) (hk : bodyKind (encodeRequest i) = kind)
    (r : s.Ready) (hd : v ≠ .deferred) (hq : Part.serve i (s.part.taken tag kind) = (q, v))
    (hout : q.link.outgoing = s.part.link.outgoing) (hord : q.link.waiting ≠ [] → q.link.replies ≠ [])
    (ha : ∀ t : Part, t.aside = q.aside → after t) : Answers i s tag kind v after := by
  subst ht hk
  have hcore :=
    (Part.serve_keeps i (s.part.taken (bodyTag (encodeRequest i)) (bodyKind (encodeRequest i)))).1
  rw [hq] at hcore
  have h := Answers.of_act (exec_request i s hc) r (v := v) (by rw [hq]) hd (by rw [hq]; exact hout)
    (by rw [hq]; exact Link.inHand_of_core hcore) (by rw [hq]; exact hord)
  rw [hq] at h
  obtain ⟨t, h1, h2, h3, h4, h5⟩ := h
  exact ⟨t, h1, h2, h3, h4, ha _ h5⟩

/-- A request of the catalogue that is taken at once and leaves the part p but for the request in hand. -/
theorem AnswersWith.of_serve {i : Instr} {s : State} {v : Verdict} {tag kind : Byte} {p : Part}
    (hc : inCatalogue i = true) (ht : bodyTag (encodeRequest i) = tag) (hk : bodyKind (encodeRequest i) = kind)
    (r : s.Ready) (hd : v ≠ .deferred) (hq : Part.serve i (s.part.taken tag kind) = (p.taken tag kind, v))
    (hl : p.link.transmitter = s.part.link.transmitter ∧ p.link.replies = s.part.link.replies ∧
      p.link.waiting = s.part.link.waiting) : AnswersWith i s tag kind v p := by
  refine Answers.of_serve hc ht hk r hd hq ?_ ?_ fun t h => h
  · simp [Part.taken, Link.outgoing, hl]
  · simpa [Part.taken, hl] using r.inOrder

/-- An event of a running part completes with the part its operation leaves. -/
theorem Ends.of_act {c : Instr} {s : State} {f : Part → Part} {after : Part → Prop} (hc : exec c s = s.act f)
    (hr : s.part.running = true) (h : after (f s.part).close) : Ends c s after :=
  ⟨_, hc.trans (State.act_runs s f hr), rfl, h⟩

/-- An event of a running part becomes the part its operation leaves. -/
theorem Becomes.of_act {c : Instr} {s : State} {f : Part → Part} {p : Part} (hc : exec c s = s.act f)
    (hr : s.part.running = true) (h : f s.part = p) : Becomes c s p := by
  subst h
  exact hc.trans (State.act_runs s f hr)

end Sys2Proof.Machine
end

