-- ==== Sys2Proof/Laws/HandOffs.lean ====
section
/-! SUPPORT. The hand-off of a zone to its three consumers: what it leaves to be taken, and what the zone conditioner takes up
of it at once; and the hand-offs of a door: of its change, and of a curtain demand that ends. -/

namespace Sys2Proof.Machine

/-- Zone z's record after it is set. -/
theorem Part.zone_setZone (s : Part) (z : Nat) (x : Zone) (hz : z < 12) : (s.setZone z x).zone z = x :=
  Tab.get_put_same _ _ _ hz

/-- Another zone's record is as before. -/
theorem Part.zone_setZone_other (s : Part) (z y : Nat) (x : Zone) (h : y ≠ z) : (s.setZone z x).zone y = s.zone y :=
  Tab.get_put_other _ _ _ _ h.symm

/-- What a judgement of zone z's light guard hands to the load budget: the guard, where it changes. -/
def Part.guardHanded (s : Part) (z : Nat) : List Due :=
  if (s.zone z).lightGuard = s.lightGuardOf z then [] else [.budget (.lightGuard z (s.lightGuardOf z))]

/-- The light guard is judged: the zone's record holds it, no other zone's moves, and it is handed where it changes. -/
theorem Part.judgeLightGuard_hands (s : Part) (z : Nat) (hz : z < 12) :
    (s.judgeLightGuard z).zone z = { s.zone z with lightGuard := s.lightGuardOf z } ∧
      (∀ y, y ≠ z → (s.judgeLightGuard z).zone y = s.zone y) ∧ (s.judgeLightGuard z).due = s.due ++ s.guardHanded z := by
  by_cases h : (s.zone z).lightGuard = s.lightGuardOf z
  · simp [Part.judgeLightGuard, Part.guardHanded, h]
    rw [← h]
  · simp only [Part.judgeLightGuard, Part.guardHanded, h, if_false]
    exact ⟨Part.zone_setZone _ _ _ hz, fun y hy => Part.zone_setZone_other _ _ _ _ hy, rfl⟩

/-- Zone z is handed its phase: its I is cleared on the way into IDLE, its light guard is judged, no other zone's record moves,
and its evaluation is left to be taken, after the guard where that changes. -/
theorem Part.takePhase_hands (s : Part) (z : Nat) (before : Phase) (hz : z < 12) :
    (s.takePhase z before).zone z =
        { s.zone z with
          i := if (s.effective z).phase = .idle ∧ before ≠ .idle then 0 else (s.zone z).i
          lightGuard := s.lightGuardOf z } ∧
      (∀ y, y ≠ z → (s.takePhase z before).zone y = s.zone y) ∧
      (s.takePhase z before).due = s.due ++ s.guardHanded z ++ [.evaluate z] := by
  by_cases h : (s.effective z).phase = .idle ∧ before ≠ .idle
  · let cleared := s.setZone z { s.zone z with i := 0 }
    have same : cleared.zone z = { s.zone z with i := 0 } := Part.zone_setZone _ _ _ hz
    have guard : cleared.lightGuardOf z = s.lightGuardOf z := by
      unfold Part.lightGuardOf
      rw [same]
      rfl
    obtain ⟨this, other, due⟩ := Part.judgeLightGuard_hands cleared z hz
    have into : s.takePhase z before = (cleared.judgeLightGuard z).owe (.evaluate z) := by
      simp [Part.takePhase, h, cleared]
    rw [into]
    refine ⟨?_, fun y hy => (other y hy).trans (Part.zone_setZone_other _ _ _ _ hy), ?_⟩
    · change (cleared.judgeLightGuard z).zone z = _
      rw [this, same, guard]
      simp [h]
    · change (cleared.judgeLightGuard z).due ++ [.evaluate z] = _
      rw [due]
      simp [Part.guardHanded, same, guard, cleared]
  · obtain ⟨this, other, due⟩ := Part.judgeLightGuard_hands s z hz
    have stays : s.takePhase z before = (s.judgeLightGuard z).owe (.evaluate z) := by
      have h' : (decide ((s.effective z).phase = .idle) && decide (before ≠ .idle)) = false := by simpa using h
      simp only [Part.takePhase, h', Bool.false_eq_true, if_false]
    rw [stays]
    refine ⟨?_, other, ?_⟩
    · change (s.judgeLightGuard z).zone z = _
      rw [this, if_neg h]
    · change (s.judgeLightGuard z).due ++ [.evaluate z] = _
      rw [due]

/-- What a door change leaves to be taken (R104 step 4). -/
theorem Part.changeDoor_due (s : Part) (a : Nat) (door : DoorState) (docked : Bool) :
    (s.changeDoor a door docked).due = s.due ++
      if (s.station a).door = door ∧ (s.station a).docked = docked then []
      else [.evaluate (s.station a).cfg.zone, .demand (s.zone (s.station a).cfg.zone).cfg.group] := by
  simp only [Part.changeDoor]
  split
  · simp
  · simp only [Part.formOutputs_keeps, Part.owe, Part.postDoor, Part.post_keeps, List.append_assoc]
    split <;> simp [Part.judgeWatch_keeps]

/-- What the end of a curtain demand leaves to be taken: the withdrawal of a request that stands (R109, R143). -/
theorem Part.zeroDemand_due (s : Part) (a : Nat) (ha : 1 ≤ a ∧ a ≤ 48) :
    (s.zeroDemand a).due = s.due ++
      if s.lb.count .curtain a ≠ 0 ∧ s.curtainHanded a = true then [.budget (.curtain a false)] else [] := by
  have set (st : Station) (runOn : Option Nat) : (((s.setStation a st).setRunOn a runOn).station a) = st :=
    Tab.get_put_same _ _ _ (by omega)
  have request (runOn : Option Nat) :
      ((s.setStation a { s.station a with demand := 0 }).setRunOn a runOn).curtainRequest a = false := by
    simp [Part.curtainRequest, set]
  simp only [Part.zeroDemand, Part.setDemand, Part.formOutputs_keeps, Part.handCurtain, request]
  by_cases count : s.lb.count .curtain a = 0
  · simp [count, Part.setRunOn, Part.setStation]
  · cases handed : s.curtainHanded a <;>
      simp_all [Part.setRunOn, Part.setStation, Part.curtainHanded, Part.hand, Part.owe, Part.setCurtainHanded]
end Sys2Proof.Machine
end

