-- ==== Sys2Proof/Laws/Loads.lean ====
section
/-! SUPPORT. What a pass and a LOAD_WRITE can do to the configurations of the load table, and so to the numbers of loads that the
owners have: a pass leaves them, a write changes the one load. -/

namespace Sys2Proof.Machine

/-- A load just changed. -/
theorem Budget.load_setLoad_same (lb : Budget) (i : Nat) (l : Load) (h : i < 128) : (lb.setLoad i l).load i = l :=
  Tab.get_put_same _ _ _ h

/-- Another load is as before. -/
theorem Budget.load_setLoad_other (lb : Budget) (i j : Nat) (l : Load) (h : i ≠ j) : (lb.setLoad i l).load j = lb.load j :=
  Tab.get_put_other _ _ _ _ h

/-- A load put back with another state keeps every configuration. -/
theorem Budget.setLoad_cfg (lb : Budget) (i j : Nat) (l : Load) (h : l.cfg = (lb.load i).cfg) :
    ((lb.setLoad i l).load j).cfg = (lb.load j).cfg := by
  by_cases e : i = j
  · subst e
    by_cases hi : i < 128
    · rw [Budget.load_setLoad_same _ _ _ hi, h]
    · rw [show lb.setLoad i l = lb by simp only [Budget.setLoad, Tab.put_beyond _ _ _ (Nat.not_lt.1 hi)]]
  · rw [Budget.load_setLoad_other _ _ _ _ e]

@[simp] theorem Load.turnOn_cfg (l : Load) : l.turnOn.cfg = l.cfg := rfl

@[simp] theorem Load.move_cfg (l : Load) (isProtected : Bool) (g : Grant) : (l.move isProtected g).cfg = l.cfg := by
  simp only [Load.move, Load.turnOff]
  (repeat' split) <;> rfl

/-- A start event leaves the configurations (R178). -/
@[simp] theorem Budget.startFrom_cfg (queue : List Nat) (lb : Budget) (j : Nat) :
    ((lb.startFrom queue).load j).cfg = (lb.load j).cfg := by
  induction queue generalizing lb with
  | nil => rfl
  | cons i rest ih =>
    have turned := Budget.setLoad_cfg lb i j (lb.load i).turnOn (Load.turnOn_cfg _)
    simp only [Budget.startFrom]
    split
    · exact (ih _).trans turned
    · exact turned

/-- A pass leaves the configurations (R171, R176). -/
@[simp] theorem Budget.allocate_cfg (lb : Budget) (j : Nat) : (lb.allocate.load j).cfg = (lb.load j).cfg := by
  have settled : (lb.settle.1.load j).cfg = (lb.load j).cfg := by
    by_cases h : j < 128
    · simp [Budget.settle, Budget.load, Budget.moved, Tab.get_build _ _ _ h]
    · simp [Budget.load, Tab.get, Vector.getD, h]
  unfold Budget.allocate Budget.startEvent
  split <;> simp [settled]

/-- What follows a pass leaves its loads as the pass moved them (R179, R180). -/
@[simp] theorem Part.withTable_load (s : Part) (lb : Budget) (j : Nat) : (s.withTable lb).lb.load j = lb.allocate.load j := by
  have driven (p : Part) (before : Budget) (queue : List Nat) : (p.driveOutputs before queue).lb.loads = p.lb.loads := by
    simp only [Part.driveOutputs, Budget.refresh]
    rw [Part.forEach_lb _ fun s n => (Part.formOutputs_keeps s n).2.2.2.2.2.1]
    (repeat' split) <;> rfl
  have checked (p : Part) : p.budgetCheck.lb.loads = p.lb.loads := by
    simp only [Part.budgetCheck]
    split <;> simp
  simp only [Part.withTable, Budget.load, checked, driven]

/-- A LOAD_WRITE stores the one configuration, and its pass moves the loads (R164). -/
theorem Part.writeLoad_load (s : Part) (i : Nat) (c : LoadConfig) (j : Nat) :
    (s.writeLoad i c).lb.load j = (s.lb.setLoad i ((s.lb.load i).withConfig c)).allocate.load j := by
  simp [Part.writeLoad]

/-- The number of loads of a kind and owner follows from the configurations alone (R162). -/
theorem Budget.count_congr {a b : Budget} (h : ∀ i, (a.load i).cfg = (b.load i).cfg) (kind : LoadKind) (owner : Nat) :
    a.count kind owner = b.count kind owner := by
  have h' (i : Nat) : (Tab.get a.loads i).cfg = (Tab.get b.loads i).cfg := h i
  simp only [Budget.count, Budget.owned, Tab.where, h']

/-- The counts after a LOAD_WRITE are those of the table with its configuration stored (R164). -/
theorem Part.writeLoad_count (s : Part) (i : Nat) (c : LoadConfig) (kind : LoadKind) (owner : Nat) :
    (s.writeLoad i c).lb.count kind owner = (s.lb.setLoad i ((s.lb.load i).withConfig c)).count kind owner :=
  Budget.count_congr (fun j => by rw [Part.writeLoad_load, Budget.allocate_cfg]) kind owner

/-- A LOAD_WRITE whose checks accept configuration c writes the load and sets unsaved changes (R163, R164, R191). -/
theorem Part.doLoadWrite_accepted {p : Part} {n : Byte} {f : LoadFields} {c : LoadConfig} {cut : Byte}
    (save : p.link.saving = none) (h : loadOperands p.lb n f = .accept c cut) :
    Part.doLoadWrite n f p = ((p.writeLoad n.toNat c).markUnsaved, .done cut []) := by
  simp [Part.doLoadWrite, Part.configWrite, save, Part.outcome, h, unsavedIfDone]

/-- A LOAD_WRITE whose checks accept configuration c is taken at once and leaves the budget of its write (R163, R164). -/
theorem exec_loadWrite_budget {s : State} {n : Byte} {f : LoadFields} {c : LoadConfig} {cut : Byte} (tag : Byte)
    (w : s.Writable) (h : loadOperands s.part.lb n f = .accept c cut) :
    ∃ t, exec (.loadWrite tag n f) s = .next t ∧ t.part.lb = ((s.part.taken tag 0x1A).writeLoad n.toNat c).lb := by
  have still := (Part.writeLoad_keeps (s.part.taken tag 0x1A) n.toNat c).2.2.2.2.1
  have served := Part.doLoadWrite_accepted (p := s.part.taken tag 0x1A) w.noSave h
  generalize (s.part.taken tag 0x1A).writeLoad n.toNat c = q at still served ⊢
  have waiting : q.link.waiting = s.part.link.waiting := congrArg (·.waiting) still
  have replies : q.link.replies = s.part.link.replies := congrArg (·.replies) still
  have budget (x : Part) (same : x.aside = q.markUnsaved.aside) : x.lb = q.lb :=
    show x.aside.lb = q.markUnsaved.aside.lb by rw [same]
  obtain ⟨t, next, -, -, -, lb⟩ := Answers.of_serve (i := .loadWrite tag n f) rfl rfl rfl w.ready (by simp) served
    (Link.outgoing_of_still still : q.link.outgoing = _) (fun some => replies ▸ w.ready.inOrder (waiting ▸ some)) budget
  exact ⟨t, next, lb⟩

end Sys2Proof.Machine
end

