-- ==== Sys2Proof/Laws/Notices.lean ====
section
/-! SUPPORT. The notices on their way out: what one post adds, that the end of an event takes none away, and how what one
piece of an event posts joins what the next one posts. -/

namespace Sys2Proof.Machine

/-- A queue with a place free takes a notice at its end. -/
theorem enqueueNotice_of_room {q : List Notice} (n : Notice) (h : q.length < Config.noticePlaces) :
    enqueueNotice q n = q ++ [n] := by
  simp [enqueueNotice, h]

/-- The transmitter's pick changes no notice that is not yet sent. -/
@[simp] theorem Link.kick_unsent (l : Link) : l.kick.unsent = l.unsent := by
  unfold Link.kick
  split
  · rename_i ht
    split
    · simp [Link.unsent, Transmitter.noticeSent, ht]
    · split
      · rename_i hn
        simp [Link.unsent, Transmitter.noticeSent, ht, hn]
      · rfl
  · rfl

@[simp] theorem Part.close_unsent (s : Part) : s.close.link.unsent = s.link.unsent := Link.kick_unsent _
@[simp] theorem Part.close_mask (s : Part) : s.close.link.mask = s.link.mask := Link.kick_mask _

@[simp] theorem Part.post_transmitter (s : Part) (k : NoticeKind) (n : Nat) (d : List Byte) :
    (s.post k n d).link.transmitter = s.link.transmitter := by unfold Part.post; split <;> rfl
@[simp] theorem Part.post_mask (s : Part) (k : NoticeKind) (n : Nat) (d : List Byte) :
    (s.post k n d).link.mask = s.link.mask := by unfold Part.post; split <;> rfl
@[simp] theorem Part.post_clock (s : Part) (k : NoticeKind) (n : Nat) (d : List Byte) :
    (s.post k n d).clock = s.clock := by unfold Part.post; split <;> rfl

@[simp] theorem admitted_nil (mask : BitVec 14) : admitted mask [] = [] := rfl

@[simp] theorem admitted_append (mask : BitVec 14) (v w : List Posting) :
    admitted mask (v ++ w) = admitted mask v ++ admitted mask w := List.filter_append _ _

/-- A post is the posting of its kind, its subject and its detail. -/
theorem Posts.post (s : Part) (k : NoticeKind) (n : Nat) (d : List Byte) :
    Posts [{ kind := k, subject := n, detail := d }] s (s.post k n d) := by
  intro room
  by_cases h : s.link.mask.getLsbD (k.code - 1) = true
  · have free : s.link.notices.length < Config.noticePlaces := by
      simp [admitted, h] at room
      omega
    simp [Part.post, h, admitted, Link.unsent, Posting.stamped, fourBytes, enqueueNotice_of_room _ free]
  · simp [Part.post, h, admitted]

/-- What leaves the notices on their way out alone posts nothing. -/
theorem Posts.nothing {p q : Part} (h : q.link.unsent = p.link.unsent) : Posts [] p q := fun _ => by simp [h]

/-- The end of the event moves no posting. -/
theorem Posts.closed {w : List Posting} {p q : Part} (h : Posts w p q) : Posts w p q.close := fun room => by
  simpa using h room

/-- What two pieces of an event post, one after the other. -/
theorem Posts.append {v w : List Posting} {p q r : Part} (first : Posts v p q) (second : Posts w q r)
    (mask : q.link.mask = p.link.mask) (clock : q.clock = r.clock)
    (sending : q.link.transmitter = p.link.transmitter) : Posts (v ++ w) p r := by
  intro room
  simp only [admitted_append, List.length_append] at room
  have one := first (by omega)
  have waits : q.link.notices = p.link.notices ++ (admitted p.link.mask v).map (·.stamped q.clock) := by
    simp only [Link.unsent, sending, List.append_assoc] at one
    exact List.append_cancel_left one
  have two := second (by rw [waits, mask]; simp; omega)
  rw [two, one, mask, clock]
  simp

end Sys2Proof.Machine
end

