-- ==== Sys2Proof/Laws/Operands.lean ====
section
/-! SUPPORT. What the clamps of request fields and the shared forms of an owner's answer can do. -/

namespace Sys2Proof.Machine

/-! ### Clamps and cuts -/

/-- A clamp from 0 only cuts from above. -/
theorem clampN_zero (hi v : Nat) : clampN 0 hi v = min hi v := by simp [clampN]

/-- A figure clamped from 0 is cut exactly above its range. -/
theorem outside_zero (hi v : Nat) : outside 0 hi v = decide (hi < v) := by
  unfold outside clampN
  congr 1
  simp only [eq_iff_iff]
  omega

/-- A figure is cut exactly outside its range. -/
theorem outside_eq (lo hi v : Nat) (h : lo ≤ hi) : outside lo hi v = decide (v < lo ∨ hi < v) := by
  unfold outside clampN
  congr 1
  simp only [eq_iff_iff]
  omega

/-- A signed figure is cut exactly outside its range. -/
theorem outsideZ_eq (lo hi v : Int) (h : lo ≤ hi) : outsideZ lo hi v = decide (v < lo ∨ hi < v) := by
  unfold outsideZ clampZ
  congr 1
  simp only [eq_iff_iff]
  omega

/-! ### Checks -/

/-- No failing check accepts. -/
theorem checks_accept {α : Type} (l : List (Bool × Code × Nat)) (v : α) (cut : Byte) (h : ∀ x ∈ l, x.1 = false) :
    checks l v cut = .accept v cut := by
  induction l with
  | nil => rfl
  | cons x l ih => simp [checks, h x (by simp), ih fun y hy => h y (by simp [hy])]

/-- The first failing check refuses. -/
theorem checks_refuse {α : Type} (before after : List (Bool × Code × Nat)) (code : Code) (field : Nat) (v : α) (cut : Byte)
    (h : ∀ x ∈ before, x.1 = false) : checks (before ++ (true, code, field) :: after) v cut = .refuse code field := by
  induction before with
  | nil => rfl
  | cons x l ih => simp [checks, h x (by simp), ih fun y hy => h y (by simp [hy])]

/-! ### Forms of an answer -/

/-- A configuration write that its owner accepts, no save running. -/
theorem Part.configWrite_done {s q : Part} {act : Part → Part × Verdict} {cut : Byte} {data : List Byte}
    (hs : s.link.saving = none) (h : act s = (q, .done cut data)) :
    s.configWrite act = (q.markUnsaved, .done cut data) := by
  simp [Part.configWrite, hs, h, unsavedIfDone]

/-- A configuration write that its owner refuses, no save running. -/
theorem Part.configWrite_refused {s q : Part} {act : Part → Part × Verdict} {code : Code} {field : Nat}
    (hs : s.link.saving = none) (h : act s = (q, .refused code field)) :
    s.configWrite act = (q, .refused code field) := by
  simp [Part.configWrite, hs, h, unsavedIfDone]

/-- Accepted fields are stored. -/
theorem Part.outcome_accept {α : Type} (s : Part) {c : Checked α} {v : α} {cut : Byte} (store : α → Part)
    (data : Part → List Byte) (h : c = .accept v cut) : s.outcome c store data = (store v, .done cut (data (store v))) := by
  subst h; rfl

/-- Refused fields change nothing. -/
theorem Part.outcome_refuse {α : Type} (s : Part) {c : Checked α} {code : Code} {field : Nat} (store : α → Part)
    (data : Part → List Byte) (h : c = .refuse code field) : s.outcome c store data = (s, .refused code field) := by
  subst h; rfl

end Sys2Proof.Machine
end

