-- ==== Sys2Proof/Laws/OutputChain.lean ====
section
/-! SUPPORT. What a refresh of the output chain can do: whatever the boards held, the relays come to rest on the image. -/

namespace Sys2Proof.Machine

/-- The points of an image that a refresh has shifted out after its first n moves. -/
theorem stages_after_points (image : BitVec 64) (b : Boards) (n : Nat) (h : n ≤ 64) :
    let after := ((List.range n).map fun k => ChainMove.point (image.getLsbD (63 - k))).foldl Boards.take b
    after.relays = b.relays ∧
      ∀ j < 64, after.stages.getLsbD j = if j < n then image.getLsbD (64 - n + j) else b.stages.getLsbD (j - n) := by
  induction n with
  | zero => simp
  | succ n ih =>
    obtain ⟨relays, stages⟩ := ih (by omega)
    simp only [List.range_succ, List.map_append, List.map_cons, List.map_nil, List.foldl_append, List.foldl_cons,
      List.foldl_nil, Boards.take]
    refine ⟨relays, fun j hj => ?_⟩
    cases j with
    | zero => cases hb : image.getLsbD (63 - n) <;> simp [hb, show 64 - (n + 1) = 63 - n by omega]
    | succ j =>
      have bit : BitVec.getLsbD (if image.getLsbD (63 - n) = true then 1 else 0 : BitVec 64) (j + 1) = false := by
        split <;> simp [BitVec.getLsbD_one]
      rw [BitVec.getLsbD_or, BitVec.getLsbD_shiftLeft, bit, Nat.add_sub_cancel, stages j (by omega),
        show 64 - (n + 1) + (j + 1) = 64 - n + j by omega, show j + 1 - (n + 1) = j - n by omega]
      simp [hj]

/-- At the latch of a refresh the relays take its image, whatever stood in the boards before. -/
theorem relaysAfter_eq (relays image : BitVec 64) : relaysAfter relays image = image := by
  have stages := (stages_after_points image { stages := relays, relays := relays } 64 (by omega)).2
  have moves : (refreshMoves image).map (·.2) =
      ((List.range 64).map fun k => ChainMove.point (image.getLsbD (63 - k))) ++ [.latch] := by
    simp [refreshMoves, Config.chainPoints, Function.comp_def]
  simp only [relaysAfter, moves, List.foldl_append, List.foldl_cons, List.foldl_nil, Boards.take]
  exact BitVec.eq_of_getLsbD_eq fun j hj => by simpa [hj] using stages j hj

/-- The latch of a refresh: the relays on its image, and the marked second refresh started. -/
theorem Budget.latch_shifting (lb : Budget) (image : BitVec 64) (h : lb.shifting = some image) :
    lb.latch = { lb with
      relays := image, shifting := if lb.marked then some lb.image else none, marked := false } := by
  simp only [Budget.latch, h, relaysAfter_eq]

/-- With no refresh under way there is nothing to latch. -/
theorem Budget.latch_idle (lb : Budget) (h : lb.shifting = none) : lb.latch = lb := by simp only [Budget.latch, h]

end Sys2Proof.Machine
end

