-- ==== Sys2Proof/Tests/Slice0.lean ====
section
/-! SUPPORT. Tests: the manual's worked cases and tables, each on one step or one function, the checks of WellFormed, and a
witness for the hypotheses of every statement that has some. Every expected figure is the manual's; the comment of a test
names where it stands. -/

-- one test after another: many at once take a stack each
set_option Elab.async false

namespace Sys2Proof.Tests

open Sys2Proof Sys2Proof.Machine

/-! ### Small states -/

/-- The state after reset with its part changed. -/
def withPart (f : Part → Part) : State := { State.reset with part := f State.reset.part }

/-- The part after one command. -/
def after (c : Instr) (s : State) : Part :=
  match exec c s with
  | .next t => t.part
  | .fault _ => s.part
  | .refused _ => s.part

/-- The body of the last reply on its way out after one command. -/
def replyTo (c : Instr) (s : State) : List Byte := (after c s).link.outgoing.getLastD []

/-- The details of the notices of a kind that wait after one command. -/
def notices (k : NoticeKind) (p : Part) : List (Nat × List Byte) :=
  (p.link.notices.filter fun n => decide (n.kind = k)).map fun n => (n.subject, n.detail)

/-- A channel record with a value, VALID. -/
def validAt (c : ChanConfig) (v : Int) : Channel :=
  { Channel.atStart c with value := v, known := true, validity := .valid, age := some 0 }

/-- The part with channel c VALID at v. -/
def reading (c : Nat) (v : Int) (p : Part) : Part := p.setChannel c (validAt (p.channel c).cfg v)

/-- The part with a station PRESENT, its door OPEN and docked or not. -/
def openDoor (a : Nat) (docked : Bool) (p : Part) : Part :=
  p.setStation a { p.station a with
    cfg := { (p.station a).cfg with enabled := true }, state := .present, door := .opened, docked := docked
    silence := some 60 }

/-- The part with a load in its table. -/
def loaded (i : Nat) (l : Load) (p : Part) : Part := { p with lb := p.lb.setLoad i l }

/-- A load with a kind, an owner, a stage, a rating, a class and a protection, request-enabled. -/
def load (kind : LoadKind) (owner stage rating rank : Nat) (protection : Protection) (binding : Binding) : Load :=
  Load.atStart
    { LoadConfig.factory with
      kind := kind, owner := if kind = .aux then none else some owner, stage := stage, rating := rating, rank := rank
      protection := protection, binding := binding, enabled := true }

/-! ### Well-formed commands -/

theorem test_frame_with_wrong_length_is_ill_formed : (Instr.linkFrameReceived 3 [1, 2] 0 0).wellFormed = false := by decide +kernel
theorem test_frame_with_wrong_crc_is_ill_formed : (Instr.linkFrameReceived 2 [1, 2] 0 0).wellFormed = false := by decide +kernel
theorem test_known_kind_is_not_unknown : (Instr.requestUnknownKind 0x22 0 []).wellFormed = false := by decide +kernel
theorem test_empty_scan_list_is_ill_formed : (Instr.scanWrite 0 0 [] 2 1).wellFormed = false := by decide +kernel
theorem test_channel_20_holds_no_gas : (Instr.gasConversion 20).wellFormed = false := by decide +kernel
theorem test_group_6_is_ill_formed : (Instr.groupDemandCompute 6).wellFormed = false := by decide +kernel
theorem test_station_0_is_ill_formed : (Instr.doorReport 0 0 []).wellFormed = false := by decide +kernel
theorem test_station_49_is_ill_formed : (Instr.presenceReport 49 0).wellFormed = false := by decide +kernel
theorem test_no_span_is_ill_formed : (Instr.stationFrameRejected (.frame [])).wellFormed = false := by decide +kernel
theorem test_bad_answer_check_is_ill_formed : (Instr.queryAnswer 0 0 0).wellFormed = false := by decide +kernel
theorem test_bad_outputs_check_is_ill_formed : (Instr.setOutputsAnswer 0 0).wellFormed = false := by decide +kernel
theorem test_run_on_of_station_49_is_ill_formed : (Instr.runOnExpiry 49).wellFormed = false := by decide +kernel
theorem test_zone_12_is_ill_formed : (Instr.evaluationTimerExpiry 12).wellFormed = false := by decide +kernel
theorem test_load_128_is_ill_formed : (Instr.minOnExpiry 128).wellFormed = false := by decide +kernel
theorem test_dim_12_is_ill_formed : (Instr.dimPeriodStart 12).wellFormed = false := by decide +kernel

/-! ### Check values and layouts (11) -/

/-- The nine ASCII bytes of the check value table. -/
def nineBytes : List Byte := [0x31, 0x32, 0x33, 0x34, 0x35, 0x36, 0x37, 0x38, 0x39]

theorem test_crc16_check_value : crc16 nineBytes = 0x29B1 := by decide +kernel
theorem test_crc8_check_value : crc8 nineBytes = 0xF7 := by decide +kernel
theorem test_crc8_of_all_off_outputs : crc8 [0x00] = 0xAC := by decide +kernel

/-- A SET_CLOCK of week minute 360, second 5, day count 258, its fields little-endian. -/
theorem test_set_clock_body : decodeRequest [0x02, 9, 0x68, 0x01, 5, 0x02, 0x01] = .request (.setClock 9 360 5 258) := by
  decide +kernel

/-- LOAD_ENABLE's action is 0 for CLEAR and 1 for SET (R201, "0 for off, no, clear … and 1 for on, yes, set"). -/
theorem test_load_enable_actions :
    decodeRequest ([0x1C, 9, 1] ++ List.replicate 15 0 ++ [0]) = .request (.loadEnableClear 9 1) ∧
      decodeRequest ([0x1C, 9, 1] ++ List.replicate 15 0 ++ [1]) = .request (.loadEnableSet 9 1) := by decide +kernel

/-- The notice kinds in use of the notice mask: kind n in bit n − 1. -/
theorem test_startup_is_the_last_notice_kind : NoticeKind.startup.code = 14 := by decide +kernel

/-- Stage 2 with the dock light on is 0xA0, stage 1 with the light on 0x60 (11, "The station bytes"). -/
theorem test_outputs_bytes :
    Outputs.byte { stage := 2, light := true } = 0xA0 ∧ Outputs.byte { stage := 1, light := true } = 0x60 := by decide +kernel

/-- The STATUS data of a new part: UNSET at 0, NO_EDIT, CLEARING, no station, base limit 2000, source DEFAULTS, unsaved. -/
theorem test_status_of_a_new_part :
    State.reset.part.statusData.length = 25 ∧ State.reset.part.statusData.take 9 = [0, 0, 0, 0, 0, 0, 0, 2, 0] ∧
      State.reset.part.statusData.drop 17 = [0, 1, 0, 0, 0, 0, 0, 1] := by decide +kernel

/-! ### Shift clock (01, "Worked case: a warm board", "Worked case: limits") -/

/-- Cv and its clamped flag after a SET_CLOCK with this trim and the board channel VALID at tb, or UNSEEN. -/
def cvAfter (a : Int) (kq t0 : Nat) (tb : Option Int) : Int × Bool :=
  let s := withPart fun p =>
    let q := { p with clock := { p.clock with trimA := a, trimKq := kq, trimT0 := t0 } }
    match tb with
    | none => q
    | some v => reading 20 v q
  ((after (.setClock 1 0 0 0) s).clock.cv, (after (.setClock 1 0 0 0) s).clock.cvClamped)

theorem test_warm_board : cvAfter 40 18 25 (some 413) = (114, false) := by decide +kernel
theorem test_board_never_seen : cvAfter 40 18 25 none = (40, false) := by decide +kernel
theorem test_cold_board : cvAfter (-300) 18 25 (some (-312)) = (588, false) := by decide +kernel
theorem test_cv_is_clamped : cvAfter 500 255 0 (some 600) = (1023, true) := by decide +kernel

/-- With Cv 114, mark 113 adds a tick and mark 114 does not. -/
theorem test_the_last_corrected_mark : correctionFor 113 114 = .add ∧ correctionFor 114 114 = .plain := by decide +kernel

/-! ### Calendar (02, the worked examples) -/

/-- The three-shift week of zone 4. -/
def week : CalCopy :=
  let entry := fun (days : BitVec 7) (start length profile : Nat) =>
    ({ inUse := true, days := days, start := start, length := length, profile := profile, zones := 0x010 } : Shift)
  let profile := fun (lead hold : Nat) => { Profile.factory with lead := lead, hold := hold }
  { CalCopy.factory with
    shifts := Tab.put (Tab.put (Tab.put (Tab.put CalCopy.factory.shifts 0 (entry 0x1F 360 480 1)) 1 (entry 0x1F 840 480 2))
      2 (entry 0x1F 1320 480 3)) 3 (entry 0x20 360 360 1)
    profiles := Tab.put (Tab.put (Tab.put CalCopy.factory.profiles 1 (profile 45 20)) 2 (profile 30 20)) 3 (profile 30 30) }

theorem test_week_warmup_on_monday :
    week.byCalendar 4 315 = { phase := .warmup, profile := some 1, source := .entry 0 } ∧
      (week.byCalendar 4 314).phase = .idle := by decide +kernel
theorem test_week_overlaps_fall_to_active :
    week.byCalendar 4 839 = { phase := .active, profile := some 1, source := .entry 0 } ∧
      week.byCalendar 4 840 = { phase := .active, profile := some 2, source := .entry 1 } := by decide +kernel
theorem test_week_winddown_on_saturday :
    week.byCalendar 4 7920 = { phase := .winddown, profile := some 1, source := .entry 3 } ∧
      (week.byCalendar 4 7940).phase = .idle := by decide +kernel

/-- The limit windows of the example. -/
def windows : CalCopy :=
  let window := fun (inUse : Bool) (days : BitVec 7) (start stop limit : Nat) =>
    ({ inUse := inUse, days := days, start := start, stop := stop, limit := limit } : LimitWindow)
  { CalCopy.factory with
    windows := Tab.put (Tab.put (Tab.put (Tab.put CalCopy.factory.windows 0 (window true 0x1F 420 660 1600)) 1
      (window true 0x7F 960 1140 1400)) 2 (window true 0x01 480 540 1800)) 3 (window false 0x7F 0 1440 500) }

theorem test_limit_windows :
    windows.activeWindow .running 419 = none ∧ windows.activeWindow .running 420 = some (1600, 0) ∧
      windows.activeWindow .running 480 = some (1600, 0) ∧ windows.activeWindow .running 660 = none ∧
      windows.activeWindow .running 8160 = some (1400, 1) ∧ windows.activeWindow .unset 8160 = none := by decide +kernel

/-- Step 4 of the editor session: entry 5 with an empty day mask and window 6 with its end before its start; entry 5 is
reported. Step 6: with entry 5 corrected, window 6 is, as item 56. -/
def failingCopy (days : BitVec 7) : CalCopy :=
  { week with
    shifts := Tab.put week.shifts 5
      { inUse := true, days := days, start := 1320, length := 480, profile := 3, zones := 0x010 }
    windows := Tab.put week.windows 6 { inUse := true, days := 0x1F, start := 900, stop := 840, limit := 1500 } }

theorem test_close_reports_the_first_failing_item :
    (replyTo (.calClose 7) (withPart fun p => { p with cal := { p.cal with editor := .editing (failingCopy 0) } })) =
        [0x81, 7, 0x0A, 7, 5] ∧
      (replyTo (.calClose 7) (withPart fun p => { p with cal := { p.cal with editor := .editing (failingCopy 0x20) } })) =
        [0x81, 7, 0x0A, 7, 56] := by decide +kernel

/-- A running clock at Saturday 13:00 on the three-shift week. -/
def saturday : State :=
  withPart fun p =>
    { p with
      clock := { p.clock with state := .running, weekMinute := 7980, second := 40 }
      cal := Calendar.atStart week { p.clock with state := .running, weekMinute := 7980 } }

theorem test_overtime_override :
    let q := after (.zoneOverridePhaseActive 5 4 1 90) saturday
    (q.calZone 4).effective = { phase := .active, profile := some 1, source := .override } ∧
      q.link.outgoing.getLastD [] = [0x80, 5, 0x0F, 0, 90, 0] ∧ .doorLimit 4 10 true ∈ q.due := by decide +kernel

theorem test_override_ends_at_its_last_boundary :
    let s := { saturday with
      part := saturday.part.setCalZone 4
        { saturday.part.calZone 4 with
          phaseOverride := some { kind := .active 1, minutes := 1 }
          effective := { phase := .active, profile := some 1, source := .override } } }
    ((after .minuteBoundary s).calZone 4).phaseOverride = none ∧
      ((after .minuteBoundary s).calZone 4).effective.phase = .idle ∧
      (notices .overrideEnd (after .minuteBoundary s)).length = 1 := by decide +kernel

/-! ### Measurement (03, "Worked example: a freeze guard through a sensor fault") -/

/-- Channel 3 with a history and a record, its conversion in flight. -/
def freezeAt (history : List Int) (value : Int) (validity : Validity) (badRun goodRun : Nat) (window : WindowState) : State :=
  withPart fun p =>
    let q := p.setChannel 3
      { p.channel 3 with
        history := history, value := value, known := true, validity := validity, badRun := badRun, goodRun := goodRun
        age := some 4, window := window }
    { q with
      mu := { q.mu with
        converter := some { channel := 3, priority := false, cfg := (q.channel 3).cfg, measure := false, discard := false } } }

/-- Conversion 4: raw 1802, an input of 1.1 V of the reference's 2.5 V, takes the value to 41 and the window to ALARM_LOW. -/
theorem test_freeze_conversion_4 :
    let p := after (.conversionComplete 1099854000) (freezeAt [80, 45, 40, 40] 51 .valid 0 3 .clear)
    (p.channel 3).lastRaw = 1802 ∧ (p.channel 3).value = 41 ∧ (p.channel 3).window = .low ∧ (p.channel 3).entered = true ∧
      .freezeEdge 3 true ∈ p.due ∧ (notices .window p).length = 1 := by decide +kernel

/-- Conversion 7: the third bad raw is FAULT, with a SENSOR notice from SUSPECT to FAULT and last raw 0. -/
theorem test_freeze_conversion_7 :
    let p := after (.conversionComplete 0) (freezeAt [45, 40, 40, 40] 41 .suspect 2 0 .low)
    (p.channel 3).validity = .fault ∧ (p.channel 3).value = 41 ∧ (p.channel 3).window = .low ∧
      notices .sensor p = [(3, [2, 3, 0, 0])] := by decide +kernel

/-- Conversion 9: the second good raw makes it VALID at 51, which keeps the alarm. -/
theorem test_freeze_conversion_9 :
    let p := after (.conversionComplete 1159668000) (freezeAt [40, 40, 40, 59] 41 .fault 0 1 .low)
    (p.channel 3).lastRaw = 1900 ∧ (p.channel 3).validity = .valid ∧ (p.channel 3).value = 51 ∧
      (p.channel 3).window = .low := by decide +kernel

/-- "Priority work inside a round": the completion of channel 5 converts channel 13 before the round's next entry. -/
theorem test_priority_before_the_round :
    let s := withPart fun p => { p with mu := { p.mu with
      round := .inRound 6, priority := [{ channel := 13, measure := true }]
      converter := some { channel := 5, priority := false, cfg := (p.channel 5).cfg, measure := false, discard := false } } }
    ((after (.conversionComplete 1000000000) s).mu.converter.map (·.channel)) = some 13 ∧
      (after (.conversionComplete 1000000000) s).mu.round = .inRound 6 := by decide +kernel

/-! ### Zone heating (06, the worked cases) -/

/-- Zone 5 of the door storm: setpoint 150, three heater stages with stage 1 granted, one fan stage granted. -/
def storm (tz : Int) (i s : Nat) (doors : Part → Part) : State :=
  withPart fun p =>
    let heat := fun (k : Nat) (l : Load) => loaded (k - 1) l
    let stage := fun (k : Nat) => load .heat 5 k 300 2 .none .nothing
    let fan := load .fan 2 1 150 1 .none .nothing
    let granted := fun (l : Load) => { l with grant := .on, state := .on }
    let q := heat 1 (granted (stage 1)) (heat 2 (stage 2) (heat 3 (stage 3) (loaded 8 (granted fan) (reading 5 tz (doors p)))))
    let q := q.setZone 5
      { q.zone 5 with cfg := { (q.zone 5).cfg with kd := 15, kv := 8, kp := 40, ki := 32, imax := 8000, hyst := 80 }, i := i, s := s }
    let copy := { q.cal.running with
      profiles := Tab.put q.cal.running.profiles 0 { Profile.factory with setActive := 150 } }
    { q with cal := { q.cal with running := copy } }

/-- Three doors of zone 5 open: two undocked, one docked. -/
def threeDoors (p : Part) : Part := openDoor 21 false (openDoor 22 false (openDoor 23 true p))

/-- Evaluation 1. -/
theorem test_door_storm_evaluation_1 :
    let z := (after (.evaluationTimerExpiry 5) (storm 128 2400 1 threeDoors)).zone 5
    z.quarters = 9 ∧ z.doorTerm = 33 ∧ z.e = 63 ∧ z.p = 315 ∧ z.i = 2463 ∧ z.iterm = 307 ∧ z.d = 622 ∧ z.s = 2 := by
  decide +kernel

/-- Evaluation 2: the integral is held while the budget withholds stage 2. -/
theorem test_door_storm_evaluation_2 :
    let z := (after (.evaluationTimerExpiry 5) (storm 136 2463 2 threeDoors)).zone 5
    z.e = 55 ∧ z.p = 275 ∧ z.i = 2463 ∧ z.d = 582 ∧ z.s = 2 := by decide +kernel

/-- The limits: the negative error's part, the largest parts, the integral's clamp. -/
theorem test_heat_limits :
    proportional 45 (-63) = -354 ∧ proportional 255 500 = 15937 ∧ 255 * 30000 / 256 = 29882 ∧
      integrate 7990 40 0 0 8000 = 8000 ∧ heatDemand (-354) 300 = 0 ∧ gradeHeat 2 3 80 0 = 0 := by decide +kernel

/-- Row 3 of the lost sensor: the guard stands, so D is 1000 and every stage is asked for. -/
theorem test_freeze_guard_asks_every_stage :
    let z := (after (.freezeGuardEdge 5 true) (storm 41 0 1 id)).zone 5
    z.guard = true ∧ z.d = 1000 ∧ z.s = 3 ∧ z.i = 0 := by decide +kernel

/-! ### Lighting and air curtains (07) -/

/-- A cold open undocked door asks for heated air, and one with the outdoor channel above the threshold for air alone. -/
theorem test_a_cold_open_door_asks_for_heat :
    ((after (.zoneEvaluation 5) (withPart fun p => reading 19 (-150) (openDoor 21 false p))).station 21).demand = 2 ∧
      ((after (.zoneEvaluation 5) (withPart fun p => reading 19 120 (openDoor 21 false p))).station 21).demand = 1 := by
  decide +kernel

/-! ### Air quality (08, "Worked example: a gas episode in one group", "The door credit at its edges") -/

/-- The level of gas channel 14 after a conversion to a value, from a level. -/
def gasLevel (start : Nat) (v : Int) : Nat :=
  let s := withPart fun p =>
    let q := reading 14 v p
    q.setGas 14 { q.gasOf 14 with level := start }
  ((after (.gasConversion 14) s).gasOf 14).level

theorem test_gas_episode :
    gasLevel 0 30 = 1 ∧ gasLevel 2 110 = 3 ∧ gasLevel 3 98 = 3 ∧ gasLevel 3 90 = 2 ∧ gasLevel 2 40 = 1 ∧
      gasLevel 1 19 = 0 := by decide +kernel

theorem test_door_credit_at_its_edges :
    creditApplies 1 0 3 3 = true ∧ creditApplies 1 1 3 4 = true ∧ creditApplies 1 1 3 2 = false ∧
      creditApplies 2 2 3 9 = false ∧ creditApplies 0 0 3 9 = false ∧ creditApplies 1 0 0 0 = false := by decide +kernel

/-! ### Load budget (09, "Worked example: a pass, a window and an alarm") -/

/-- A load asking. -/
def asking (request urgency : Nat) (l : Load) : Load := { l with request := request, urgency := urgency }

/-- The budget of the worked example before its pass. -/
def tableBefore : Budget :=
  let p := loaded 0 (asking 1 780 (load .heat 5 1 300 2 .guarded (.point 0)))
    (loaded 1 (asking 1 780 (load .heat 5 2 300 3 .guarded (.point 1)))
    (loaded 2 (asking 1 780 (load .heat 5 3 300 4 .none (.point 2)))
    (loaded 8 (asking 1 333 (load .fan 2 1 150 1 .guarded (.point 8)))
    (loaded 9 (asking 0 333 (load .fan 2 2 150 1 .guarded (.point 9)))
    (loaded 40 (asking 80 800
      { load .light 5 1 200 0 .guarded (.dim 5) with
        cfg := { (load .light 5 1 200 0 .guarded (.dim 5)).cfg with floor := 30 } })
    (loaded 70 (asking 1 1000 (load .curtain 21 1 120 2 .none .door))
    (loaded 100 (asking 1 500 (load .aux 0 1 250 6 .none (.point 20))) State.reset.part)))))))
  { p.lb with base := 1200, spacing := 2, light := Tab.put p.lb.light 5 true }

/-- The part with a budget, nothing due. -/
def withBudget (lb : Budget) : State := withPart fun p => { p with lb := lb, due := [] }

/-- The pass at t = 0: the grants, the total, load 8 turned ON at once and the others queued, and the BUDGET notice. -/
theorem test_the_pass_at_0 :
    let q := after (.allocationPass 0) (withBudget tableBefore)
    q.lb.floor = 960 ∧ q.lb.el = 1200 ∧ q.lb.grantedSum = 1030 ∧ (q.lb.load 40).grant = .level 80 ∧
      (q.lb.load 8).state = .on ∧ q.lb.queue = [70, 0, 1] ∧ (q.lb.load 2).grant = .none ∧ (q.lb.load 100).grant = .none ∧
      notices .budget q = [(2, [0x26, 0x02, 0xB0, 0x04])] := by decide +kernel

/-- The budget at t = 30 s: every granted load ON with its min-on running. -/
def tableOn : Budget :=
  let lb := (after (.allocationPass 0) (withBudget tableBefore)).lb
  [8, 70, 0, 1].foldl (fun b i => b.setLoad i { b.load i with state := .on, minOn := some 30 })
    { lb with queue := [], spacingTimer := none }

/-- The window of 900: EL is the floor 960, the held loads stay, and the light dims to 45 %. -/
theorem test_the_window_of_900 :
    let s := { withBudget tableOn with part := (withBudget tableOn).part.hand (.window (some 900)) }
    let q := after (.allocationPass 0) s
    q.lb.el = 960 ∧ q.lb.grantedSum = 960 ∧ (q.lb.load 40).grant = .level 45 ∧ (q.lb.load 0).grant = .on ∧
      (q.lb.load 1).grant = .on ∧ notices .budget q = [] := by decide +kernel

/-- A limit handed at a start runs a pass where it changes the limit held, though the effective limit stays 1200 (R184); one
handed later does not. -/
theorem test_a_limit_handed_at_a_start :
    let handed := fun (c : Change) => after (.allocationPass 0)
      { withBudget tableBefore with part := (withBudget tableBefore).part.hand c }
    (handed (.startWindow (some 1200))).lb.grantedSum = 1030 ∧ (handed (.startWindow none)).lb.grantedSum = 0 ∧
      (handed (.window (some 1200))).lb.grantedSum = 0 := by decide +kernel

/-- The start queue: the head goes ON at the spacing timer's expiry. -/
theorem test_the_spacing_timer_starts_the_head :
    let q := after .spacingTimerExpiry
      (withBudget { (after (.allocationPass 0) (withBudget tableBefore)).lb with spacingTimer := some 0 })
    (q.lb.load 70).state = .on ∧ q.lb.queue = [0, 1] ∧ q.lb.spacingTimer = some 2 := by decide +kernel

/-- With a spacing of 0 the stations of two CURTAIN loads are told in the order of the start queue, not of the loads (R178,
R182). -/
theorem test_curtains_are_told_in_queue_order :
    let curtain := fun (i a : Nat) (p : Part) =>
      let q := openDoor a false p
      let door := { q.station a with demand := 2, commanded := { stage := 1, light := true } }
      loaded i { load .curtain a 1 100 0 .none .door with request := 1, grant := .on, state := .starting }
        { q with dl := q.dl.setStation a door }
    let s := withPart fun p =>
      let q := curtain 3 1 (curtain 5 2 p)
      { q with lb := { q.lb with queue := [5, 3], spacing := 0, spacingTimer := some 0 } }
    (after .spacingTimerExpiry s).dl.queue.map (·.address) = [2, 1] := by decide +kernel

/-- A limit handed while an older one waits is the one that stands (R40). -/
theorem test_the_newest_limit_stands :
    let s := withPart fun p => { p with
      due := [.budget (.window (some 900))], cal := { p.cal with handedLimit := some 900, running := windows } }
    let q := after (.setClock 3 420 0 0) s
    q.lb.window = some 1600 ∧ q.cal.handedLimit = some 1600 ∧ q.due.contains (.budget (.window (some 900))) = false := by
  decide +kernel

/-- A presence that ends before zone 5's first evaluation sets Lr and hands no light request, and the evaluation does (R146). -/
theorem test_no_light_request_before_the_first_evaluation :
    let s := withPart fun p =>
      let q := p.setZone 5 { p.zone 5 with presence := some 0 }
      { loaded 40 (load .light 5 1 200 0 .guarded (.dim 5)) q with due := [] }
    let lights := fun (q : Part) => q.due.filter fun d => Due.changes (.light 5 { level := 0, urgency := 0 }) d
    let q := after (.presenceTimerExpiry 5) s
    lights q = [] ∧ (q.zone 5).lr ≠ 0 ∧ (lights (after (.evaluationTimerExpiry 5) s)).length = 1 := by decide +kernel

/-! ### Door line (04, 05) -/

/-- A station in service on a resting line. -/
def served (a : Nat) : State := withPart fun p => { openDoor a false p with dl := { (openDoor a false p).dl with line := .ready } }

/-- The probe cycle asks the ABSENT stations 1 and 48, and not 2, which has an entry (R85, R97). -/
theorem test_a_probe_cycle :
    let absent := fun (a : Nat) (p : Part) => p.setStation a { (openDoor a false p).station a with state := .absent }
    let s := withPart fun p =>
      let q := absent 1 (absent 2 (absent 48 p))
      { q with dl := { q.dl with queue := [{ address := 2, kind := .query, inFlight := false, orphan := false }] } }
    (after .probeTimerExpiry s).dl.queue.map (·.address) = [2, 1, 48] := by decide +kernel

/-- A door report of CLOSED is answered with its outputs byte and the check of that byte: all off is 00 AC. -/
theorem test_a_door_report_is_answered :
    let q := after (.doorReport 21 0x00 []) (served 21)
    (q.station 21).door = .closed ∧ q.dl.answering.map (·.bytes) = some [0x00, 0xAC] ∧ q.dl.line = .busy := by decide +kernel

/-- The symbols of the byte 10101100 from a released line (R64): bits 1 and 0 by turns short, its sixth bit, driven, and its
seventh, released, long. -/
theorem test_symbols_of_a_byte : sendBytes [0xAC] = [40, 40, 40, 40, 40, 80, 80, 40] := by decide +kernel

/-- An answer mark of 101 µs is none (R65). -/
theorem test_an_answer_mark_that_is_too_long :
    readAnswer (160 :: 101 :: sendBytes [0, 0xAC]) = [.answer { bytes := [], loose := 0, ending := .symbol }] ∧
      readAnswer (160 :: 100 :: sendBytes [0, 0xAC]) = [.answer { bytes := [0, 0xAC], loose := 0, ending := .rested }] := by
  decide +kernel

/-- A driven span of 400 µs is a line clear, and one of 2500 µs a stuck line, also after a lead pulse or a span that fits no
window, and a rest makes the next driven span a lead pulse (R65). -/
theorem test_a_line_clear_at_any_place :
    let failed : LineEvent := .frame { bytes := [], loose := 0, ending := .symbol }
    readFrame [160, 57, 400] = [failed, .clear] ∧ readFrame [210, 50, 400] = [failed, .clear] ∧
      readFrame [160, 57, 2500] = [failed, .stuck] ∧ readFrame [160, 40, 300] = [.clear] ∧
      readFrame [210, 220, 160] = [failed, .rest, failed] ∧ readAnswer [100, 50, 50, 2000] =
        [.answer { bytes := [], loose := 0, ending := .symbol }, .clear] := by decide +kernel

/-- A stuck line that is released and rests is a line clear received, and the line is READY (R77, R82): told by the spans of a
frame, and by the row of a rest. -/
theorem test_a_rest_ends_a_stuck_line :
    let ended := fun (q : Part) => q.dl.line = .ready ∧ (q.station 21).state = .absent ∧ (q.station 21).door = .unknown
    let s := served 21
    ended (after (.stationFrameRejected (.frame [160, 57, 2500, 300])) s) ∧
      ended (after .lineRest { s with part := after .lineStuck s }) := by decide +kernel

/-- Row 7 of the worked example of 05: the watch of a door reaches 600 s at a limit of 10, and its notice carries zone, limit
and minutes. -/
theorem test_a_door_open_long :
    let s := withPart fun p =>
      let q := openDoor 21 false p
      let q := q.setStation 21 { q.station 21 with watch := some 599 }
      { q with dl := { q.dl with limits := Tab.put q.dl.limits (q.station 21).cfg.zone 10 } }
    notices .doorOpenLong (after .doorSecondTick s) =
      [(21, [BitVec.ofNat 8 (s.part.station 21).cfg.zone, 10, 10, 0])] := by decide +kernel

/-- The evaluation of a cold door that opens, taken before the answer alone, sets stage 1 in it, since no heat is granted yet
(07, rows 2 to 4 of the worked example); taken after it, the answer still says stage 0. -/
theorem test_an_evaluation_before_the_answer :
    let s := withPart fun p =>
      let q := reading 19 (-150) (openDoor 21 false p)
      let q := q.setStation 21 { q.station 21 with door := .closed }
      { loaded 70 (load .curtain 21 1 120 2 .none .door) q with dl := { q.dl with line := .ready } }
    ((after (.doorReport 21 0x80 [.evaluation 5]) s).dl.answering.map (·.bytes.head?)) = some (some 0x60) ∧
      ((after (.doorReport 21 0x80 []) s).dl.answering.map (·.bytes.head?)) = some (some 0x20) := by decide +kernel

/-- A header whose priority bits are not its kind's ends LENGTH_ERROR (R203). -/
theorem test_a_wrong_priority_is_a_length_error :
    let body : List Byte := [0xA1, 21, 0x80]
    ((after (.stationFrameRejected (.frame (sendFrame (body ++ [crc8 body])))) (served 21)).station 21).lastResult =
      some .lengthError := by decide +kernel

/-- QUERY has header 0x64 (11, "The door-line frame"). -/
theorem test_a_query_frame :
    let s := served 21
    let s := { s with part := { s.part with dl := { s.part.dl with
      queue := [{ address := 21, kind := .query, inFlight := false, orphan := false }] } } }
    (after .frameStart s).dl.sending = some [0x64, 21, crc8 [0x64, 21]] := by decide +kernel

/-! ### Link port (10) -/

/-- "A burst of requests during a save": a configuration write is BUSY, and a read is taken. -/
theorem test_a_save_keeps_writes_out :
    let s := withPart fun p => { p with link := { p.link with saving := some p.working } }
    replyTo (.groupWriteHold 3 100) s = [0x81, 3, 0x15, 6, 0] ∧ (replyTo (.askClock 4) s).take 3 = [0x80, 4, 0x03] := by
  decide +kernel

/-- A power failure during a save: the next start loads the factory configuration. -/
theorem test_a_broken_save_starts_from_the_factory :
    let s := withPart fun p => { p with air := { p.air with hold := 7 }, link := { p.link with saving := some p.working } }
    let t := { s with part := after .resetAsserted s }
    (after .resetAsserted s).ledRun = false ∧ (after (.powerOn 0 true) t).air.hold = 120 := by decide +kernel

/-! ### Witnesses

For every statement with hypotheses, a state and operands that meet them, one for each of its clauses, at the ends of the
ranges the clauses name. -/

/-- A state is Ready when these four figures say so. -/
theorem ready_of (s : State)
    (h : s.part.running = true ∧ s.part.link.inHand = none ∧ s.part.link.holding = [] ∧ s.part.link.waiting = []) : s.Ready :=
  ⟨h.1, h.2.1, h.2.2.1, fun w => absurd h.2.2.2 w⟩

/-- A Ready state with no save is Writable. -/
theorem writable_of (s : State)
    (h : s.part.running = true ∧ s.part.link.inHand = none ∧ s.part.link.holding = [] ∧ s.part.link.waiting = [])
    (hs : s.part.link.saving = none) : s.Writable :=
  ⟨ready_of s h, hs⟩

/-- The state after reset takes requests and configuration writes at once. -/
theorem witness_reset_is_ready : State.reset.Ready ∧ State.reset.Writable :=
  ⟨ready_of _ (by decide +kernel), writable_of _ (by decide +kernel) (by decide +kernel)⟩

/-- The state after reset with its link port changed. -/
def withLink (f : Link → Link) : State := withPart fun p => { p with link := f p.link }

/-- The state after reset with its editor set. -/
def withEditor (e : Editor) : State := withPart fun p => { p with cal := { p.cal with editor := e } }

/-- A reply of the request in hand. -/
def handReply : Reply := { tag := 1, kind := 3, body := [0x80, 1, 3, 0], ofHand := true }

/-- Two QUERYs wait for a resting line, or the first of them is in flight. -/
def waiting (line : LineState) (flies : Bool) : State :=
  withPart fun p =>
    let q := openDoor 1 false (openDoor 48 false p)
    { q with dl := { q.dl with
      line := line, sending := if flies then some [0x64, 1, crc8 [0x64, 1]] else none
      queue := [{ address := 1, kind := .query, inFlight := flies, orphan := false },
        { address := 48, kind := .setOutputs, inFlight := false, orphan := false }] } }

/-- What Posts asks, for the statements that say it: a mask that admits a posting and one that does not, a queue with its last
place free for one that is admitted, and one that is full for none; and the same for PostsAround with a pass between. -/
theorem witness_Posts :
    let line := lineTold .stuck .ready 0
    let p := fun (mask : BitVec 14) (waiting : Nat) =>
      (withLink fun l => { l with mask := mask, notices := List.replicate waiting default }).part
    admitted (p 0x0800 31).link.mask line = line ∧ admitted (p 0x0400 32).link.mask line = [] ∧
      ((p 0x0800 31).link.notices.length + (admitted (p 0x0800 31).link.mask line).length ≤ Config.noticePlaces) ∧
      ((p 0x0400 32).link.notices.length + (admitted (p 0x0400 32).link.mask line).length ≤ Config.noticePlaces) ∧
      (p 0x0800 30).link.notices.length + (admitted (p 0x0800 30).link.mask line).length + 1 + 0 ≤ Config.noticePlaces := by
  decide +kernel

/-- Zones that are handed and zones that are not (R34): one that an override changes, one that it does not, and one that a
commit hands unchanged. -/
theorem witness_PhasesTakenUp :
    let q := after (.zoneOverridePhaseActive 5 4 1 90) saturday
    ZoneHanded saturday.part q false 4 ∧ ¬ ZoneHanded saturday.part q false 11 ∧ ZoneHanded saturday.part q true 11 := by
  unfold ZoneHanded
  decide +kernel

theorem witness_AnEmptyQueueLetsASecondPass :
    (State.reset.pending = [] ∧ State.reset.part.running = true) ∧
      (withPart Part.heldInReset).pending = [] ∧ (withPart Part.heldInReset).part.running = false := by decide +kernel

theorem witness_RecordReadsAnswerAndChangeNothing :
    State.reset.Ready ∧ (withEditor (.editing week)).Ready ∧
      (withEditor (.editing week)).part.cal.editor.copy? = some week ∧ (withEditor (.pending week)).Ready ∧
      (withEditor (.pending week)).part.cal.editor.copy? = some week :=
  ⟨ready_of _ (by decide +kernel), ready_of _ (by decide +kernel), by decide +kernel, ready_of _ (by decide +kernel),
    by decide +kernel⟩

/-- No edit copy, and one; the ends of the ranges of the numbers, the selectors, the items, the forms and the actions; the
longest bodies of a wrong length, and those of the length that the last field's check needs. -/
theorem witness_UnknownKindsAndRecordsAreRefused :
    State.reset.Ready ∧ (withEditor (.editing week)).Ready ∧ State.reset.part.cal.editor = .noEdit ∧
      State.reset.part.link.receiver = .hunt ∧ (41 < (42 : Byte).toNat ∧ (41 : Byte).toNat ≤ 41) ∧
      (7 < (8 : Byte).toNat ∧ (7 : Byte).toNat ≤ 7) ∧ (1 < (2 : Byte).toNat ∧ (1 : Byte).toNat ≤ 1) ∧ 5 < (6 : Byte).toNat ∧
      (((0x22 : Byte), 0) ∈ fieldLengths ∧ ([1] : List Byte).length ≠ 0) ∧ (List.replicate 248 (0 : Byte)).length ≤ 248 ∧
      (((0x17 : Byte), (2 : Byte), 2) ∈ formLengths ∧ (List.replicate 247 (0 : Byte)).length ≤ 247) ∧
      (2 < (3 : Byte).toNat ∧ 4 < (5 : Byte).toNat ∧ 32 < (33 : Byte).toNat ∧
        ([2, 1] : List Byte).length ≠ (1 : Byte).toNat + 2) ∧
      ((List.replicate 3 (0 : Byte)).length = 3 ∧ (List.replicate 6 (0 : Byte)).length = 6 ∧
        (List.replicate 16 (0 : Byte)).length = 16) :=
  ⟨ready_of _ (by decide +kernel), ready_of _ (by decide +kernel), by decide +kernel⟩

/-- A request with fields of each width. -/
def aWrite : Instr := .loadWrite 7 127
  { kind := 1, owner := 11, stage := 3, rating := 5000, rank := 7, protection := 2, floor := 100, minOn := 1800
    minOff := 1800, bindForm := 0, bindNumber := 63, enable := 1 }

theorem witness_DecodeOfAnEncodedRequest : inCatalogue aWrite = true ∧ aWrite.wellFormed = true := by decide +kernel

theorem witness_AFrameOfARequestIsTheRequest :
    aWrite.wellFormed = true ∧ encodeRequest aWrite ≠ [] ∧ State.reset.Ready ∧ State.reset.part.link.receiver = .hunt :=
  ⟨by decide +kernel, by decide +kernel, ready_of _ (by decide +kernel), by decide +kernel⟩

/-- Bodies of the least and of the greatest length; a CRC that is the body's and one that is not. -/
theorem witness_AFrameIsTakenByItsCrc :
    (State.reset.part.running = true ∧ State.reset.part.link.receiver = .hunt) ∧
      (2 ≤ [(1 : Byte), 9].length ∧ (List.replicate 250 (0 : Byte)).length ≤ 250) ∧
      crc16 [2, 1, 9] = (crc16 [2, 1, 9]).extractLsb' 8 8 ++ (crc16 [2, 1, 9]).extractLsb' 0 8 ∧
      crc16 [2, 1, 9] ≠ (0x00 : Byte) ++ (0x00 : Byte) :=
  ⟨by decide +kernel, ⟨by decide, Nat.le_of_eq List.length_replicate⟩, by decide +kernel, by decide +kernel⟩

theorem witness_TheReceiverBuildsFramesByteByByte :
    let inState := fun (r : Receiver) => withLink fun l => { l with receiver := r }
    (inState .hunt).part.running = true ∧ (inState .hunt).part.link.receiver = .hunt ∧
      (inState .length).part.link.receiver = .length ∧
      (inState (.body 3 2 [1])).part.link.receiver = .body 3 (0 + 2) [1] ∧
      (inState (.body 3 1 [1, 9])).part.link.receiver = .body 3 1 [1, 9] ∧
      (inState (.check 3 [1, 9, 0] none)).part.link.receiver = .check 3 [1, 9, 0] none ∧
      (inState (.check 2 [1, 9] (some ((crc16 [2, 1, 9]).extractLsb' 8 8)))).part.link.receiver =
        .check 2 [1, 9] (some ((crc16 [2, 1, 9]).extractLsb' 8 8)) ∧
      crc16 [2, 1, 9] = (crc16 [2, 1, 9]).extractLsb' 8 8 ++ (crc16 [2, 1, 9]).extractLsb' 0 8 ∧
      crc16 [2, 1, 9] ≠ (crc16 [2, 1, 9]).extractLsb' 8 8 ++ (0x00 : Byte) := by decide +kernel

theorem witness_ARequestWaitsWhileOneIsInHand :
    let busy := fun (held replies : Nat) => withLink fun l => { l with
      inHand := some (1, 3), holding := List.replicate held [0x03, 2], replies := List.replicate replies handReply }
    encodeRequest (.askClock 5) ≠ [] ∧ (busy 3 0).part.link.inHand.isSome = true ∧ (busy 3 0).part.link.holding.length < 4 ∧
      4 ≤ (busy 4 7).part.link.holding.length ∧ (busy 4 7).part.link.replies.length < 8 ∧
      8 ≤ (busy 4 8).part.link.replies.length := by decide +kernel

theorem witness_AFrameSentReleasesTheRequest :
    let s := withLink fun l => { l with transmitter := .reply handReply, inHand := some (1, 3) }
    s.part.running = true ∧ s.part.link.holding = [] ∧ s.part.link.transmitter = .reply handReply ∧
      s.part.link.transmitter.isRestart = false := by decide +kernel

/-- A write held alone and with three requests behind it, which stays in hand when it is taken; an ASK_STATUS held so. -/
theorem witness_AHeldRequestIsTakenWhenTheHandIsFree :
    let s := fun (held : List Instr) => withLink fun l => { l with
      transmitter := .reply handReply, inHand := some (1, 3), holding := held.map encodeRequest }
    let free := withLink fun l => { l with transmitter := .idle, inHand := none, holding := [] }
    let three : List Instr := [.askClock 5, .askStatus 6, aWrite]
    (∀ tag, aWrite ≠ .askStatus tag) ∧ inCatalogue aWrite = true ∧ aWrite.wellFormed = true ∧
      inCatalogue (.askStatus 7) = true ∧ (Instr.askStatus 7).wellFormed = true ∧
      (s [aWrite]).part.running = true ∧ (s [aWrite]).part.link.transmitter = .reply handReply ∧ handReply.ofHand = true ∧
      (s [aWrite]).part.link.transmitter.isRestart = false ∧ (s [aWrite]).part.link.holding = [encodeRequest aWrite] ∧
      (s (aWrite :: three)).part.link.holding = encodeRequest aWrite :: three.map encodeRequest ∧
      (after aWrite free).link.inHand.isSome = true ∧ (s (.askStatus 7 :: three)).part.link.waiting = [] :=
  ⟨nofun, by decide +kernel⟩

/-- A queue with one place left, a full queue, and a mask that admits AIR alone. -/
theorem witness_APostedNoticeIsStampedAndQueued :
    let n : Notice := default
    let p := fun (k : Nat) => (withLink fun l => { l with mask := 0x0080, notices := List.replicate k n }).part
    (p 31).link.mask.getLsbD (NoticeKind.air.code - 1) = true ∧ (p 31).link.notices.length < 32 ∧
      (p 32).link.notices = n :: n :: List.replicate 30 n ∧ (p 31).link.mask.getLsbD (NoticeKind.door.code - 1) = false := by
  decide +kernel

theorem witness_ASaveWritesTheSnapshot :
    let s := withLink fun l => { l with saving := some WorkingConfig.factory, deferredSave := some 9 }
    s.part.running = true ∧ s.part.link.saving = some WorkingConfig.factory ∧ s.part.link.deferredSave = some 9 := by
  decide +kernel

/-- A save in progress. -/
def saving : State := withLink fun l => { l with saving := some WorkingConfig.factory }

theorem saving_is_busy : saving.Ready ∧ saving.part.link.saving.isSome = true :=
  ⟨ready_of _ (by decide +kernel), by decide +kernel⟩

/-- Scan lists of the least and of the greatest length. -/
theorem witness_ConfigurationWritesAreBusyWhileSaving :
    (saving.Ready ∧ saving.part.link.saving.isSome = true) ∧ 1 ≤ [(20 : Byte)].length ∧
      (List.replicate 32 (20 : Byte)).length ≤ 32 :=
  ⟨saving_is_busy, by decide, by decide⟩

theorem witness_TheNoticeMaskIsReplacedAndAnswered :
    let kept := withLink fun l => { l with store := some WorkingConfig.factory }
    State.reset.Writable ∧ (saving.Ready ∧ saving.part.link.saving.isSome = true) ∧
      (withLink fun l => { l with mask := 0x0080 }).part.link.mask.getLsbD (NoticeKind.door.code - 1) = false ∧
      State.reset.part.link.mask.getLsbD (NoticeKind.startup.code - 1) = true ∧
      (kept.part.link.store = some WorkingConfig.factory ∧ kept.part.link.saving = none) :=
  ⟨witness_reset_is_ready.2, saving_is_busy, by decide +kernel⟩

theorem witness_ResetHoldsThePart :
    saving.part.link.saving ≠ none ∧ (withPart Part.heldInReset).part.running = false ∧
      Instr.askClock 1 ≠ .resetAsserted := by decide +kernel

theorem witness_RestartKeepsTheConfigurationAndTheClock :
    let s := withLink fun l => { l with transmitter := .reply ((Verdict.done 0 []).reply 4 0x22 true) }
    State.reset.Writable ∧ s.part.running = true ∧ s.part.link.transmitter.isRestart = true ∧
      s.part.link.mask.getLsbD 13 = true ∧ (waiting .stuck false).part.dl.line = .stuck :=
  ⟨witness_reset_is_ready.2, by decide +kernel⟩

/-- Each clause of the store's law is met by a step. -/
theorem witness_TheStoreChangesOnlyBySaveAndReset :
    (∃ t, step { saving with pending := [.saveComplete] } = .next t ∧ t.part.link.store = some WorkingConfig.factory) ∧
      (∃ t, step { saving with pending := [.resetAsserted] } = .next t ∧ t.part.link.store = none) ∧
      (∃ t, step { saving with pending := [.powerOn 0 true] } = .next t ∧ t.part.link.store = none) :=
  ⟨⟨_, rfl, by decide +kernel⟩, ⟨_, rfl, by decide +kernel⟩, ⟨_, rfl, by decide +kernel⟩⟩

/-- A RUNNING clock in its ranges, at the last tick of the week, with a correction by mark 5 of Cv −6. -/
def lastTick : State :=
  withPart fun p => { p with clock := { p.clock with
    state := .running, weekMinute := 10079, second := 59, tick := 32767, dayCount := 65535, mark := 5, cv := -6
    correction := .withhold } }

theorem lastTick_in_range : lastTick.part.clock.InRange := by constructor <;> decide +kernel

theorem witness_TheClockStaysInRangeAndRunning :
    (∃ t, step { lastTick with pending := [.minuteBoundary] } = .next t) ∧ lastTick.part.clock.InRange ∧
      lastTick.part.clock.state = .running :=
  ⟨⟨_, rfl⟩, lastTick_in_range, rfl⟩

/-- A power-on whose calendar is the store's, and one of a blank store. -/
theorem witness_PowerOnStartsFromTheStore :
    let image := { WorkingConfig.factory with calendar := week }
    let s := withLink fun l => { l with store := some image }
    (after (.powerOn 0 true) s).cal.running = week ∧ (after (.powerOn 0 false) s).cal.running ≠ week ∧
      -1023 ≤ (after (.powerOn 0 true) s).clock.trimA ∧ (after (.powerOn 0 true) s).clock.trimA ≤ 1023 := by decide +kernel

/-- A commit: the second clause of the calendar's law. -/
theorem witness_TheRunningCalendarChangesOnlyByCommit :
    ∃ t, step { withEditor (.pending week) with pending := [.minuteBoundary] } = .next t ∧
      t.part.cal.running = week ∧ week ≠ State.reset.part.cal.running :=
  ⟨_, rfl, by decide +kernel, by decide +kernel⟩

/-- The budget after the worked example's pass, with grants, a start queue and a chain. -/
def tableAfter : Budget := (after (.allocationPass 0) (withBudget tableBefore)).lb

theorem tableAfter_keeps_its_laws :
    tableAfter.DemandLaw ∧ tableAfter.ChainLaw ∧ tableAfter.StatesLaw ∧ tableAfter.QueueLaw ∧ tableAfter.RefusedLaw := by
  have queue : tableAfter.queue = [70, 0, 1] := by decide +kernel
  have starting : (List.range 128).filter (fun i => decide ((tableAfter.load i).state = .starting)) = [0, 1, 70] := by
    decide +kernel
  have chain : (List.range 128).all (fun i => decide (((tableAfter.load i).grant.held = true ∧
      (tableAfter.load i).cfg.isChain = true ∧ 1 < (tableAfter.load i).cfg.stage) →
      (List.range 128).any (fun j => decide ((tableAfter.load j).grant.held = true ∧
        (tableAfter.load j).cfg.kind = (tableAfter.load i).cfg.kind ∧
        (tableAfter.load j).cfg.owner = (tableAfter.load i).cfg.owner ∧
        (tableAfter.load j).cfg.stage + 1 = (tableAfter.load i).cfg.stage)) = true)) = true := by decide +kernel
  refine ⟨by unfold Budget.DemandLaw; decide +kernel, fun i hi held isChain stage => ?_,
    by constructor <;> decide +kernel, ⟨by rw [queue]; decide, fun i => ?_,
    fun _ => by decide +kernel⟩, by unfold Budget.RefusedLaw; decide +kernel⟩
  · have h := of_decide_eq_true (List.all_eq_true.1 chain i (List.mem_range.2 hi)) ⟨held, isChain, stage⟩
    obtain ⟨j, hj, hp⟩ := List.any_eq_true.1 h
    exact ⟨j, List.mem_range.1 hj, of_decide_eq_true hp⟩
  have h : i ∈ (List.range 128).filter (fun i => decide ((tableAfter.load i).state = .starting)) ↔
      i < 128 ∧ (tableAfter.load i).state = .starting := by simp
  rw [← h, starting, queue]
  simp only [List.mem_cons, List.not_mem_nil, or_false]
  omega

theorem witness_EveryStepKeepsTheBudgetLaws :
    (∃ t, step { withBudget tableAfter with pending := [.spacingTimerExpiry] } = .next t) ∧
      tableAfter.DemandLaw ∧ tableAfter.ChainLaw ∧ tableAfter.StatesLaw ∧ tableAfter.QueueLaw ∧ tableAfter.RefusedLaw :=
  ⟨⟨_, rfl⟩, tableAfter_keeps_its_laws⟩

/-- A part with places in use: replies waiting behind a full reply list. -/
def crowded : State := withLink fun l => { l with
  inHand := some (1, 3), holding := List.replicate 4 [0x03, 2], replies := List.replicate 8 handReply, waiting := [handReply] }

theorem witness_EveryStepKeepsThePlaces :
    (∃ t, step { crowded with pending := [.linkFrameSent] } = .next t) ∧ crowded.part.PlacesLaw ∧ tableAfter.QueueLaw := by
  refine ⟨⟨_, rfl⟩, ?_, tableAfter_keeps_its_laws.2.2.2.1⟩
  constructor
  case receiver => exact trivial
  case active => unfold ScanListLaw; decide +kernel
  case staged | saving | stored => intro _ h; cases h
  all_goals decide +kernel

theorem witness_EveryStepKeepsTheFlightLaw :
    (∃ t, step { waiting .busy true with pending := [.noAnswer] } = .next t) ∧ (waiting .busy true).part.dl.FlightLaw :=
  ⟨⟨_, rfl⟩, by constructor <;> decide +kernel⟩

theorem witness_SetClockSetsTheTimeAndStartsAPeriod :
    State.reset.Ready ∧ ((10079 : Half).toNat, (10080 : Half).toNat, (59 : Byte).toNat, (60 : Byte).toNat) =
      (10079, 10080, 59, 60) ∧
      (withPart (reading 20 250)).part.boardChannel.validity = .valid ∧ State.reset.part.boardChannel.validity = .unseen ∧
      State.reset.part.clock.boardMemory = none ∧ State.reset.part.link.mask.getLsbD 3 = true :=
  ⟨ready_of _ (by decide +kernel), by decide +kernel⟩

/-- A clock at the last mark of its period, on the last tick of a quarter. -/
def atMark (m : Nat) : State := withPart fun p => { p with clock := { p.clock with mark := m, tick := 32767 } }

theorem atMark_in_range : ∀ m ∈ [1022, 1023], (atMark m).part.clock.InRange := fun m h => by
  rcases List.mem_pair.mp h with rfl | rfl <;> constructor <;> decide +kernel

theorem witness_SetTrimIsStoredForTheNextPeriod :
    (saving.Ready ∧ saving.part.link.saving.isSome = true) ∧
      ((atMark 1023).Writable ∧ (atMark 1023).part.clock.InRange ∧ (atMark 1023).part.clock.mark = 1023) ∧
      (withLink fun l => { l with store := some WorkingConfig.factory }).part.link.store = some WorkingConfig.factory ∧
      State.reset.Writable ∧ ((0xFDFF : Half).toInt, (0xFE00 : Half).toInt, (511 : Half).toInt, (512 : Half).toInt) =
      (-513, -512, 511, 512) :=
  ⟨saving_is_busy,
    ⟨writable_of _ (by decide +kernel) (by decide +kernel), atMark_in_range 1023 (by simp), by decide +kernel⟩,
    by decide +kernel, writable_of _ (by decide +kernel) (by decide +kernel), by decide +kernel⟩

/-- A cycle that withholds its tick, so stays in its quarter; cycles that enter a quarter after mark 1022 and after mark 1023; and
one that ends a minute. -/
theorem witness_ACrystalCycleAdvancesTheTick :
    let quarter := fun (p : Part) => p.clock.tick / 8192
    let marked := { atMark 1023 with part := { (atMark 1023).part with clock := { (atMark 1023).part.clock with second := 59 } } }
    (lastTick.part.running = true ∧ lastTick.part.clock.InRange ∧ lastTick.part.clock.correction = .withhold ∧
      quarter (after .crystalCycle lastTick) = quarter lastTick.part) ∧
      ((atMark 1022).part.clock.InRange ∧ (atMark 1022).part.clock.mark < 1023 ∧
        quarter (after .crystalCycle (atMark 1022)) ≠ quarter (atMark 1022).part) ∧
      ((atMark 1023).part.clock.InRange ∧ (atMark 1023).part.clock.mark = 1023 ∧
        quarter (after .crystalCycle (atMark 1023)) ≠ quarter (atMark 1023).part) ∧
      (marked.part.clock.second = 59 ∧ marked.part.clock.tick + 1 = 32768 ∧ marked.part.clock.correction = .plain) :=
  ⟨⟨rfl, lastTick_in_range, rfl, by decide +kernel⟩, ⟨atMark_in_range 1022 (by simp), by decide +kernel⟩,
    ⟨atMark_in_range 1023 (by simp), by decide +kernel⟩, by decide +kernel⟩

/-- The clock after mark 1022 and after mark 1023. -/
theorem witness_AQuarterSecondMarkIsRaised :
    ((atMark 1022).part.running = true ∧ (atMark 1022).part.clock.InRange ∧ (atMark 1022).part.clock.mark < 1023) ∧
      (atMark 1023).part.clock.InRange ∧ (atMark 1023).part.clock.mark = 1023 :=
  ⟨⟨by decide +kernel, atMark_in_range 1022 (by simp), by decide +kernel⟩, atMark_in_range 1023 (by simp),
    by decide +kernel⟩

/-- Midnight, a pending commit, and a boundary at which both overrides of zone 11 end while a notice is being sent. -/
theorem witness_AMinuteBoundaryCommitsCountsDownAndResolves :
    let s := { lastTick with part := lastTick.part.setCalZone 11 { lastTick.part.calZone 11 with
      phaseOverride := some { kind := .idle, minutes := 1 }, lightOverride := some { level := 0, minutes := 1 } } }
    lastTick.part.running = true ∧ (lastTick.part.clock.weekMinute + 1) % 10080 % 1440 = 0 ∧
      (withEditor (.pending week)).part.cal.editor.isPending = true ∧
      (s.part.link.mask.getLsbD 1 = true ∧ s.part.link.transmitter ≠ .idle ∧ s.part.link.notices.length ≤ 32 ∧
        (after .minuteBoundary s).link.notices.length < 32 ∧ (s.part.calZone 11).phaseOverride.isSome = true) := by
  decide +kernel

/-- The last minute of entry 0's Monday shift, the first of its warm-up, and the last of entry 3's Saturday wind-down. -/
theorem witness_AZoneIsActiveFromAShiftsStartForItsLength :
    (∀ n < 42, (week.shift n).start < 1440 ∧ (week.shift n).length ≤ 960 ∧
      (week.profile (week.shift n).profile).lead ≤ 120 ∧ (week.profile (week.shift n).profile).hold ≤ 60) ∧
      (week.shift 0).inUse = true ∧ (week.shift 0).zones.getLsbD 4 = true ∧ (week.shift 0).days.getLsbD 0 = true ∧
      (839 + 20160 - (0 * 1440 + (week.shift 0).start)) % 10080 < (week.shift 0).length ∧
      (315 + 10080 + (week.profile 1).lead - (0 * 1440 + (week.shift 0).start)) % 10080 < (week.profile 1).lead ∧
      (week.byCalendar 4 315).phase ≠ .active ∧ (week.shift 3).days.getLsbD 5 = true ∧
      (7939 + 20160 - (5 * 1440 + ((week.shift 3).start + (week.shift 3).length))) % 10080 < (week.profile 1).hold ∧
      (week.byCalendar 4 7939).phase = .winddown ∧ (week.byCalendar 4 7940).phase = .idle ∧
      WorkingConfig.factory.calendar.header.fallbackActive = true ∧
      { week.header with fallbackActive := false }.fallbackActive = false := by decide +kernel

theorem witness_TheWindowLimitIsTheLowestThatCovers :
    (windows.window 0).inUse = true ∧ (windows.window 0).days.getLsbD 0 = true ∧ (windows.window 0).start ≤ 420 ∧
      420 < (windows.window 0).stop ∧ (windows.window 0).limit < (windows.window 2).limit := by decide +kernel

theorem witness_TheEditorOpensClosesAndDrops :
    State.reset.Ready ∧ (withEditor (.editing week)).Ready ∧ week.failures = [] ∧ (failingCopy 0).failures = [5, 56] ∧
      (withEditor (.pending week)).Ready :=
  ⟨ready_of _ (by decide +kernel), ready_of _ (by decide +kernel), by decide +kernel, by decide +kernel,
    ready_of _ (by decide +kernel)⟩

/-- The editor requests that write: an editing state, and numbers and fields at the ends of their ranges. -/
theorem witness_HeadersAndProfilesAreWrittenInTheEditCopy :
    (withEditor (.editing week)).Ready ∧ (withEditor (.editing week)).part.cal.editor = .editing week ∧
      ((19 : Byte).toNat ≤ 19 ∧ 19 < (20 : Byte).toNat) ∧ ((7 : Byte).toNat ≤ 7 ∧ 7 < (8 : Byte).toNat) ∧
      ((1 : Byte) ≠ 0 ∧ (1 : Byte) ≠ 2) :=
  ⟨ready_of _ (by decide +kernel), by decide +kernel⟩

theorem witness_ShiftsAndWindowsAreWrittenInTheEditCopy :
    (withEditor (.editing week)).Ready ∧ (withEditor (.editing week)).part.cal.editor = .editing week ∧
      ((41 : Byte).toNat ≤ 41 ∧ 41 < (42 : Byte).toNat) ∧ ((1 : Byte).toNat ≤ 1 ∧ 1 < (2 : Byte).toNat) ∧
      ((7 : Byte).toNat ≤ 7 ∧ 7 < (8 : Byte).toNat) :=
  ⟨ready_of _ (by decide +kernel), by decide +kernel⟩

theorem witness_OverridesAreSetForTheirMinutes :
    State.reset.Ready ∧ ((11 : Byte).toNat ≤ 11 ∧ 11 < (12 : Byte).toNat) ∧ ((7 : Byte).toNat ≤ 7 ∧ 7 < (8 : Byte).toNat) ∧
      ((720 : Half).toNat = 720 ∧ 720 < (721 : Half).toNat) :=
  ⟨ready_of _ (by decide +kernel), by decide +kernel⟩

/-- Both overrides in force in zone 11. -/
theorem witness_OverridesAreCancelledAtOnce :
    let o : PhaseOverride := { kind := .idle, minutes := 720 }
    let l : LightOverride := { level := 0, minutes := 1 }
    let s := withPart fun p => p.setCalZone 11 { p.calZone 11 with phaseOverride := some o, lightOverride := some l }
    s.Ready ∧ (s.part.calZone 11).phaseOverride = some o ∧ (s.part.calZone 11).lightOverride = some l ∧
      (s.part.calZone 0).phaseOverride = none ∧ (s.part.calZone 0).lightOverride = none ∧
      s.part.link.mask.getLsbD 1 = true ∧ ((11 : Byte).toNat ≤ 11 ∧ 11 < (12 : Byte).toNat) :=
  ⟨ready_of _ (by decide +kernel), by decide +kernel⟩

theorem witness_ScanListAndTimingsAreStoredClamped :
    State.reset.Writable ∧ (1 ≤ [(20 : Byte)].length ∧ (1 : Byte).toNat = [(20 : Byte)].length) ∧
      (∀ e ∈ [(20 : Byte)], e.toNat ≤ 20) ∧ 20 < (21 : Byte).toNat ∧ (32 : Byte).toNat = (List.replicate 32 (0 : Byte)).length :=
  ⟨writable_of _ (by decide +kernel) (by decide +kernel), by decide +kernel⟩

/-- The fields of a GAS channel, whose ladder ascends. -/
def gasFields (enabled : Byte) : ChannelFields where
  kind := 1
  enabled := enabled
  gain := 3
  settle := 31
  scaleLo := 0
  scaleHi := 500
  depth := 3
  rail := 1
  windowOn := 1
  sense := 1
  lo := 0xFFFF
  hi := 0
  lowHyst := 32767
  highHyst := 32768
  group := 5
  t1 := 25
  t2 := 26
  t3 := 27
  rise := 2
  fall := 5

/-- The first condition of a list of refusals that holds, with all before it failing. -/
def FailsAt (l : List (Prop × Code × Nat)) (n : Nat) : Prop :=
  ∃ before fault after, l = before ++ fault :: after ∧ before.length = n ∧ (∀ x ∈ before, ¬ x.1) ∧ fault.1

/-- A written channel, a disabled one, and a disabled one with its MEASURE outstanding; fields that fail the first check, and
fields that fail the last; a member that leaves its gas kind, one that changes its ladder or its group, and a channel that is
no member; a window in ALARM_LOW that a disabling or a changed window field clears. -/
theorem witness_AChannelIsWrittenWholeOrDisabled :
    let s := withPart fun p => { p with mu := { p.mu with outstanding := some 12 }
                                        link := { p.link with deferredMeasure := some 9 } }
    let gas := (State.reset.part.channel 14).cfg
    let low := State.reset.part.setChannel 19
      { validAt { gas with kind := .generic, enabled := true } 0 with window := .low }
    (GasFieldsDiffer gas { gas with kind := .zoneTemp } ∧ GasFieldsDiffer gas { gas with t1 := gas.t1 + 1 } ∧
      ¬ GasFieldsDiffer gas { gas with enabled := false } ∧ (State.reset.part.gasOf 14).member = true ∧
      (State.reset.part.gasOf 0).member = false ∧ (State.reset.part.gasOf 14).group ≠ 5 ∧
      WindowFieldsDiffer gas { gas with lo := gas.lo - 1 } ∧
      (low.channel 19).window = .low ∧ (low.channel 19).cfg.enabled = true) ∧
    State.reset.Writable ∧ ChannelFieldsPass 12 (gasFields 1) ∧ (State.reset.part.channel 12).cfg.enabled = true ∧
      State.reset.part.mu.outstanding ≠ some 12 ∧ s.Writable ∧ s.part.mu.outstanding = some 12 ∧
      s.part.link.deferredMeasure = some 9 ∧ (gasFields 0).enabled = 0 ∧
      FailsAt (channelRefusals 21 (gasFields 1)) 0 ∧ FailsAt (channelRefusals 12 { gasFields 1 with hi := 0xFFFF }) 11 :=
  ⟨by simp only [GasFieldsDiffer, WindowFieldsDiffer]; decide +kernel, witness_reset_is_ready.2, by unfold ChannelFieldsPass; decide +kernel,
    rfl, by decide +kernel,
    writable_of _ (by decide +kernel) (by decide +kernel), by decide +kernel, by decide +kernel, by decide +kernel,
    ⟨[], _, _, rfl, rfl, by simp, by decide⟩,
    ⟨(channelRefusals 12 { gasFields 1 with hi := 0xFFFF }).take 11, _, [], rfl, rfl,
      by simp [channelRefusals, gasFields], by decide⟩⟩

/-- An idle converter, one that works, a channel that is listed, a full list, a disabled channel, one outstanding. -/
theorem witness_MeasureJoinsThePriorityList :
    let list := fun (cs : List Nat) (busy : Bool) => withPart fun p => { p with mu := { p.mu with
      priority := cs.map fun c => { channel := c, measure := false }
      converter := if busy then p.mu.converter else none } }
    let off := withPart fun p => p.setChannel 20 { p.channel 20 with cfg := { (p.channel 20).cfg with enabled := false } }
    (list [] false).Ready ∧ (list [] false).part.mu.converter = none ∧ (list [] true).part.mu.converter.isSome = true ∧
      (∃ e ∈ (list [20] true).part.mu.priority, e.channel = 20) ∧ (list [0, 1, 2, 3, 4, 5, 6] true).part.mu.priority.length < 8 ∧
      8 ≤ (list [0, 1, 2, 3, 4, 5, 6, 7] true).part.mu.priority.length ∧ (list [] true).part.mu.outstanding = none ∧
      ((list [] true).part.channel 20).cfg.enabled = true ∧ (off.part.channel 20).cfg.enabled = false ∧
      (20 : Byte).toNat ≤ 20 ∧ 20 < (21 : Byte).toNat :=
  ⟨ready_of _ (by decide +kernel), rfl, rfl, ⟨_, .head _, rfl⟩, by decide +kernel⟩

theorem witness_FlagsClearReportsAndClears : State.reset.Ready := witness_reset_is_ready.1

/-- In a round, between rounds with the converter working, and between rounds with it idle. -/
theorem witness_ScanTimersStartRoundsAndRequests :
    let s := fun (r : Round) (idle : Bool) => withPart fun p =>
      { p with mu := { p.mu with round := r, converter := if idle then none else p.mu.converter } }
    (s (.inRound 20) false).part.running = true ∧ (s (.inRound 20) false).part.mu.round = .inRound 20 ∧
      (s .between false).part.mu.converter.isSome = true ∧ (s .between true).part.mu.converter = none ∧
      (s .between true).part.mu.priority = [] ∧ (s .between true).part.mu.round = .between := by decide +kernel

/-- A conversion in flight whose channel is VALID, and a MEASURE attached to it; the raws at the rails are 0 and 4095. -/
theorem witness_AConversionIsJudgedFilteredAndWindowed :
    let s := freezeAt [80, 45, 40, 40] 51 .valid 0 3 .clear
    let inRound := withPart fun p => { p with mu := { p.mu with round := .inRound 19 } }
    (inRound.part.mu.priority = [] ∧ inRound.part.mu.active.drop 19 = [] ++ 19 :: [20] ∧
      (inRound.part.channel 19).cfg.enabled = true ∧ State.reset.part.mu.active.drop 21 = []) ∧
    (s.part.running = true ∧ (s.part.mu.converter.map (·.channel)) = some 3 ∧
      (s.part.mu.converter.map (·.cfg.rail)) = some true ∧ (s.part.mu.converter.map (·.discard)) = some false) ∧
      max 0 (min 4095 ((-1 : Int) * 2 ^ 1 * 4096 / 5000000000)) = 0 ∧
      max 0 (min 4095 ((2500000000 : Int) * 2 ^ 1 * 4096 / 5000000000)) = 4095 := by decide +kernel

/-- The fields of a zone that changes channel and group. -/
def zoneFields (channel group dim : Byte) : ZoneFields where
  channel := channel
  group := group
  kd := 101
  kv := 100
  kp := 255
  ki := 255
  imax := 30001
  hyst := 200
  fallback := 4
  floor := 100
  dim := dim

theorem witness_AWrittenZoneAndAFreezeEdgeAreEvaluated :
    State.reset.Writable ∧ ((zoneFields 19 5 11).channel.toNat ≤ 19 ∧ (zoneFields 19 5 11).group.toNat ≤ 5) ∧
      (zoneFields 19 5 11).dim.toNat ≤ 11 ∧ 11 < (zoneFields 19 5 12).dim.toNat ∧ (zoneFields 19 5 12).dim ≠ 0xFF ∧
      19 < (zoneFields 20 5 11).channel.toNat ∧ 5 < (zoneFields 19 6 11).group.toNat ∧
      (State.reset.part.zone 11).cfg.channel ≠ 19 ∧ (State.reset.part.zone 0).cfg.group ≠ 5 ∧
      (State.reset.part.zone 0).cfg.channel = 0 ∧ (State.reset.part.zone 0).guard ≠ true ∧
      (State.reset.part.station 1).cfg.zone ≠ 11 :=
  ⟨witness_reset_is_ready.2, by decide +kernel⟩

/-- Zone 5 NORMAL; at the hold limit and one second short of it; under the freeze guard; held with G below S; no stage. -/
theorem witness_AnEvaluationFollowsTheHeatArithmetic :
    let s := storm 136 2463 2 threeDoors
    let aged := fun (a : Nat) => withPart fun p =>
      p.setChannel 5 { validAt (p.channel 5).cfg 120 with validity := .fault, age := some a }
    (s.part.running = true ∧ (s.part.channel 5).validity = .valid ∧ s.part.lb.count .heat 5 = 3 ∧
      s.part.lb.grantedCount .heat 5 < (s.part.zone 5).s) ∧
      ((aged 299).part.channel 5).age = some (State.reset.part.zc.hold - 1) ∧
      ((aged 300).part.channel 5).age = some State.reset.part.zc.hold ∧ ((aged 300).part.channel 5).validity = .fault ∧
      (State.reset.part.channel 5).validity = .unseen ∧ State.reset.part.lb.count .heat 5 = 0 ∧
      Due.evaluate 5 ∈ (s.part.owe (.evaluate 5)).due := by decide +kernel

/-- An undocked, a docked and a closed door in zone 5, a run-on that runs, a presence, an override and a LIGHT load, before the
zone's first evaluation and after it. -/
theorem witness_LightAndCurtainsFollowEvaluationsAndTimers :
    let s := withPart fun p =>
      let q := threeDoors (reading 19 (-150) p)
      let q := q.setStation 24 { q.station 24 with state := .present, door := .closed, demand := 1 }
      let q := q.setCalZone 5 { q.calZone 5 with lightOverride := some { level := 100, minutes := 1 } }
      let q := q.setZone 5 { q.zone 5 with presence := some 0 }
      loaded 40 (load .light 5 1 200 0 .guarded (.dim 5)) { q with zc := { q.zc with
        runOns := Tab.put q.zc.runOns 23 (some 0) } }
    s.part.running = true ∧ (s.part.station 21).docked = false ∧ (s.part.station 23).docked = true ∧
      (s.part.station 21).cfg.zone = 5 ∧ (s.part.station 24).door = .closed ∧ s.part.runOn 24 = some 0 ∧
      s.part.runOn 21 ≠ some 0 ∧ (s.part.zone 5).presence = some 0 ∧ (s.part.zone 4).presence ≠ some 0 ∧
      (s.part.calZone 5).lightOverride.isSome = true ∧ s.part.lb.count .light 5 = 1 ∧ s.part.lb.count .light 4 = 0 ∧
      (s.part.zone 5).evaluated = false ∧ ((after (.evaluationTimerExpiry 5) s).zone 5).evaluated = true ∧
      ((after (.evaluationTimerExpiry 5) s).zone 5).presence = some 0 := by
  decide +kernel

theorem witness_AGroupsDemandFollowsLevelsAndDoors :
    State.reset.part.running = true ∧ State.reset.Writable ∧ ((5 : Byte).toNat ≤ 5 ∧ 5 < (6 : Byte).toNat) :=
  ⟨by decide +kernel, writable_of _ (by decide +kernel) (by decide +kernel), by decide⟩

/-- A hand-off behind one of another channel and before a later one, and none at all; a VALID value, a held one and one at
the hold limit; a member that has left, one that has changed its group, and a channel that has joined. -/
theorem witness_GasLevelsFollowTheLadderAndTheHold :
    let older : List Due := [.evaluate 5, .gas 13 0 .fault none]
    let later : List Due := [.gas 14 7 .valid (some 0)]
    let s := withPart fun p => { p with due := older ++ .gas 14 110 .valid (some 0) :: later }
    let t := withPart fun p => { p with due := older }
    let moved := withPart fun p => (p.setGas 14 { p.gasOf 14 with group := 5 }).setGas 0 { p.gasOf 0 with member := true }
    (((moved.part.gasOf 14).member = true ∧ (moved.part.gasOf 14).group ≠ (moved.part.channel 14).cfg.group) ∧
      (moved.part.gasOf 0).member = true ∧ (moved.part.channel 0).cfg.kind ≠ .gas ∧
      ((withPart fun p => p.setGas 14 { p.gasOf 14 with member := false }).part.gasOf 14).member = false) ∧
    (s.part.running = true ∧ s.part.due = older ++ .gas 14 110 .valid (some 0) :: later ∧ t.part.due = older) ∧
      (∀ v w a, Due.gas 14 v w a ∉ older) ∧ (t.part.channel 14).validity ≠ .valid ∧
      (t.part.gasOf 14).source ≠ .forced ∧ (t.part.gasOf 14).watch < t.part.air.hold ∧
      (t.part.channel 14).cfg.kind = .gas ∧ (t.part.gasOf 14).member = true ∧
      (t.part.gasOf 14).group = (t.part.channel 14).cfg.group ∧ (t.part.gasOf 0).member = false :=
  ⟨by decide +kernel, ⟨rfl, rfl, rfl⟩, fun _ _ _ => by simp, by decide +kernel⟩

theorem witness_StationsAreWrittenOneByOneOrByMask :
    (withPart (openDoor 48 false)).Writable ∧ ((withPart (openDoor 48 false)).part.station 48).state ≠ .disabled ∧
      ((withPart (openDoor 48 false)).part.station 48).cfg.zone = 11 ∧ (State.reset.part.station 1).state = .disabled ∧
      ((48 : Byte).toNat ≤ 48 ∧ 48 < (49 : Byte).toNat) ∧ ((11 : Byte).toNat ≤ 11 ∧ 11 < (12 : Byte).toNat) :=
  ⟨writable_of _ (by decide +kernel) (by decide +kernel), by decide +kernel⟩

/-- A door that changes and one that does not; a curtain heat request that stands, one of a station without a CURTAIN load, and a
station whose demand ends. -/
theorem witness_leaveHanded :
    let p := (loaded 70 (load .curtain 21 1 120 2 .none .door) (openDoor 21 false State.reset.part)).setCurtainHanded 21 true
    leaveHanded p 21 = [.evaluate 5, .demand 2, .budget (.curtain 21 false)] ∧ leaveHanded p 22 = [] ∧
      p.lb.count .curtain 21 ≠ 0 ∧ p.lb.count .curtain 22 = 0 ∧
      doorHanded p 21 .closed false ≠ [] ∧ doorHanded p 21 .opened false = [] := by decide +kernel

theorem witness_StationFramesAreTakenAndAnswered :
    ((served 48).part.running = true ∧ (served 48).part.dl.line ≠ .stuck ∧ (served 48).part.dl.flying = none ∧
      ((served 48).part.station 48).state ≠ .disabled ∧ ((served 48).part.station 48).cfg.zone < 12) ∧
      ((served 48).part.station 47).state = .disabled ∧ (waiting .stuck false).part.dl.line = .stuck ∧
      (waiting .dead false).part.dl.line = .dead ∧ (waiting .busy true).part.dl.flying.isSome = true ∧
      (waiting .busy true).part.dl.line = .busy ∧ (waiting .busy true).part.link.transmitter ≠ .idle := by decide +kernel

/-- Spans of the byte 0x00, released 0s long and driven 0s short, at the ends of their windows. -/
theorem spans_of_a_zero_byte : SpansCarry [60, 28, 100, 56, 60, 56, 100, 28] [0] := by
  refine ⟨rfl, fun n k b d hb hk hd => ?_⟩
  obtain ⟨hn, rfl⟩ := List.getElem?_eq_some_iff.1 hb
  obtain ⟨hd, rfl⟩ := List.getElem?_eq_some_iff.1 hd
  obtain rfl : n = 0 := by simpa using hn
  interval_cases k <;> simp [SpanFits]

/-- What may follow the end of a frame without an event: spans short of a line clear, driven, and of a rest, released. -/
theorem spans_that_are_ignored : SpansIgnored true [299, 219] ∧ SpansIgnored false [219, 299] ∧ ∀ b, SpansIgnored b [] := by
  refine ⟨fun k d h => ?_, fun k d h => ?_, fun b k d h => by simp at h⟩ <;>
    (obtain ⟨hk, rfl⟩ := List.getElem?_eq_some_iff.1 h
     have : k < 2 := hk
     interval_cases k <;> simp)

/-- Spans in progress, and a released and a driven span that fit no window. -/
theorem spans_that_misfit :
    SpansLoose [28, 100] ∧ SpansLoose [] ∧ SpansLoose [60] ∧ SpanMisfits false 57 ∧ SpanMisfits true 299 ∧
      SpanMisfits false 129 ∧ SpanMisfits true 27 := by
  simp [SpansLoose, SpanMisfits]

/-- A header with its data's length, one without, and the two that only the controller sends; spans off nominal within their
windows, and spans outside them. -/
theorem witness_SpansAreReadAndJudged :
    (State.reset.part.running = true ∧ State.reset.part.dl.line ≠ .stuck ∧ State.reset.part.dl.flying = none) ∧
      dataBytes 0xC1 = some 1 ∧ dataBytes 0xC1 ≠ some 0 ∧ dataBytes 0x83 = some 1 ∧ dataBytes 0x64 = some 0 ∧
      SpansCarry [60, 28, 100, 56, 60, 56, 100, 28] [0] ∧ SpansCarry [] [] ∧ SpansLoose [28, 100] ∧ SpanMisfits false 57 ∧
      SpanMisfits true 299 ∧ SpansIgnored true [299, 219] ∧ SpansIgnored false [219, 299] :=
  ⟨by decide +kernel, by decide, by decide, by decide, by decide, spans_of_a_zero_byte, ⟨rfl, by simp⟩, spans_that_misfit.1,
    spans_that_misfit.2.2.2.1, spans_that_misfit.2.2.2.2.1, spans_that_are_ignored.1, spans_that_are_ignored.2.1⟩

/-- A QUERY in flight at the head of the queue, to an ABSENT station with one or two missing answers, to a PRESENT one, to a
DISABLED one, a good answer and its spans; an answer sent; a pending station with a place in the queue, one with its entry
waiting, one with it in flight, and one that finds the queue full. -/
theorem witness_AnswersEndTheirFrames :
    let s := fun (count : Nat) (state : StationState) => withPart fun p =>
      let q := (waiting .busy true).part
      { q with dl := q.dl.setStation 1 { q.station 1 with noAnswers := count, state := state }
               link := p.link }
    let ans := withPart fun p => { openDoor 1 false p with dl := { (openDoor 1 false p).dl with
      answering := some { address := 1, bytes := [0, 0xAC] } } }
    let pending := fun (a : Nat) (p : Part) => p.setStation a { (openDoor a false p).station a with pending := true }
    let pends := withPart (pending 48)
    let own := fun (a : Nat) => (pending a (waiting .busy true).part).dl.queue.filter fun x => decide (x.address = a)
    let full := (pending 48 { State.reset.part with
      dl := ((List.range 16).map (· + 1)).foldl (fun d a => d.append a .query) State.reset.part.dl }).dl
    (SpansCarry [60, 28, 100, 56, 60, 56, 100, 28] [0] ∧ SpansLoose [28, 100] ∧ SpansLoose [] ∧ SpansLoose [60] ∧
      SpanMisfits false 57 ∧ SpanMisfits true 299 ∧ SpanMisfits false 129 ∧ SpanMisfits true 27) ∧
    (SpansIgnored true [299, 219] ∧ SpansIgnored false [219, 299] ∧ ∀ b, SpansIgnored b []) ∧
    (pends.part.station 48).pending = true ∧ (pends.part.station 48).state = .present ∧ pends.part.dl.queue = [] ∧
      (own 48 ≠ [] ∧ (∀ x ∈ own 48, x.inFlight = false) ∧ own 1 ≠ [] ∧ (∀ x ∈ own 1, x.inFlight = true)) ∧
      ((full.queue.filter fun x => decide (x.address = 48)) = [] ∧ 16 ≤ full.queue.length) ∧
      (State.reset.part.station 48).pending = false ∧ crc8 [0x80, 0x10] = crc8 [0x80, 0x10] ∧
    ((s 1 .absent).part.running = true ∧
      (s 1 .absent).part.dl.queue = { address := 1, kind := .query, inFlight := true, orphan := false } ::
        [{ address := 48, kind := .setOutputs, inFlight := false, orphan := false }]) ∧
      ((s 1 .absent).part.station 1).noAnswers < 2 ∧ 2 ≤ ((s 2 .present).part.station 1).noAnswers ∧
      ((s 2 .present).part.station 1).state = .present ∧ ((s 2 .absent).part.station 1).state ≠ .present ∧
      ((s 2 .disabled).part.station 1).state = .disabled ∧ State.reset.part.dl.flying = none ∧
      ans.part.dl.answering.isSome = true ∧ ans.part.formedOutputs 1 ≠ (ans.part.station 1).lastFormed ∧
      State.reset.part.dl.answering = none :=
  ⟨⟨spans_of_a_zero_byte, spans_that_misfit⟩, spans_that_are_ignored, by decide +kernel⟩

/-- The lines that a clear finds; a station whose commanded outputs stand off as its demand does. -/
theorem witness_ALineClearEmptiesTheLine :
    (waiting .ready false).Ready ∧ (waiting .ready false).part.dl.line = .ready ∧
      (waiting .stuck false).part.dl.line = .stuck ∧ (waiting .dead false).part.dl.line = .dead ∧
      (waiting .busy true).part.dl.line = .busy ∧ State.reset.part.dl.line = .clearing ∧
      ((waiting .ready false).part.station 1).state ≠ .disabled ∧
      ((waiting .ready false).part.station 1).commanded = Outputs.off ∧ ((waiting .ready false).part.station 1).demand = 0 ∧
      ((after .lineClearReceived (waiting .ready false)).station 1).pending = false :=
  ⟨ready_of _ (by decide +kernel), by decide +kernel⟩

theorem witness_TheLineMovesBetweenItsStates :
    ((waiting .ready false).part.running = true ∧ (waiting .ready false).part.dl.queue ≠ []) ∧
      (served 1).part.dl.line = .ready ∧ (served 1).part.dl.queue = [] ∧ (waiting .busy true).part.dl.flying.isSome = true ∧
      (waiting .busy false).part.dl.flying = none ∧ (waiting .dead false).part.dl.line = .dead := by decide +kernel

/-- A silence timer that runs, an ABSENT station, a hand-off behind one of another zone, and none. -/
theorem witness_DoorTimersSilenceProbeAndCount :
    let older : List Due := [.doorLimit 10 0 false]
    let s := withPart fun p => { openDoor 1 false p with due := older ++ .doorLimit 11 10 true :: [] }
    let out := s.part.setStation 1 { s.part.station 1 with silence := some 0 }
    s.part.running = true ∧ (out.station 1).silence = some 0 ∧ (out.station 1).state = .present ∧
      (s.part.station 1).silence ≠ some 0 ∧
      (State.reset.part.station 48).silence = none ∧ s.part.due = older ++ .doorLimit 11 10 true :: [] ∧
      ∀ l m, Due.doorLimit 11 l m ∉ older :=
  ⟨by decide +kernel, by decide +kernel, by decide +kernel, by decide +kernel, by decide +kernel, rfl, by simp⟩

/-- The fields of the first stage of zone 5's heaters, and of a second stage without a first. -/
def stageFields (stage : Byte) : LoadFields where
  kind := 1
  owner := 5
  stage := stage
  rating := 5001
  rank := 8
  protection := 2
  floor := 101
  minOn := 1801
  minOff := 1800
  bindForm := 0
  bindNumber := 63
  enable := 1

/-- The configuration that a first heater stage of zone 5 stores. -/
def stageStored : LoadConfig := loadConfigOf (stageFields 1)

theorem stageStored_is_stored : LoadStored (stageFields 1) stageStored := by unfold LoadStored; decide +kernel

/-- A table meets a relation at every step of every chain that has an owner. -/
theorem no_step_fails (t : Nat → LoadConfig) (wrong : Nat → Nat → Prop)
    (h : ∀ i < 128, (t i).kind ≠ .unused → (t i).kind ≠ .aux → ∀ j ∈ chainIn t i, (t j).stage = (t i).stage + 1 → ¬ wrong i j) :
    ¬ aStepFails t wrong := fun ⟨i, j, hi, hj, hs, hw⟩ => h i hi.1 hi.2.1 hi.2.2 j hj hs hw

/-- A table's chains have the stages 1..n. -/
theorem no_stages_fail (t : Nat → LoadConfig)
    (h : ∀ i < 128, (t i).kind ≠ .unused → (t i).kind ≠ .aux →
      ((chainIn t i).map fun j => (t j).stage).Perm (List.range' 1 (chainIn t i).length)) : ¬ stagesFail t :=
  fun ⟨i, hi, hw⟩ => hw (h i hi.1 hi.2.1 hi.2.2)

/-- The upper load j stands right to the lower load i of a chain. -/
def stepRight (t : Nat → LoadConfig) (i j : Nat) : Bool :=
  decide (i < j ∧ (t i).rank ≤ (t j).rank ∧ ((t j).enabled = true → (t i).enabled = true) ∧
    ((t j).protection = .always → (t i).protection = .always) ∧ ((t j).protection = .guarded → (t i).protection ≠ .none))

/-- A table meets check 9 of R163 when every step of its chains does. -/
theorem ordered_of (t : Nat → LoadConfig)
    (h : ∀ i < 128, (t i).kind ≠ .unused → (t i).kind ≠ .aux →
      ((chainIn t i).map fun j => (t j).stage).isPerm (List.range' 1 (chainIn t i).length) = true ∧
      ∀ j ∈ chainIn t i, (t j).stage = (t i).stage + 1 → stepRight t i j = true) : TableOrdered t :=
  have r := fun i hi a b j hj hs => of_decide_eq_true ((h i hi a b).2 j hj hs)
  ⟨no_stages_fail t fun i hi a b => List.isPerm_iff.1 (h i hi a b).1,
    no_step_fails t _ fun i hi a b j hj hs w => w (r i hi a b j hj hs).1,
    no_step_fails t _ fun i hi a b j hj hs w => absurd (r i hi a b j hj hs).2.1 (Nat.not_le.2 w),
    no_step_fails t _ fun i hi used owned j hj hs wrong => by
      obtain ⟨-, -, -, always, guarded⟩ := r i hi used owned j hj hs
      exact wrong.elim (fun strong => strong.2 (always strong.1)) fun strong => guarded strong.1 strong.2,
    no_step_fails t _ fun i hi used owned j hj hs wrong => by
      simp [(r i hi used owned j hj hs).2.2.1 wrong.1] at wrong⟩

/-- The factory table with a first heater stage of zone 5 at place 127. -/
def oneStage (j : Nat) : LoadConfig := if j = 127 then stageStored else (State.reset.part.lb.load j).cfg

theorem oneStage_is_ordered : TableOrdered oneStage := ordered_of _ (by decide +kernel)

/-- The worked example's table, its first stage disabled alone, and all three stages disabled. -/
def enabling (mask : BitVec 128) (j : Nat) : LoadConfig :=
  { (tableBefore.load j).cfg with enabled := if mask.getLsbD j then false else (tableBefore.load j).cfg.enabled }

theorem enabling_leaves_a_gap : enablesFail (enabling 1) :=
  ⟨0, 1, by unfold hasOwner; decide +kernel, by decide +kernel⟩

theorem enabling_leaves_none : ¬ enablesFail (enabling 7) := (ordered_of _ (by decide +kernel)).2.2.2.2

/-- A LOAD_WRITE that passes every check, one refused for its number, one for its missing first stage; request enables that
leave a gap in a chain, and others that leave none. -/
theorem witness_LoadsAreWrittenAndEnabled :
    State.reset.Writable ∧ LoadStored (stageFields 1) stageStored ∧
      (∀ x ∈ loadFieldRefusals 127 (stageFields 1), ¬ x.1) ∧
      (∀ x ∈ loadTableRefusals State.reset.part.lb 127 (stageFields 1) stageStored, ¬ x.1) ∧
      FailsAt (loadFieldRefusals 128 (stageFields 1)) 0 ∧
      FailsAt (loadTableRefusals State.reset.part.lb 127 (stageFields 2) { stageStored with stage := 2 }) 7 ∧
      enablesFail (enabling 1) ∧ ¬ (enablesFail (enabling 7) ∨ 65535 < floorIn (enabling 7)) := by
  refine ⟨witness_reset_is_ready.2, stageStored_is_stored, ?_, ?_, ⟨[], _, _, rfl, rfl, by simp, by decide⟩,
    ⟨List.take 7 (loadTableRefusals State.reset.part.lb 127 (stageFields 2) { stageStored with stage := 2 }), _, _, rfl, rfl,
      ?_, ?_⟩, enabling_leaves_a_gap, fun h => h.elim enabling_leaves_none (by decide +kernel)⟩
  · simp only [loadFieldRefusals, List.forall_mem_cons]
    and_intros <;> first
      | decide
      | simp
  · obtain ⟨stages, order, ranks, protections, enables⟩ := oneStage_is_ordered
    have unused : ∀ j < 128, j ≠ 127 → (oneStage j).kind = .unused := by decide +kernel
    have idle : (State.reset.part.lb.load 127).grant = .none := by decide +kernel
    simp only [loadTableRefusals, List.forall_mem_cons, idle]
    refine ⟨by simp, by simp, by simp, by decide, by decide +kernel, ?_, by decide +kernel, stages, order, ranks, protections,
      enables, ?_, by simp⟩
    · rintro ⟨-, j, hj, hne, hk, -⟩
      exact hk (unused j hj hne)
    · exact (by decide +kernel : ¬ 65535 < floorIn oneStage)
  · have idle : (State.reset.part.lb.load 127).grant = .none := by decide +kernel
    have unused : ∀ j < 128, (State.reset.part.lb.load j).cfg.kind = .unused := by decide +kernel
    simp only [loadTableRefusals, List.take, List.forall_mem_cons, idle]
    refine ⟨by simp, by simp, by simp, by decide +kernel, by decide +kernel, ?_, by decide +kernel, by simp⟩
    rintro ⟨-, j, hj, hne, hk, -⟩
    rw [if_neg hne] at hk
    exact hk (unused j hj)
  · refine ⟨127, by unfold hasOwner; decide +kernel, fun h => ?_⟩
    exact absurd (List.isPerm_iff.2 h) (by decide +kernel)

/-- The fields of a LOAD_WRITE of a kind and owner, in class 6, unprotected and bound to no output. -/
def fieldsOf (kind owner : Byte) : LoadFields :=
  { stageFields 1 with kind := kind, owner := owner, rating := 100, rank := 6, protection := 0, floor := 0, bindForm := 3 }

/-- The part after a LOAD_WRITE of such fields. -/
def wrote (n kind owner : Byte) (s : State) : Part := after (.loadWrite 7 n (fieldsOf kind owner)) s

/-- The budget with such fields stored, before the pass. -/
def stored (n kind owner : Byte) (lb : Budget) : Budget :=
  lb.setLoad n.toNat ((lb.load n.toNat).withConfig (loadConfigOf (fieldsOf kind owner)))

/-- The checks of such a LOAD_WRITE pass. -/
def passesChecks (n kind owner : Byte) (lb : Budget) : Bool :=
  match loadOperands lb n (fieldsOf kind owner) with
  | .accept c _ => decide (c = loadConfigOf (fieldsOf kind owner))
  | .refuse _ _ => false

/-- A LOAD_WRITE that passes its checks: the loads as its pass moves them, and the numbers of loads as stored. -/
theorem wrote_table (n kind owner : Byte) (s : State) (w : s.Writable) (h : passesChecks n kind owner s.part.lb = true) :
    (∀ j, (wrote n kind owner s).lb.load j = (stored n kind owner s.part.lb).allocate.load j) ∧
      ∀ k o, (wrote n kind owner s).lb.count k o = (stored n kind owner s.part.lb).count k o := by
  unfold passesChecks at h
  split at h
  case h_2 => cases h
  case h_1 c cut accepted =>
    obtain rfl := of_decide_eq_true h
    obtain ⟨t, next, budget⟩ := exec_loadWrite_budget 7 w accepted
    have same : (wrote n kind owner s).lb = t.part.lb := by simp only [wrote, after, next]
    rw [same, budget]
    exact ⟨Part.writeLoad_load _ _ _, Part.writeLoad_count _ _ _⟩

/-- The zones told: one with fewer heater stages and one with as many, one that gains a LIGHT load before its first evaluation and
after it, and one that loses it. -/
theorem witness_ZoneTold :
    let s := withBudget tableAfter
    let judged := withPart fun p => p.setZone 4 { p.zone 4 with evaluated := true }
    let lit := withPart (loaded 40 (load .light 4 1 200 0 .none .nothing))
    (newStageCount s.part (wrote 2 0 255 s) 5 ∧ (wrote 2 0 255 s).lb.count .heat 5 = 2) ∧
      ¬ newStageCount s.part (wrote 2 0 255 s) 4 ∧
      (gainsLoad State.reset.part (wrote 40 2 4 State.reset) .light 4 ∧
        ¬ newStageCount State.reset.part (wrote 40 2 4 State.reset) 4 ∧ (State.reset.part.zone 4).evaluated = false) ∧
      (gainsLoad judged.part (wrote 40 2 4 judged) .light 4 ∧ (judged.part.zone 4).evaluated = true) ∧
      losesLoad lit.part (wrote 40 0 255 lit) .light 4 := by
  intro s judged lit
  have w1 := (wrote_table 2 0 255 s (writable_of _ (by decide +kernel) (by decide +kernel)) (by decide +kernel)).2
  have w2 := (wrote_table 40 2 4 State.reset witness_reset_is_ready.2 (by decide +kernel)).2
  have w3 := (wrote_table 40 2 4 judged (writable_of _ (by decide +kernel) (by decide +kernel)) (by decide +kernel)).2
  have w4 := (wrote_table 40 0 255 lit (writable_of _ (by decide +kernel) (by decide +kernel)) (by decide +kernel)).2
  simp only [newStageCount, gainsLoad, losesLoad, w1, w2, w3, w4]
  decide +kernel

/-- The stations told: one that gains a CURTAIN load before its zone's first evaluation and after it, one that loses it, one whose
load goes ON in the pass, and one in a zone that is evaluated. -/
theorem witness_StationTold :
    let judged := withPart fun p => p.setZone 5 { p.zone 5 with evaluated := true }
    let curtain := withPart (loaded 70 (load .curtain 21 1 120 2 .none .door))
    let asked := withPart (loaded 70 (asking 1 1000 (load .curtain 21 1 120 2 .always .door)))
    let opened := withPart (openDoor 21 false)
    (gainsLoad State.reset.part (wrote 70 4 21 State.reset) .curtain 21 ∧
        ¬ newStageCount State.reset.part (wrote 70 4 21 State.reset) 5 ∧
        ((State.reset.part.station 21).cfg.zone = 5 ∧ (State.reset.part.zone 5).evaluated = false)) ∧
      (gainsLoad judged.part (wrote 70 4 21 judged) .curtain 21 ∧ (judged.part.zone 5).evaluated = true) ∧
      losesLoad curtain.part (wrote 70 0 255 curtain) .curtain 21 ∧
      ((asked.part.lb.load 70).state = .off ∧ ((wrote 71 5 255 asked).lb.load 70).state = .on) ∧
      (newStageCount opened.part (wrote 0 1 5 opened) (opened.part.station 21).cfg.zone ∧
        (opened.part.station 21).state ≠ .disabled) := by
  intro judged curtain asked opened
  have w1 := (wrote_table 70 4 21 State.reset witness_reset_is_ready.2 (by decide +kernel)).2
  have w2 := (wrote_table 70 4 21 judged (writable_of _ (by decide +kernel) (by decide +kernel)) (by decide +kernel)).2
  have w3 := (wrote_table 70 0 255 curtain (writable_of _ (by decide +kernel) (by decide +kernel)) (by decide +kernel)).2
  have w4 := (wrote_table 71 5 255 asked (writable_of _ (by decide +kernel) (by decide +kernel)) (by decide +kernel)).1
  have w5 := (wrote_table 0 1 5 opened (writable_of _ (by decide +kernel) (by decide +kernel)) (by decide +kernel)).2
  simp only [newStageCount, gainsLoad, losesLoad, w1, w2, w3, w4, w5]
  decide +kernel

/-- The groups told, one of which loses a FAN load, and the load written: one that changes kind and owner with a request standing,
and one that was RESTING and changes its binding alone. -/
theorem witness_LoadMoved :
    let s := withBudget tableAfter
    let resting := withPart (loaded 100 { load .aux 0 1 100 6 .none (.point 20) with state := .resting, minOff := some 9 })
    (s.part.lb.count .fan 2 ≠ (wrote 9 0 255 s).lb.count .fan 2 ∧ s.part.lb.count .fan 1 = (wrote 9 0 255 s).lb.count .fan 1) ∧
      (tableAfter.StatesLaw ∧ tableAfter.ChainLaw ∧ (s.part.lb.load 100).request = 1 ∧
        ((wrote 100 4 22 s).lb.load 100).cfg.kind ≠ (s.part.lb.load 100).cfg.kind) ∧
      (resting.part.lb.StatesLaw ∧
        ((wrote 100 5 255 resting).lb.load 100).cfg.kind = (resting.part.lb.load 100).cfg.kind ∧
        ((wrote 100 5 255 resting).lb.load 100).cfg.owner = (resting.part.lb.load 100).cfg.owner ∧
        ((wrote 100 5 255 resting).lb.load 100).cfg.binding ≠ (resting.part.lb.load 100).cfg.binding) := by
  intro s resting
  have ws := writable_of s (by decide +kernel) (by decide +kernel)
  have w1 := (wrote_table 9 0 255 s ws (by decide +kernel)).2
  have w2 := (wrote_table 100 4 22 s ws (by decide +kernel)).1
  have w3 := (wrote_table 100 5 255 resting (writable_of _ (by decide +kernel) (by decide +kernel)) (by decide +kernel)).1
  simp only [w1, w2, w3, Budget.allocate_cfg]
  exact ⟨by decide +kernel, ⟨tableAfter_keeps_its_laws.2.2.1, tableAfter_keeps_its_laws.2.1, by decide +kernel⟩,
    by constructor <;> decide +kernel, by decide +kernel⟩

theorem witness_RequestsAndLimitsOfTheHostAreStored :
    let s := withBudget tableBefore
    s.Ready ∧ s.part.link.saving = none ∧ (s.part.lb.load 100).cfg.kind = .aux ∧ (s.part.lb.load 0).cfg.kind ≠ .aux ∧
      s.part.lb.grantedSum ≤ s.part.lb.el ∧ ((127 : Byte).toNat ≤ 127 ∧ 127 < (128 : Byte).toNat) ∧
      ((1 : Byte).toNat ≤ 1 ∧ 1 < (2 : Byte).toNat) ∧
      ((s.part.lb.load 100).request ≠ 0 ∨ (s.part.lb.load 100).urgency ≠ 1000) ∧
      { s.part.lb with base := 0 }.el ≠ s.part.lb.el ∧ { s.part.lb with cap := none }.el = s.part.lb.el :=
  ⟨ready_of _ (by decide +kernel), by decide +kernel⟩

/-- No change due, one due and two due of one figure and of two; behind another figure's, a guard that changes what is held and
one that does not; a limit that changes what is held and one that does not; a
start queue that waits for a timer that has run out, and one that has not; a min-on, a min-off and a cap that have run out. -/
theorem witness_PassesAndLoadTimersGrantWithinTheLimit :
    let s := withBudget { tableAfter with spacingTimer := some 0 }
    let due := { s with part := s.part.hand (.window (some 900)) }
    let timed := withBudget { tableOn with
      cap := some { value := 700, left := 0 }
      loads := Tab.put (Tab.put tableOn.loads 0 { tableOn.load 0 with minOn := some 0 }) 2
        { tableOn.load 2 with state := .resting, minOff := some 0 } }
    let guard := fun (stands : Bool) => Change.freezeGuard 11 stands
    TableOrdered (fun k => (tableBefore.load k).cfg) ∧ s.part.running = true ∧ s.part.due.countP waitingChange = 0 ∧
      due.part.due.countP waitingChange ≤ 1 ∧
      ((∀ c, Due.budget c ∈ due.part.due → (guard true).sameFigure c = false) ∧ guardExists (guard true) ∧
        changePasses s.part.lb (guard true) ∧ ¬ changePasses s.part.lb (guard false) ∧
        changePasses s.part.lb (.window (some 900)) ∧ ¬ changePasses s.part.lb (.window (some 1200))) ∧
      due.part.due = [.budget (.window (some 900))] ∧
      (due.part.due = .budget (.window (some 900)) :: [] ∧ (∀ c, Due.budget c ∉ ([] : List Due)) ∧
        { due.part.lb with window := some 900 }.el ≠ due.part.lb.el ∧
        { due.part.lb with window := some 1200 }.el = due.part.lb.el ∧ due.part.lb.window = none ∧ due.part.lb.RefusedLaw) ∧
      (Change.window none).sameFigure (.startWindow (some 900)) = true ∧
      (Change.window none).sameFigure (.window (some 900)) = true ∧
      (Change.window none).sameFigure (.freezeGuard 0 true) = false ∧
      s.part.lb.spacingTimer = some 0 ∧ s.part.lb.queue = [70, 0, 1] ∧ s.part.lb.spacing ≠ 0 ∧
      (timed.part.lb.load 0).minOn = some 0 ∧ (timed.part.lb.load 2).minOff = some 0 ∧
      (timed.part.lb.load 2).state = .resting ∧ timed.part.lb.cap.map (·.left) = some 0 ∧
      timed.part.lb.spacingTimer ≠ some 0 ∧ (timed.part.lb.load 1).minOn ≠ some 0 ∧
      (let idle := State.reset.part.lb
       idle.queue = [] ∧ (∀ k < 128, (idle.load k).state ≠ .starting) ∧ { idle with spacing := 0 }.spacingTimer = none) ∧
      { s.part.lb with spacing := 0 }.spacingTimer = some 0 ∧ State.reset.part.lb.cap.map (·.left) ≠ some 0 ∧
      (tableBefore.requested (tableBefore.load 40) = true ∧ tableBefore.protects (tableBefore.load 40).cfg = true ∧
        (tableBefore.load 40).cfg.enabled = true) :=
  ⟨ordered_of _ (by decide +kernel), by decide +kernel, by decide +kernel, by decide +kernel,
    ⟨by rintro c (_ | ⟨_, ⟨⟩⟩); rfl, by unfold guardExists; decide, by unfold changePasses; decide +kernel,
      by unfold changePasses; decide +kernel, by unfold changePasses; decide +kernel, by unfold changePasses; decide +kernel⟩,
    by decide +kernel, ⟨by decide +kernel, fun _ => List.not_mem_nil, by decide +kernel, by decide +kernel, by decide +kernel,
      by unfold Budget.RefusedLaw; decide +kernel⟩, by decide +kernel⟩

/-- A refresh of an image with only point 63 on: that point goes first, and the relays end on the image (R180). -/
theorem test_point_63_goes_first :
    let image : BitVec 64 := 0x8000000000000000
    (refreshMoves image).take 2 = [(10, .point true), (20, .point false)] ∧
      (after .outputRefreshLatch (withPart fun p => { p with lb := { p.lb with shifting := some image } })).lb.relays = image := by
  decide +kernel

/-- The lamp LED_LINE on a STUCK and a READY line, and of a part held in reset (R80). -/
theorem test_led_line :
    (waiting .stuck false).part.ledLine = true ∧ (waiting .ready false).part.ledLine = false ∧
      (after .resetAsserted (waiting .stuck false)).ledLine = false := by decide +kernel

/-- A refresh that runs and none; a dim output with a LIGHT bound and ON, and one that a zone drives. -/
theorem witness_OutputsFollowTheLoads :
    let lit := withBudget tableAfter
    let direct := withPart fun p => p.setZone 11 { p.zone 11 with direct := 100 }
    State.reset.part.lb.shifting = some 0 ∧ (withBudget { tableAfter with shifting := none }).part.lb.shifting = none ∧
      (lit.part.lb.load 40).cfg.binding = .dim 5 ∧ (lit.part.lb.load 40).state = .on ∧
      (lit.part.lb.load 40).grant = .level 80 ∧ (direct.part.zone 11).cfg.dim = some 11 ∧
      direct.part.lb.count .light 11 = 0 ∧ (lit.part.lb.load 8).cfg.binding = .point 8 ∧ (lit.part.lb.load 8).state = .on := by
  decide +kernel

end Sys2Proof.Tests
end

section
/-! SUPPORT. The shift clock: what one crystal cycle, a mark and a period start make of it, and that every step keeps its counters
in their ranges (01). -/

namespace Sys2Proof.Machine

/-! ### A compensation period (R5 to R8) -/

/-- A period start moves the period's own figures alone. -/
@[simp] theorem Clock.startPeriod_keeps (c : Clock) (ch : Channel) :
    (c.startPeriod ch).state = c.state ∧ (c.startPeriod ch).weekMinute = c.weekMinute ∧
      (c.startPeriod ch).second = c.second ∧ (c.startPeriod ch).tick = c.tick ∧
      (c.startPeriod ch).dayCount = c.dayCount ∧ (c.startPeriod ch).trimA = c.trimA ∧
      (c.startPeriod ch).trimKq = c.trimKq ∧ (c.startPeriod ch).trimT0 = c.trimT0 := by
  simp [Clock.startPeriod]

/-- The correction of mark 0: by the sign of Cv (R8). -/
theorem correctionFor_zero (cv : Int) :
    correctionFor 0 cv = if cv = 0 then .plain else if 0 < cv then .add else .withhold := by
  unfold correctionFor
  by_cases h : cv = 0
  · simp [h]
  · rw [if_neg h, if_pos (Int.natAbs_pos.2 h)]

/-- A period start is the one that R5 to R8 describe. -/
theorem Clock.startPeriod_started (c : Clock) (ch : Channel) : PeriodStarted ch c (c.startPeriod ch) := by
  refine ⟨rfl, rfl, ?valid, ?held, ?memory, ?absent, ⟨rfl, rfl⟩, correctionFor_zero _⟩
  case valid =>
    intro v
    simp [Clock.startPeriod, boardTemperature, v]
  case held =>
    rintro (v | v) <;> simp [Clock.startPeriod, boardTemperature, v]
  case memory =>
    intro t v m
    simp [Clock.startPeriod, boardTemperature, v, m]
  case absent =>
    intro v m
    simp [Clock.startPeriod, boardTemperature, v, m]

/-- A period start reads the trim and the board memory alone of the clock before it. -/
theorem PeriodStarted.of_same {ch : Channel} {a a' b : Clock} (memory : a'.boardMemory = a.boardMemory)
    (trimA : a'.trimA = a.trimA) (trimKq : a'.trimKq = a.trimKq) (trimT0 : a'.trimT0 = a.trimT0)
    (started : PeriodStarted ch a' b) : PeriodStarted ch a b := by
  simpa only [PeriodStarted, memory, trimA, trimKq, trimT0] using started

/-- The factory trim compensates nothing, whatever the temperature (R10). -/
theorem Clock.startPeriod_cv_of_factory_trim (c : Clock) (ch : Channel) (trimA : c.trimA = 0) (trimKq : c.trimKq = 0) :
    (c.startPeriod ch).cv = 0 := by
  simp [Clock.startPeriod, compensation, clampCv, clampZ, trimA, trimKq]

/-! ### The count of a cycle (R1, R2) -/

/-- A cycle's count stays within its second, enters the next, or enters the next minute. -/
theorem Clock.count_cases (c : Clock) :
    (c.tick + c.correction.advance < 32768 ∧
      c.count = { c with tick := c.tick + c.correction.advance, correction := .plain }) ∨
    (32768 ≤ c.tick + c.correction.advance ∧ c.second < 59 ∧
      c.count = { c with
        tick := c.tick + c.correction.advance - 32768, correction := .plain, second := c.second + 1 }) ∨
    (32768 ≤ c.tick + c.correction.advance ∧ 59 ≤ c.second ∧
      c.count = { c with
        tick := c.tick + c.correction.advance - 32768, correction := .plain, second := 0
        weekMinute := (c.weekMinute + 1) % 10080
        dayCount := if (c.weekMinute + 1) % 10080 % 1440 = 0 then (c.dayCount + 1) % 65536 else c.dayCount }) := by
  by_cases within : c.tick + c.correction.advance < 32768
  · exact .inl ⟨within, if_pos within⟩
  have past : c.count = Clock.advanceSecond
      { c with tick := c.tick + c.correction.advance - 32768, correction := .plain } := if_neg within
  by_cases minute : c.second < 59
  · exact .inr (.inl ⟨by omega, minute, past.trans (if_pos minute)⟩)
  · exact .inr (.inr ⟨by omega, by omega, past.trans (if_neg minute)⟩)

/-- A count moves the counters alone, and leaves the next cycle plain. -/
@[simp] theorem Clock.count_keeps (c : Clock) :
    c.count.state = c.state ∧ c.count.trimA = c.trimA ∧ c.count.trimKq = c.trimKq ∧ c.count.trimT0 = c.trimT0 ∧
      c.count.trimChanged = c.trimChanged ∧ c.count.cv = c.cv ∧ c.count.tb = c.tb ∧ c.count.tbSource = c.tbSource ∧
      c.count.cvClamped = c.cvClamped ∧ c.count.boardMemory = c.boardMemory ∧ c.count.mark = c.mark ∧
      c.count.correction = .plain := by
  rcases c.count_cases with ⟨-, h⟩ | ⟨-, -, h⟩ | ⟨-, -, h⟩ <;> rw [h] <;> simp

theorem Correction.advance_le (k : Correction) : k.advance ≤ 2 := by cases k <;> decide

/-- A count moves the clock on by its ticks, round the week. -/
theorem Clock.count_position {c : Clock} (range : c.InRange) :
    c.count.position = (c.position + c.correction.advance) % ticksPerWeek := by
  obtain ⟨week, second, tick, -, -, -, -⟩ := range
  have ticks := c.correction.advance_le
  simp only [Config.minutesPerWeek, Config.ticksPerSecond] at week tick
  simp only [Clock.position, ticksPerWeek, Config.minutesPerWeek, Config.ticksPerSecond]
  rcases c.count_cases with ⟨within, h⟩ | ⟨past, minute, h⟩ | ⟨past, minute, h⟩ <;> simp only [h] <;> omega

/-- The day count moves at the midnights alone. -/
theorem Clock.count_dayCount {c : Clock} (range : c.InRange) :
    c.count.dayCount =
      if c.count.weekMinute ≠ c.weekMinute ∧ c.count.weekMinute % 1440 = 0 then (c.dayCount + 1) % 65536
      else c.dayCount := by
  have week := range.weekMinute
  simp only [Config.minutesPerWeek] at week
  rcases c.count_cases with ⟨-, h⟩ | ⟨-, -, h⟩ | ⟨-, -, h⟩ <;> simp only [h]
  · simp
  · simp
  · have moves : (c.weekMinute + 1) % 10080 ≠ c.weekMinute := by omega
    simp [moves]

/-- The week minute moves exactly where the second wraps. -/
theorem Clock.count_weekMinute (c : Clock) :
    c.count.weekMinute = if c.wraps then (c.weekMinute + 1) % 10080 else c.weekMinute := by
  unfold Clock.wraps
  simp only [Config.ticksPerSecond]
  rcases c.count_cases with ⟨within, h⟩ | ⟨past, minute, h⟩ | ⟨past, minute, h⟩ <;> rw [h]
  · simp [show ¬ 32768 ≤ c.tick + c.correction.advance by omega]
  · simp [show ¬ 59 ≤ c.second by omega]
  · simp [past, minute]

/-- A cycle raises a mark by its ticks alone (R4). -/
theorem Clock.marks_iff (c : Clock) : c.marks = true ↔ c.tick / 8192 ≠ (c.tick + c.correction.advance) / 8192 := by
  unfold Clock.marks
  exact decide_eq_true_iff

/-- A cycle raises a mark exactly where the tick enters another quarter of its second (R4). -/
theorem Clock.marks_iff_count {c : Clock} (range : c.InRange) : c.marks = true ↔ c.count.tick / 8192 ≠ c.tick / 8192 := by
  have tick := range.tick
  have ticks := c.correction.advance_le
  simp only [Config.ticksPerSecond] at tick
  rw [Clock.marks_iff]
  rcases c.count_cases with ⟨within, h⟩ | ⟨past, minute, h⟩ | ⟨past, minute, h⟩ <;> simp only [h] <;> omega

/-! ### Marks (R4, R5, R8) -/

/-- A mark moves the period's own figures alone. -/
@[simp] theorem Clock.raiseMark_keeps (c : Clock) (ch : Channel) :
    (c.raiseMark ch).state = c.state ∧ (c.raiseMark ch).weekMinute = c.weekMinute ∧
      (c.raiseMark ch).second = c.second ∧ (c.raiseMark ch).tick = c.tick ∧ (c.raiseMark ch).dayCount = c.dayCount ∧
      (c.raiseMark ch).trimA = c.trimA ∧ (c.raiseMark ch).trimKq = c.trimKq ∧ (c.raiseMark ch).trimT0 = c.trimT0 := by
  unfold Clock.raiseMark
  split <;> simp

/-- The mark raised after a count is the next of the period that the clock was in, or starts a new one. -/
theorem Clock.raiseMark_raised (c : Clock) (ch : Channel) :
    MarkRaised ch c (c.count.raiseMark ch) := by
  refine ⟨fun next => ?next, fun last => ?last, by simp⟩
  case next =>
    have within : c.mark + 1 < Config.marksPerPeriod := Nat.succ_lt_succ next
    simp [Clock.raiseMark, within, correctionFor]
  case last =>
    have starts : c.count.raiseMark ch = c.count.startPeriod ch := by
      simp [Clock.raiseMark, Config.marksPerPeriod, last]
    rw [starts]
    exact PeriodStarted.of_same (by simp) (by simp) (by simp) (by simp) (c.count.startPeriod_started ch)

/-! ### A whole cycle -/

/-- A cycle's counters are those of its count, whether or not it raises a mark. -/
@[simp] theorem Clock.cycle_keeps (c : Clock) (ch : Channel) :
    (c.cycle ch).state = c.state ∧ (c.cycle ch).weekMinute = c.count.weekMinute ∧
      (c.cycle ch).second = c.count.second ∧ (c.cycle ch).tick = c.count.tick ∧
      (c.cycle ch).dayCount = c.count.dayCount ∧ (c.cycle ch).trimA = c.trimA ∧ (c.cycle ch).trimKq = c.trimKq ∧
      (c.cycle ch).trimT0 = c.trimT0 := by
  unfold Clock.cycle
  split <;> simp

theorem Clock.cycle_of_marks {c : Clock} (ch : Channel) (h : c.marks = true) : c.cycle ch = c.count.raiseMark ch := if_pos h

theorem Clock.cycle_of_not_marks {c : Clock} (ch : Channel) (h : ¬ c.marks = true) : c.cycle ch = c.count := if_neg h

theorem Clock.cycle_position {c : Clock} (ch : Channel) (range : c.InRange) :
    (c.cycle ch).position = (c.position + c.correction.advance) % ticksPerWeek := by
  rw [← Clock.count_position range]
  simp [Clock.position]

/-- A minute boundary leaves the week minute another. -/
theorem Clock.cycle_weekMinute_of_wraps {c : Clock} (ch : Channel) (range : c.InRange) (h : c.wraps = true) :
    (c.cycle ch).weekMinute ≠ c.weekMinute := by
  have week := range.weekMinute
  simp only [Config.minutesPerWeek] at week
  simp only [Clock.cycle_keeps, Clock.count_weekMinute, h, if_true]
  omega

/-- The cycle that ends a minute exactly is the one that the clock sent to the minute's end takes. -/
theorem Clock.toMinuteEnd_cycle {c : Clock} (ch : Channel) (range : c.InRange) (second : c.second = 59)
    (last : c.tick + c.correction.advance = 32768) :
    (c.toMinuteEnd ch).wraps = true ∧ c.wraps = true ∧ (c.toMinuteEnd ch).cycle ch = c.cycle ch := by
  have tick : c.tick < 32768 := range.tick
  have ticks := c.correction.advance_le
  have noneLeft : c.marksLeft = 0 := by
    simp only [Clock.marksLeft, Config.ticksPerQuarter]
    omega
  have atEnd : c.toMinuteEnd ch = { c with tick := 32767, correction := .plain } := by
    simp [Clock.toMinuteEnd, noneLeft, Clock.raiseMarks, Config.ticksPerSecond, ← second]
  have marks : c.marks = true := c.marks_iff.2 (by omega)
  have marksAtEnd : (c.toMinuteEnd ch).marks = true := by
    rw [atEnd, Clock.marks_iff]
    show 32767 / 8192 ≠ (32767 + 1) / 8192
    decide
  have count : (c.toMinuteEnd ch).count = c.count := by
    simp only [atEnd, Clock.count, Config.ticksPerSecond, last]
    rfl
  refine ⟨?_, ?_, ?_⟩
  · simp [atEnd, Clock.wraps, Config.ticksPerSecond, Correction.advance, second]
  · simp [Clock.wraps, Config.ticksPerSecond, last, second]
  · rw [Clock.cycle_of_marks ch marks, Clock.cycle_of_marks ch marksAtEnd, count]

/-- The clock sent to the last tick of its quarter raises a mark by its next cycle. -/
theorem Clock.toQuarterEnd_marks (c : Clock) : c.toQuarterEnd.marks = true := by
  rw [Clock.marks_iff]
  simp only [Clock.toQuarterEnd, Config.ticksPerQuarter, Correction.advance]
  omega

/-! ### Ranges -/

theorem clampCv_natAbs (v : Int) : (clampCv v).natAbs ≤ 1023 := by
  simp only [clampCv, clampZ]
  omega

/-- A period start keeps the counters in range, whatever Cv and correction the clock came with. -/
theorem Clock.startPeriod_inRange {c : Clock} (ch : Channel) (week : c.weekMinute < 10080) (second : c.second < 60)
    (tick : c.tick < 32768) (day : c.dayCount < 65536) : (c.startPeriod ch).InRange where
  weekMinute := by simpa [Config.minutesPerWeek] using week
  second := by simpa using second
  tick := by simpa [Config.ticksPerSecond] using tick
  dayCount := by simpa using day
  mark := by simp [Clock.startPeriod, Config.marksPerPeriod]
  cv := clampCv_natAbs _
  correction := .inr rfl

theorem Clock.raiseMark_inRange {c : Clock} (ch : Channel) (range : c.InRange) : (c.raiseMark ch).InRange := by
  unfold Clock.raiseMark
  split
  · rename_i within
    exact { range with mark := within, correction := .inr rfl }
  · exact Clock.startPeriod_inRange ch range.weekMinute range.second range.tick range.dayCount

theorem Clock.raiseMarks_inRange {c : Clock} (ch : Channel) (n : Nat) (range : c.InRange) :
    (Clock.raiseMarks ch n c).InRange := by
  induction n generalizing c with
  | zero => exact range
  | succ n ih => exact ih (Clock.raiseMark_inRange ch range)

theorem Clock.raiseMarks_state (c : Clock) (ch : Channel) (n : Nat) : (Clock.raiseMarks ch n c).state = c.state := by
  induction n generalizing c with
  | zero => rfl
  | succ n ih => exact (ih _).trans (by simp)

theorem Clock.count_inRange {c : Clock} (range : c.InRange) : c.count.InRange := by
  have tick := range.tick
  have day := range.dayCount
  have ticks := c.correction.advance_le
  simp only [Config.ticksPerSecond] at tick
  rcases c.count_cases with ⟨within, h⟩ | ⟨past, minute, h⟩ | ⟨past, minute, h⟩ <;> rw [h]
  · exact { range with tick := within, correction := .inl rfl }
  · exact
      { range with
        second := show c.second + 1 < 60 by omega
        tick := show _ - 32768 < 32768 by omega
        correction := .inl rfl }
  · exact
      { range with
        weekMinute := Nat.mod_lt _ (by decide)
        second := show 0 < 60 by decide
        tick := show _ - 32768 < 32768 by omega
        dayCount := by dsimp only; split <;> omega
        correction := .inl rfl }

theorem Clock.cycle_inRange {c : Clock} (ch : Channel) (range : c.InRange) : (c.cycle ch).InRange := by
  unfold Clock.cycle
  split
  · exact Clock.raiseMark_inRange ch (Clock.count_inRange range)
  · exact Clock.count_inRange range

theorem Clock.toQuarterEnd_inRange {c : Clock} (range : c.InRange) : c.toQuarterEnd.InRange := by
  have tick := range.tick
  refine { range with tick := ?_, correction := .inl rfl }
  simp only [Clock.toQuarterEnd, Config.ticksPerSecond, Config.ticksPerQuarter] at tick ⊢
  omega

theorem Clock.toMinuteEnd_inRange {c : Clock} (ch : Channel) (range : c.InRange) : (c.toMinuteEnd ch).InRange :=
  { Clock.raiseMarks_inRange ch c.marksLeft range with
    second := show 59 < 60 by decide
    tick := show 32768 - 1 < 32768 by decide
    correction := .inl rfl }

theorem Clock.atPowerOn_inRange (cfg : WorkingConfig) : (Clock.atPowerOn cfg).InRange where
  weekMinute := show 0 < 10080 by decide
  second := show 0 < 60 by decide
  tick := show 0 < 32768 by decide
  dayCount := show 0 < 65536 by decide
  mark := show 0 < 1024 by decide
  cv := clampCv_natAbs _
  correction := .inr rfl

end Sys2Proof.Machine
end

section
/-! SUPPORT. What each step makes of the clock: nothing but a cycle, SET_CLOCK, SET_TRIM and a power-on moves it, and each keeps
its ranges and leaves it RUNNING. -/

namespace Sys2Proof.Machine

/-! ### What one clock makes of another -/

/-- Clock b is in its ranges where a is, and RUNNING where a is. -/
def Clock.Leads (a b : Clock) : Prop := (a.InRange → b.InRange) ∧ (a.state = .running → b.state = .running)

theorem Clock.Leads.of_eq {a b : Clock} (h : b = a) : a.Leads b := by
  subst h
  exact ⟨id, id⟩

theorem Clock.Leads.trans {a b c : Clock} (first : a.Leads b) (second : b.Leads c) : a.Leads c :=
  ⟨second.1 ∘ first.1, second.2 ∘ first.2⟩

theorem Clock.cycle_leads (c : Clock) (ch : Channel) : c.Leads (c.cycle ch) :=
  ⟨Clock.cycle_inRange ch, fun running => by simpa using running⟩

theorem Clock.toQuarterEnd_leads (c : Clock) : c.Leads c.toQuarterEnd := ⟨Clock.toQuarterEnd_inRange, id⟩

theorem Clock.toMinuteEnd_leads (c : Clock) (ch : Channel) : c.Leads (c.toMinuteEnd ch) :=
  ⟨Clock.toMinuteEnd_inRange ch, fun running => (Clock.raiseMarks_state c ch c.marksLeft).trans running⟩

theorem Clock.set_leads (c : Clock) {m sec days : Nat} (ch : Channel) (week : m < 10080) (second : sec < 60)
    (day : days < 65536) : c.Leads (c.set m sec days ch) :=
  ⟨fun _ => Clock.startPeriod_inRange ch week second (show 0 < 32768 by decide) day, fun _ => rfl⟩

/-- A trim joins the period that runs at its next start only (R10). -/
theorem Clock.withTrim_leads (c : Clock) (a : Int) (kq t0 : Nat) : c.Leads (c.withTrim a kq t0) :=
  ⟨fun range => { range with }, id⟩

/-! ### Operations over the part -/

/-- A cycle of the part is a cycle of its clock. -/
@[simp] theorem Part.cycle_clock (s : Part) : s.cycle.clock = s.clock.cycle s.boardChannel := by
  unfold Part.cycle
  split <;> simp

/-- A cycle without a minute boundary moves nothing but the clock. -/
theorem Part.cycle_of_not_wraps {s : Part} (h : ¬ s.clock.wraps = true) :
    s.cycle = { s with clock := s.clock.cycle s.boardChannel } := if_neg h

/-- A cycle with a minute boundary. -/
theorem Part.cycle_of_wraps {s : Part} (h : s.clock.wraps = true) :
    s.cycle = Part.boundary { s with clock := s.clock.cycle s.boardChannel } := if_pos h

@[simp] theorem Part.setClock_clock (s : Part) (m sec days : Nat) :
    (s.setClock m sec days).clock = s.clock.set m sec days s.boardChannel := by
  simp [Part.setClock]

/-- SET_CLOCK's clamps lie within the ranges of the counters (R11). -/
theorem clockOperands_inRange (m : Half) (sec : Byte) (days : Half) :
    (clockOperands m sec days).1.1 < 10080 ∧ (clockOperands m sec days).1.2.1 < 60 ∧
      (clockOperands m sec days).1.2.2 < 65536 := by
  have day := days.isLt
  simp only [clockOperands, clampN_zero]
  omega

theorem Part.doSetClock_leads (m : Half) (sec : Byte) (days : Half) (s : Part) :
    s.clock.Leads (Part.doSetClock m sec days s).1.clock := by
  obtain ⟨week, second, day⟩ := clockOperands_inRange m sec days
  simp only [Part.doSetClock, Part.setClock_clock]
  exact s.clock.set_leads _ week second day

theorem Part.doSetTrim_leads (a : Half) (kq t0 : Byte) (s : Part) :
    s.clock.Leads (Part.doSetTrim a kq t0 s).1.clock := by
  unfold Part.doSetTrim Part.configWrite
  split
  · exact .of_eq rfl
  · exact s.clock.withTrim_leads _ _ _

/-- Of the requests SET_CLOCK and SET_TRIM alone move the clock. -/
theorem Part.serve_leads (i : Instr) (s : Part) : s.clock.Leads (s.serve i).1.clock := by
  cases i
  case setClock tag m sec days => exact Part.doSetClock_leads m sec days s
  case setTrim tag a kq t0 => exact Part.doSetTrim_leads a kq t0 s
  all_goals exact .of_eq (by simp [Part.serve])

theorem Part.actOn_leads (d : Decoded) (s : Part) : s.clock.Leads (s.actOn d).1.clock := by
  cases d with
  | request i => exact s.serve_leads i
  | refuse code field => exact .of_eq rfl
  | refuseWrite code field => exact .of_eq (Part.configWrite_clock s _ fun _ => rfl)

/-- What becomes of the request in hand is not the clock's. -/
@[simp] theorem Part.settle_clock (tag kind : Byte) (r : Part × Verdict) : (Part.settle tag kind r).clock = r.1.clock := by
  unfold Part.settle
  split <;> rfl

/-- A request taken moves the clock as its owner's work does. -/
theorem Part.take_leads (s : Part) (tag kind : Byte) {act : Part → Part × Verdict}
    (h : ∀ p : Part, p.clock.Leads (act p).1.clock) : s.clock.Leads (s.take tag kind act).clock := by
  unfold Part.take
  rw [Part.settle_clock]
  exact h { s with link := { s.link with inHand := some (tag, kind) } }

theorem Part.takeBody_leads (s : Part) (body : List Byte) : s.clock.Leads (s.takeBody body).clock :=
  s.take_leads _ _ (Part.actOn_leads (decodeRequest body))

theorem Part.pumpFrom_leads (bodies : List (List Byte)) (s : Part) : s.clock.Leads (Part.pumpFrom bodies s).clock := by
  induction bodies generalizing s with
  | nil => exact .of_eq rfl
  | cons body rest ih =>
    unfold Part.pumpFrom
    split
    · exact .of_eq rfl
    · exact (Part.takeBody_leads { s with link := { s.link with holding := rest } } body).trans (ih _)

theorem Part.receiveBody_leads (s : Part) (body : List Byte) : s.clock.Leads (s.receiveBody body).clock :=
  Part.pumpFrom_leads _ { s with link := s.link.hold body }

theorem Part.receiveByte_leads (s : Part) (b : Byte) : s.clock.Leads (s.receiveByte b).clock := by
  simp only [Part.receiveByte]
  split
  · exact Part.receiveBody_leads { s with link := (s.link.receiveByte b).1 } _
  · exact .of_eq rfl

theorem Part.receiveBytes_leads (bytes : List Byte) (s : Part) :
    s.clock.Leads (bytes.foldl Part.receiveByte s).clock := by
  induction bytes generalizing s with
  | nil => exact .of_eq rfl
  | cons b rest ih => exact (s.receiveByte_leads b).trans (ih _)

theorem Part.request_leads (s : Part) (i : Instr) (tag kind : Byte) :
    s.clock.Leads (s.request i tag kind (Part.serve i)).clock := by
  unfold Part.request
  split
  · exact s.take_leads tag kind (Part.serve_leads i)
  · exact s.receiveBody_leads _

/-- A restart keeps the clock (R199). -/
@[simp] theorem Part.restarted_clock (s : Part) : s.restarted.clock = s.clock := by
  simp only [Part.restarted]
  split <;> simp [Part.started]

theorem Part.frameSent_leads (s : Part) : s.clock.Leads s.frameSent.clock := by
  unfold Part.frameSent
  split
  · exact .of_eq s.restarted_clock
  · exact Part.pumpFrom_leads _ { s with link := s.link.frameEnds }

@[simp] theorem Part.takeRestart_clock (s : Part) : s.takeRestart.clock = s.clock := by
  unfold Part.takeRestart
  split <;> simp

/-! ### Every command -/

/-- A command that acts moves the clock as its operation does. -/
theorem Clock.Leads.of_act {s t : State} {f : Part → Part} (h : s.act f = .next t)
    (moves : ∀ p : Part, p.clock.Leads (f p).clock) : s.part.clock.Leads t.part.clock := by
  rcases State.act_cases h with ⟨-, held⟩ | ⟨-, ran⟩
  · exact .of_eq (by rw [held])
  · rw [ran]
    exact moves s.part

/-- Every command but POWER_ON keeps the clock's ranges and leaves it RUNNING. -/
theorem exec_leads {c : Instr} {s t : State} (h : exec c s = .next t) (starts : ∀ straps reads, c ≠ .powerOn straps reads) :
    s.part.clock.Leads t.part.clock := by
  cases request : inCatalogue c
  case true =>
    rw [exec_request c s request] at h
    exact .of_act h fun p => p.request_leads c _ _
  case false =>
    cases c <;> simp [inCatalogue, encodeRequest] at request
    case powerOn straps reads => exact absurd rfl (starts straps reads)
    case resetAsserted =>
      rw [exec_resetAsserted] at h
      cases h
      exact .of_eq rfl
    case linkFrameReceived length body high low =>
      exact .of_act ((exec_linkFrameReceived length body high low s).symm.trans h) (Part.receiveBytes_leads _)
    case linkByteReceived byte => exact .of_act ((exec_linkByteReceived byte s).symm.trans h) (Part.receiveByte_leads · byte)
    case requestUnknownKind kind tag fields =>
      exact .of_act ((exec_requestUnknownKind kind tag fields s).symm.trans h) (Part.receiveBody_leads · _)
    case linkFrameSent => exact .of_act ((exec_linkFrameSent s).symm.trans h) Part.frameSent_leads
    case crystalCycle =>
      exact .of_act ((exec_crystalCycle s).symm.trans h) fun p => p.cycle_clock ▸ p.clock.cycle_leads _
    case correctionCycle =>
      exact .of_act ((exec_correctionCycle s).symm.trans h) fun p => p.cycle_clock ▸ p.clock.cycle_leads _
    case quarterSecondMark =>
      refine .of_act ((exec_quarterSecondMark s).symm.trans h) fun p => ?_
      rw [Part.cycle_clock]
      exact p.clock.toQuarterEnd_leads.trans (Clock.cycle_leads _ _)
    case minuteBoundary =>
      refine .of_act ((exec_minuteBoundary s).symm.trans h) fun p => ?_
      rw [Part.cycle_clock]
      exact (p.clock.toMinuteEnd_leads _).trans (Clock.cycle_leads _ _)
    case stationFrameRejected heard =>
      exact .of_act ((exec_stationFrameRejected heard s).symm.trans h) fun p => .of_eq (p.receive_keeps heard).1
    all_goals
      simp only [exec_linkGapTimeout, exec_saveComplete, exec_restartEffect, exec_zoneEvaluation,
        exec_evaluationTimerExpiry, exec_freezeGuardEdge, exec_presenceTimerExpiry, exec_runOnExpiry,
        exec_scanTimerExpiry, exec_fastScanTimerExpiry, exec_conversionComplete, exec_validAgeSecond,
        exec_gasConversion, exec_holdCheck, exec_groupDemandCompute, exec_frameStart, exec_arbitrationLost,
        exec_doorReport, exec_hello, exec_statusReport, exec_presenceReport, exec_answerSent, exec_queryAnswer,
        exec_setOutputsAnswer, exec_noAnswer, exec_lineRest, exec_lineClearReceived, exec_lineStuck, exec_stuckRelease,
        exec_lineDead, exec_deadProbe, exec_drivingEdge, exec_silenceTimerExpiry, exec_probeTimerExpiry,
        exec_doorSecondTick, exec_phaseHandoffDoorLine, exec_allocationPass, exec_spacingTimerExpiry, exec_minOnExpiry,
        exec_minOffExpiry, exec_capExpiry, exec_outputRefreshLatch, exec_periodicRefresh, exec_dimPeriodStart] at h
      exact .of_act h fun p => .of_eq (by simp [apply_ite Part.clock])

/-- A step takes the command at the front of the queue. -/
theorem step_of_front {s : State} {c : Instr} {rest : List Instr} (front : s.pending = c :: rest) :
    step s = exec c { s with pending := rest } := by
  rw [step, front]

/-- A step with no command waiting lets a second pass. -/
theorem step_of_empty {s : State} (empty : s.pending = []) : step s = .next s.idle := by
  rw [step, empty]

@[simp] theorem State.idle_clock (s : State) : s.idle.part.clock = s.part.clock := by
  unfold State.idle
  split <;> simp

/-- A step that takes no POWER_ON keeps the clock's ranges and leaves it RUNNING; a second on an empty queue moves no clock. -/
theorem step_leads {s t : State} (h : step s = .next t)
    (starts : ¬ ∃ rest straps reads, s.pending = .powerOn straps reads :: rest) : s.part.clock.Leads t.part.clock := by
  cases front : s.pending with
  | nil =>
    rw [step_of_empty front] at h
    cases h
    exact .of_eq s.idle_clock
  | cons c rest =>
    rw [step_of_front front] at h
    exact exec_leads (s := { s with pending := rest }) h fun straps reads power =>
      starts ⟨rest, straps, reads, power ▸ front⟩

/-- Settles O21: every step but POWER_ON keeps the ranges and a RUNNING clock, and POWER_ON starts a clock within them. -/
theorem theClockStaysInRangeAndRunning : Obligations.TheClockStaysInRangeAndRunning := by
  intro s t h range
  by_cases starts : ∃ rest straps reads, s.pending = .powerOn straps reads :: rest
  · refine ⟨?_, fun _ => .inr starts⟩
    obtain ⟨rest, straps, reads, front⟩ := starts
    rw [step_of_front front, exec_powerOn] at h
    cases h
    exact Clock.atPowerOn_inRange _
  · obtain ⟨ranges, runs⟩ := step_leads h starts
    exact ⟨ranges range, fun running => .inl (runs running)⟩

end Sys2Proof.Machine
end

section
/-! SUPPORT. The statements of crystal cycles, marks and the trim (R1 to R10). -/

namespace Sys2Proof.Machine

/-! ### Cycles and marks -/

/-- A cycle that makes no minute boundary leaves every record but the clock. -/
theorem Part.cycle_within_minute {s : Part} (range : s.clock.InRange)
    (same : s.cycle.clock.weekMinute = s.clock.weekMinute) : s.cycle = { s with clock := s.cycle.clock } := by
  have stays : ¬ s.clock.wraps = true := fun wraps =>
    Clock.cycle_weekMinute_of_wraps s.boardChannel range wraps (by simpa using same)
  rw [Part.cycle_clock]
  exact Part.cycle_of_not_wraps stays

/-- The two rows of a crystal cycle are one (R1, R8). -/
theorem exec_cycle {c : Instr} (s : State) (row : c = .crystalCycle ∨ c = .correctionCycle) :
    exec c s = s.act Part.cycle := by
  rcases row with rfl | rfl
  · exact exec_crystalCycle s
  · exact exec_correctionCycle s

/-- The cycle that ends a minute exactly is the minute boundary's row (R2). -/
theorem exec_cycle_at_minuteEnd {c : Instr} {s : State} (row : c = .crystalCycle ∨ c = .correctionCycle)
    (range : s.part.clock.InRange) (second : s.part.clock.second = 59)
    (last : s.part.clock.tick + s.part.clock.correction.advance = 32768) : exec c s = exec .minuteBoundary s := by
  obtain ⟨wrapsAtEnd, wraps, cycle⟩ := Clock.toMinuteEnd_cycle s.part.boardChannel range second last
  have same : Part.cycle { s.part with clock := s.part.clock.toMinuteEnd s.part.boardChannel } = s.part.cycle := by
    rw [Part.cycle_of_wraps wraps, Part.cycle_of_wraps wrapsAtEnd]
    exact congrArg (fun c => Part.boundary { s.part with clock := c }) cycle
  rw [exec_cycle s row, exec_minuteBoundary]
  simp only [State.act, same]

/-- A cycle that stays in its quarter moves the tick alone. -/
theorem Clock.cycle_of_same_quarter {c : Clock} (ch : Channel) (range : c.InRange)
    (same : (c.cycle ch).tick / 8192 = c.tick / 8192) :
    c.cycle ch = { c with tick := c.tick + c.correction.advance, correction := .plain } := by
  have counts : c.count.tick / 8192 = c.tick / 8192 := by simpa using same
  have tick : c.tick < 32768 := range.tick
  have ticks := c.correction.advance_le
  rw [Clock.cycle_of_not_marks ch fun marks => (Clock.marks_iff_count range).1 marks counts]
  rcases c.count_cases with ⟨-, h⟩ | ⟨past, -, h⟩ | ⟨past, -, h⟩
  · exact h
  all_goals
    rw [h] at counts
    dsimp only at counts
    omega

/-- A cycle that enters another quarter raises its mark. -/
theorem Clock.cycle_raised {c : Clock} (ch : Channel) (range : c.InRange)
    (enters : (c.cycle ch).tick / 8192 ≠ c.tick / 8192) : MarkRaised ch c (c.cycle ch) := by
  rw [Clock.cycle_of_marks ch ((Clock.marks_iff_count range).2 (by simpa using enters))]
  exact c.raiseMark_raised ch

/-- Settles O29: the position by the count, the mark by the quarter of the tick, the rest of the part by the boundary. -/
theorem aCrystalCycleAdvancesTheTick : Obligations.ACrystalCycleAdvancesTheTick := by
  intro s c row runs range
  dsimp only
  refine Ends.of_act (exec_cycle s row) runs ?_
  rw [Part.close_clock, Part.cycle_clock]
  refine ⟨Clock.cycle_position _ range, by simp, ?day, Clock.cycle_of_same_quarter _ range, Clock.cycle_raised _ range,
    exec_cycle_at_minuteEnd row range, fun same => ?alone⟩
  case day => simpa using Clock.count_dayCount range
  case alone =>
    rw [← Part.cycle_clock] at same ⊢
    exact congrArg Part.close (Part.cycle_within_minute range same)

/-! ### The row of a mark -/

/-- The cycle that ends a quarter ends it wherever the tick stood in it. -/
theorem Clock.toQuarterEnd_cycle_position {c : Clock} (ch : Channel) (range : c.InRange) :
    (c.toQuarterEnd.cycle ch).position = (c.position / 8192 + 1) * 8192 % ticksPerWeek := by
  have atEnd : c.toQuarterEnd.position + 1 = (c.position / 8192 + 1) * 8192 := by
    simp only [Clock.position, Clock.toQuarterEnd, Config.ticksPerSecond, Config.ticksPerQuarter]
    omega
  rw [Clock.cycle_position ch (Clock.toQuarterEnd_inRange range), ← atEnd]
  rfl

/-- The cycle that ends a quarter raises the next mark of the period. -/
theorem Clock.toQuarterEnd_cycle_raised (c : Clock) (ch : Channel) : MarkRaised ch c (c.toQuarterEnd.cycle ch) := by
  rw [Clock.cycle_of_marks ch c.toQuarterEnd_marks]
  exact c.toQuarterEnd.raiseMark_raised ch

/-- Settles O30: the mark's own cycle, taken from the last tick of its quarter. -/
theorem aQuarterSecondMarkIsRaised : Obligations.AQuarterSecondMarkIsRaised := by
  intro s runs range
  dsimp only
  refine Ends.of_act (exec_quarterSecondMark s) runs ?_
  rw [Part.close_clock, Part.cycle_clock]
  refine ⟨Clock.toQuarterEnd_cycle_position _ range, Clock.toQuarterEnd_cycle_raised _ _, fun same => ?alone⟩
  case alone =>
    rw [← Part.cycle_clock] at same ⊢
    exact congrArg Part.close (Part.cycle_within_minute (Clock.toQuarterEnd_inRange range) same)

/-! ### The trim (R10) -/

/-- SET_TRIM's fields are clamped, the first field cut being A's or T0's. -/
theorem trimOperands_eq (a : Half) (kq t0 : Byte) :
    trimOperands a kq t0 = ((max (-512) (min 511 a.toInt), kq.toNat, min t0.toNat 63),
      if a.toInt < -512 ∨ 511 < a.toInt then 1 else if 63 < t0.toNat then 3 else 0) := by
  simp only [trimOperands, clampN_zero, outside_zero, outsideZ_eq _ _ _ (show (-512 : Int) ≤ 511 by decide), clampZ, signed,
    firstCut, decide_eq_true_eq, Nat.min_comm 63]
  rfl

/-- SET_TRIM's owner stores the clamped trim, no save running (R10, R191). -/
theorem Part.doSetTrim_done (s : Part) (a : Half) (kq t0 : Byte) (save : s.link.saving = none) :
    Part.doSetTrim a kq t0 s =
      ({ s with clock := s.clock.withTrim (max (-512) (min 511 a.toInt)) kq.toNat (min t0.toNat 63) }.markUnsaved,
        .done (if a.toInt < -512 ∨ 511 < a.toInt then 1 else if 63 < t0.toNat then 3 else 0) []) := by
  simp only [Part.doSetTrim, trimOperands_eq]
  rw [Part.configWrite_done save]
  rfl

/-- SET_TRIM is taken: the clamped trim stands in the clock, changed and unsaved (R10, R191). -/
theorem setTrim_answers {s : State} (tag : Byte) (a : Half) (kq t0 : Byte) (w : s.Writable) :
    AnswersWith (.setTrim tag a kq t0) s tag 0x04
      (.done (if a.toInt < -512 ∨ 511 < a.toInt then 1 else if 63 < t0.toNat then 3 else 0) [])
      { s.part with
        clock := s.part.clock.withTrim (max (-512) (min 511 a.toInt)) kq.toNat (min t0.toNat 63)
        link := { s.part.link with unsaved := true } } := by
  refine AnswersWith.of_serve rfl rfl rfl w.ready (by simp) ?_ ⟨rfl, rfl, rfl⟩
  exact Part.doSetTrim_done (s.part.taken tag 0x04) a kq t0 w.noSave

/-- SET_TRIM is refused BUSY while a save runs (R191). -/
theorem setTrim_busy {s : State} (tag : Byte) (a : Half) (kq t0 : Byte) (r : s.Ready)
    (saves : s.part.link.saving.isSome = true) :
    AnswersWith (.setTrim tag a kq t0) s tag 0x04 (.refused .busy 0) s.part :=
  AnswersWith.of_serve rfl rfl rfl r (by simp) (if_pos saves) ⟨rfl, rfl, rfl⟩

end Sys2Proof.Machine
end

section
/-! SUPPORT. The hand-off of the zones to their consumers, and of the window limit to the load budget: what they leave to be
taken, what is taken up at once, and the notices between (R34, R39, R40). -/

namespace Sys2Proof.Machine

/-! ### Notices of several pieces of an event -/

theorem Link.mask_of_still {l m : Link} (h : l.still = m.still) : l.mask = m.mask := by
  change l.still.mask = m.still.mask
  rw [h]

theorem Link.transmitter_of_still {l m : Link} (h : l.still = m.still) : l.transmitter = m.transmitter := by
  change l.still.transmitter = m.still.transmitter
  rw [h]

/-- What joins the notices on their way out joins the queue, where the frame being sent stays. -/
theorem Link.notices_of_unsent {l m : Link} {new : List Notice} (sending : m.transmitter = l.transmitter)
    (joins : m.unsent = l.unsent ++ new) : m.notices = l.notices ++ new := by
  simp only [Link.unsent, sending, List.append_assoc] at joins
  exact List.append_cancel_left joins

/-- Between p and q at most n notices are created, all BUDGET, where the queue has places for n. -/
def PostsBudget (n : Nat) (p q : Part) : Prop :=
  p.link.notices.length + n ≤ Config.noticePlaces →
    ∃ budget : List Notice, budget.length ≤ n ∧ (∀ x ∈ budget, x.kind = .budget) ∧
      q.link.unsent = p.link.unsent ++ budget

theorem PostsBudget.nothing {p q : Part} (n : Nat) (h : q.link.unsent = p.link.unsent) : PostsBudget n p q :=
  fun _ => ⟨[], by simp [h]⟩

/-- One posting of kind BUDGET. -/
theorem PostsBudget.of_post (s : Part) (subject : Nat) (detail : List Byte) :
    PostsBudget 1 s (s.post .budget subject detail) := by
  intro room
  have few := List.length_filter_le (fun w : Posting => s.link.mask.getLsbD (w.kind.code - 1))
    [{ kind := .budget, subject := subject, detail := detail }]
  refine ⟨_, ?_, ?_, Posts.post s .budget subject detail ?_⟩
  · simpa [admitted] using few
  · intro x created
    obtain ⟨w, member, rfl⟩ := List.mem_map.1 created
    have which := List.mem_of_mem_filter member
    rw [List.mem_singleton.1 which]
    rfl
  · exact Nat.le_trans (Nat.add_le_add_left few _) room

/-- What two pieces of an event create, one after the other. -/
theorem PostsBudget.trans {a b : Nat} {p q r : Part} (first : PostsBudget a p q) (second : PostsBudget b q r)
    (sending : q.link.transmitter = p.link.transmitter) : PostsBudget (a + b) p r := by
  intro room
  obtain ⟨one, few, kinds, joins⟩ := first (by omega)
  have waits := Link.notices_of_unsent sending joins
  obtain ⟨two, few', kinds', joins'⟩ := second (by rw [waits, List.length_append]; omega)
  refine ⟨one ++ two, by simp; omega, fun x member => ?_, by rw [joins', joins, List.append_assoc]⟩
  rcases List.mem_append.1 member with h | h
  · exact kinds x h
  · exact kinds' x h

/-- An event whose first notices, BUDGET notices and last notices follow each other. -/
theorem PostsAround.of_pieces {v w : List Posting} {n : Nat} {p q r t : Part} (first : Posts v p q)
    (passes : PostsBudget n q r) (last : Posts w r t)
    (mask : r.link.mask = p.link.mask)
    (sending : q.link.transmitter = p.link.transmitter) (sending' : r.link.transmitter = p.link.transmitter)
    (clock : q.clock = t.clock) : PostsAround v n w p t := by
  intro room
  dsimp only at room ⊢
  simp only [List.length_map] at room
  have joins := first (by omega)
  have waits := Link.notices_of_unsent sending joins
  obtain ⟨budget, few, kinds, joins'⟩ := passes (by rw [waits, List.length_append, List.length_map]; omega)
  have waits' := Link.notices_of_unsent (sending'.trans sending.symm) joins'
  have joins'' := last (by rw [waits', waits, mask]; simp only [List.length_append, List.length_map]; omega)
  refine ⟨budget, few, kinds, ?_⟩
  rw [joins'', joins', joins, mask, clock]

/-- A queue that takes a notice ends with it, whether or not the oldest is lost (R193). -/
@[simp] theorem enqueueNotice_getLast? (queue : List Notice) (n : Notice) : (enqueueNotice queue n).getLast? = some n := by
  unfold enqueueNotice
  split <;> simp

/-- A notice that the mask admits stands last as it is posted, stamped from the clock (R15, R193). -/
theorem Part.post_last (s : Part) (kind : NoticeKind) (subject : Nat) (detail : List Byte)
    (admits : s.link.mask.getLsbD (kind.code - 1) = true) :
    (s.post kind subject detail).link.notices.getLast? =
      some (Posting.stamped { kind := kind, subject := subject, detail := detail } s.clock) := by
  simp [Part.post, admits, Posting.stamped, fourBytes]

/-! ### A pass of the load budget -/

/-- A pass leaves the limit inputs of the budget (R169, R171). -/
@[simp] theorem Budget.startFrom_window (queue : List Nat) (lb : Budget) : (lb.startFrom queue).window = lb.window := by
  induction queue generalizing lb with
  | nil => rfl
  | cons i rest ih =>
    unfold Budget.startFrom
    dsimp only
    split
    · exact ih _
    · rfl

@[simp] theorem Budget.allocate_window (lb : Budget) : lb.allocate.window = lb.window := by
  unfold Budget.allocate Budget.startEvent
  split
  · exact Budget.startFrom_window _ _
  · rfl

@[simp] theorem Part.driveOutputs_window (s : Part) (before : Budget) (queue : List Nat) :
    (s.driveOutputs before queue).lb.window = s.lb.window := by
  simp only [Part.driveOutputs, Budget.refresh]
  rw [Part.forEach_lb _ (by simp)]
  (repeat' split) <;> rfl

@[simp] theorem Part.budgetCheck_window (s : Part) : s.budgetCheck.lb.window = s.lb.window := by
  simp only [Part.budgetCheck]
  split <;> simp

@[simp] theorem Part.withTable_window (s : Part) (lb : Budget) : (s.withTable lb).lb.window = lb.window := by
  simp [Part.withTable]

/-- The check after a pass posts one BUDGET notice or none (R179). -/
theorem Part.budgetCheck_posts (s : Part) : PostsBudget 1 s s.budgetCheck := by
  simp only [Part.budgetCheck]
  split
  · exact .nothing 1 rfl
  · exact PostsBudget.of_post { s with lb := { s.lb with baseline := s.lb.refusedSet } } _ _

theorem Part.withTable_posts (s : Part) (lb : Budget) : PostsBudget 1 s (s.withTable lb) := by
  have same : (({ s with lb := lb.allocate } : Part).driveOutputs s.lb lb.settle.1.queue).link = s.link := by simp
  have posts := Part.budgetCheck_posts (({ s with lb := lb.allocate } : Part).driveOutputs s.lb lb.settle.1.queue)
  unfold PostsBudget at posts ⊢
  rwa [same] at posts

theorem Part.takeChange_posts (s : Part) (c : Change) : PostsBudget 1 s (s.takeChange c) := by
  simp only [Part.takeChange]
  split
  · exact s.withTable_posts _
  · exact .nothing 1 rfl

theorem Part.takeOldest_posts (s : Part) (c : Change) : PostsBudget 1 s (s.takeOldest c) := by
  unfold Part.takeOldest
  split
  · rename_i d rest _
    exact Part.takeChange_posts { s with due := rest } d
  · exact .nothing 1 rfl

@[simp] theorem Part.takeChange_window (s : Part) (c : Change) :
    (s.takeChange c).lb.window = (s.lb.store c).1.window := by
  simp only [Part.takeChange]
  split <;> simp

/-! ### Events due taken from the list -/

/-- The first event that meets p leaves the list; the others stay in their order. -/
theorem takeDue_of_waiting {p : Due → Bool} {due : List Due} (waits : 0 < due.countP p) :
    ∃ d rest, takeDue p due = some (d, rest) ∧ p d = true ∧ rest.countP p + 1 = due.countP p ∧
      rest.filter (!p ·) = due.filter (!p ·) := by
  induction due with
  | nil => simp at waits
  | cons e due ih =>
    cases met : p e with
    | true => exact ⟨e, due, by simp [takeDue, met], met, by simp [met], by simp [met]⟩
    | false =>
      obtain ⟨d, rest, taken, meets, count, others⟩ := ih (by simpa [met] using waits)
      exact ⟨d, e :: rest, by simp [takeDue, met, taken], meets, by simp [met, count], by simp [met, others]⟩

/-- The figure of a window limit is that of every window limit that waits. -/
theorem changes_window (limit : Option Nat) : Due.changes (.window limit) = waitingLimit := by
  funext d
  cases d with
  | budget c => cases c <;> rfl
  | _ => rfl

/-- A waiting window limit is taken: it alone leaves the list of due events. -/
theorem Part.takeOldest_due {s : Part} (limit : Option Nat) (waits : 0 < s.due.countP waitingLimit) :
    (s.takeOldest (.window limit)).due.countP waitingLimit + 1 = s.due.countP waitingLimit ∧
      (s.takeOldest (.window limit)).due.filter (!waitingLimit ·) = s.due.filter (!waitingLimit ·) := by
  obtain ⟨d, rest, taken, meets, count, others⟩ := takeDue_of_waiting waits
  cases d with
  | budget c => simp [Part.takeOldest, changes_window, taken, count, others]
  | _ => exact absurd meets Bool.false_ne_true

/-- n window limits taken one after another. -/
theorem Part.takeLimits_due (limit : Option Nat) (numbers : List Nat) (s : Part)
    (waits : s.due.countP waitingLimit = numbers.length) :
    (s.forEach numbers fun s _ => s.takeOldest (.window limit)).due = s.due.filter (!waitingLimit ·) := by
  induction numbers generalizing s with
  | nil =>
    refine (List.filter_eq_self.2 fun d member => ?_).symm
    simpa using List.countP_eq_zero.1 waits d member
  | cons n rest ih =>
    obtain ⟨count, others⟩ := Part.takeOldest_due limit (s := s) (by rw [waits]; exact Nat.succ_pos _)
    exact (ih (s.takeOldest (.window limit)) (by simp only [List.length_cons] at waits; omega)).trans others

theorem Part.takeLimits_posts (limit : Option Nat) (numbers : List Nat) (s : Part) :
    PostsBudget numbers.length s (s.forEach numbers fun s _ => s.takeOldest (.window limit)) := by
  induction numbers generalizing s with
  | nil => exact .nothing 0 rfl
  | cons n rest ih =>
    rw [List.length_cons, Nat.add_comm]
    exact (s.takeOldest_posts _).trans (ih _) (Link.transmitter_of_still (by simp))

/-! ### The limit window (R39, R40) -/

/-- A limit handed is in force, every limit that waited having been taken before it. -/
theorem Part.handWindow_hands (s : Part) (limit : Option Nat) :
    (s.handWindow limit).lb.window = limit ∧ (s.handWindow limit).due = s.due.filter (!waitingLimit ·) ∧
      PostsBudget (s.due.countP waitingLimit + 1) s (s.handWindow limit) := by
  simp only [Part.handWindow, changes_window]
  refine ⟨Part.takeChange_window _ _, ?_, ?_⟩
  · simp only [Part.takeChange_keeps]
    exact Part.takeLimits_due limit _ s List.length_range.symm
  · have older := Part.takeLimits_posts limit (List.range (s.due.countP waitingLimit)) s
    rw [List.length_range] at older
    refine older.trans (Part.takeChange_posts _ _) ?_
    exact Link.transmitter_of_still (by simp)

/-- The window limit in force as the clock stands. -/
def Part.windowNow (s : Part) : Option (Nat × Nat) := s.cal.running.activeWindow s.clock.state s.clock.weekMinute

/-- The window limit is computed and handed where it changes (R39, R40). -/
theorem Part.recomputeWindow_hands (s : Part) :
    s.recomputeWindow.cal =
        { s.cal with activeWindow := s.windowNow, handedLimit := s.windowNow.map (·.1) } ∧
      (s.windowNow.map (·.1) ≠ s.cal.handedLimit → s.recomputeWindow.lb.window = s.windowNow.map (·.1)) ∧
      s.recomputeWindow.due = limitsTaken s s.recomputeWindow s.due ∧
      PostsBudget (windowPasses s s.recomputeWindow) s s.recomputeWindow := by
  let computed : Part :=
    { s with cal := { s.cal with activeWindow := s.windowNow, handedLimit := s.windowNow.map (·.1) } }
  by_cases same : s.windowNow.map (·.1) = s.cal.handedLimit
  · have is : s.recomputeWindow = computed := if_pos same
    rw [is]
    exact ⟨rfl, fun h => absurd same h, (if_pos same).symm, .nothing _ rfl⟩
  · have is : s.recomputeWindow = computed.handWindow (s.windowNow.map (·.1)) := if_neg same
    have cal : (computed.handWindow (s.windowNow.map (·.1))).cal = computed.cal := by simp
    have limit := congrArg Calendar.handedLimit cal
    obtain ⟨window, due, posts⟩ := computed.handWindow_hands (s.windowNow.map (·.1))
    rw [is]
    refine ⟨cal, fun _ => window, ?_, ?_⟩
    · rw [limitsTaken, limit, if_neg same]
      exact due
    · rw [windowPasses, limit, if_neg same]
      exact posts

end Sys2Proof.Machine
end

section
/-! SUPPORT. The hand-off of every zone to its three consumers, in ascending order: what each leaves to be taken, what the zone
conditioner takes up at once, and the PHASE notices (R34, R130, R136). -/

namespace Sys2Proof.Machine

/-! ### One zone -/

/-- A zone's record after its hand-off from an old to a new standing: I cleared on the way into IDLE, and the light guard judged
(R130, R136). -/
def Zone.takenUp (zone : Zone) (old new : Standing) : Zone :=
  { zone with
    i := if new.phase = .idle ∧ old.phase ≠ .idle then 0 else zone.i
    lightGuard := decide (new.phase ≠ .idle) || zone.presence.isSome }

/-- What the hand-off of zone z from an old to a new standing leaves to be taken (R34, R136). -/
def Zone.leaves (zone : Zone) (copy : CalCopy) (z : Nat) (old new : Standing) : List Due :=
  (if zone.lightGuard = (zone.takenUp old new).lightGuard then []
    else [.budget (.lightGuard z (zone.takenUp old new).lightGuard)]) ++
    [.evaluate z, .demand zone.cfg.group, .doorLimit z (copy.doorLimit new) (shiftStart old new)]

theorem Part.zone_owe (s : Part) (d : Due) (z : Nat) : (s.owe d).zone z = s.zone z := rfl
theorem Part.due_owe (s : Part) (d : Due) : (s.owe d).due = s.due ++ [d] := rfl

theorem Part.handPhase_hands (s : Part) {z : Nat} (old : Standing) (hz : z < 12) :
    (s.handPhase z old).zone z = (s.zone z).takenUp old (s.effective z) ∧
      (∀ y, y ≠ z → (s.handPhase z old).zone y = s.zone y) ∧
      (s.handPhase z old).due = s.due ++ (s.zone z).leaves s.cal.running z old (s.effective z) := by
  obtain ⟨this, others, due⟩ := s.takePhase_hands z old.phase hz
  simp only [Part.handPhase, Part.zone_owe, Part.due_owe]
  refine ⟨this, others, ?_⟩
  rw [due]
  simp [Zone.leaves, Zone.takenUp, Part.guardHanded, Part.lightGuardOf]

/-- Zone z's record after it is handed from an old standing: where its standing changes, and always at a commit (R34). -/
def Part.zoneTold (s : Part) (old : Standing) (always : Bool) (z : Nat) : Zone :=
  if s.effective z ≠ old ∨ always = true then (s.zone z).takenUp old (s.effective z) else s.zone z

/-- What zone z leaves to be taken as it is handed from an old standing. -/
def Part.dueTold (s : Part) (old : Standing) (always : Bool) (z : Nat) : List Due :=
  if s.effective z ≠ old ∨ always = true then (s.zone z).leaves s.cal.running z old (s.effective z) else []

theorem Part.handZone_hands (s : Part) {z : Nat} (old : Standing) (always : Bool) (hz : z < 12) :
    (s.handZone z old always).zone z = s.zoneTold old always z ∧
      (∀ y, y ≠ z → (s.handZone z old always).zone y = s.zone y) ∧
      (s.handZone z old always).due = s.due ++ s.dueTold old always z := by
  unfold Part.zoneTold Part.dueTold
  obtain ⟨this, others, due⟩ := s.handPhase_hands old hz
  by_cases same : s.effective z = old
  · cases always with
    | false =>
      have is : s.handZone z old false = s := by simp [Part.handZone, same]
      simp [is, same]
    | true =>
      have is : s.handZone z old true = s.handPhase z old := by simp [Part.handZone, same]
      rw [is, if_pos (.inr rfl), if_pos (.inr rfl)]
      exact ⟨this, others, due⟩
  · have is : s.handZone z old always = (s.handPhase z old).postPhase z old := if_neg same
    have zone (y : Nat) : ((s.handPhase z old).postPhase z old).zone y = (s.handPhase z old).zone y := by
      simp [Part.zone]
    have dues : ((s.handPhase z old).postPhase z old).due = (s.handPhase z old).due := by simp
    rw [is, if_pos (.inl same), if_pos (.inl same), zone, dues]
    exact ⟨this, fun y hy => (zone y).trans (others y hy), due⟩

/-- The zone conditioner with these records of its zones. -/
def Conditioner.withZones (c : Conditioner) (zones : Vector Zone 12) : Conditioner := { c with zones := zones }

@[simp] theorem Part.setZone_withZones (s : Part) (z : Nat) (x : Zone) (zones : Vector Zone 12) :
    (s.setZone z x).zc.withZones zones = s.zc.withZones zones := rfl

/-- The hand-off of a zone moves the zones' records alone in the zone conditioner. -/
theorem Part.handZone_conditioner (s : Part) (z : Nat) (old : Standing) (always : Bool) (zones : Vector Zone 12) :
    (s.handZone z old always).zc.withZones zones = s.zc.withZones zones := by
  have handed : (s.handPhase z old).zc.withZones zones = s.zc.withZones zones := by
    simp only [Part.handPhase, Part.takePhase, Part.judgeLightGuard]
    (repeat' split) <;> simp
  unfold Part.handZone
  (repeat' split)
  · exact handed
  · rfl
  · simpa using handed

/-- What an event posts is told by the link port it starts from. -/
theorem Posts.of_link {ws : List Posting} {p p' q : Part} (link : p'.link = p.link) (posts : Posts ws p' q) :
    Posts ws p q := by
  rwa [Posts, link] at posts

/-- A zone posts PHASE where its standing changes (R34). -/
theorem Part.handZone_posts (p q s : Part) (z : Nat) (always : Bool) (cal : s.cal = q.cal) :
    Posts (phaseTold p q z) s (s.handZone z (p.calZone z).effective always) := by
  have now : s.effective z = (q.calZone z).effective := congrArg (fun c => (Tab.get c.zones z).effective) cal
  unfold Part.handZone phaseTold told
  simp only [← now]
  by_cases same : s.effective z = (p.calZone z).effective
  · rw [if_pos same, if_neg (not_not.2 same)]
    split
    · exact .nothing (congrArg Link.unsent (by simp))
    · exact .nothing rfl
  · rw [if_neg same, if_pos same]
    have stands : (s.handPhase z (p.calZone z).effective).effective z = s.effective z := by
      simp [Part.effective, Part.calZone]
    have posts := Posts.post (s.handPhase z (p.calZone z).effective) .phase z
    refine Posts.of_link (p' := s.handPhase z (p.calZone z).effective) (by simp) ?_
    unfold Part.postPhase
    rw [stands]
    exact posts _

/-! ### Every zone -/

/-- What the hand-off makes of a zone follows from the calendar unit and the zone's own record. -/
theorem Part.told_congr {s t : Part} {z : Nat} (cal : t.cal = s.cal) (zone : t.zone z = s.zone z)
    (old : Standing) (always : Bool) :
    t.zoneTold old always z = s.zoneTold old always z ∧ t.dueTold old always z = s.dueTold old always z := by
  have standing : t.effective z = s.effective z := congrArg (fun c => (Tab.get c.zones z).effective) cal
  simp only [Part.zoneTold, Part.dueTold, standing, zone, cal, and_self]

/-- Zones handed one after another, each once. -/
theorem Part.handList_hands (old : Vector CalZone 12) (always : Bool) (l : List Nat) (once : l.Nodup)
    (within : ∀ z ∈ l, z < 12) (s : Part) :
    let q := s.forEach l fun s z => s.handZone z (Tab.get old z).effective always
    (∀ y, y ∉ l → q.zone y = s.zone y) ∧ (∀ z ∈ l, q.zone z = s.zoneTold (Tab.get old z).effective always z) ∧
      q.due = s.due ++ l.flatMap fun z => s.dueTold (Tab.get old z).effective always z := by
  induction l generalizing s with
  | nil => simp [Part.forEach]
  | cons z rest ih =>
    obtain ⟨fresh, once⟩ := List.nodup_cons.1 once
    obtain ⟨this, others, due⟩ := s.handZone_hands (Tab.get old z).effective always (within z (by simp))
    obtain ⟨ihOut, ihIn, ihDue⟩ :=
      ih once (fun y member => within y (by simp [member])) (s.handZone z (Tab.get old z).effective always)
    have cal : (s.handZone z (Tab.get old z).effective always).cal = s.cal := by simp
    have later : ∀ y ∈ rest, (s.handZone z (Tab.get old z).effective always).zone y = s.zone y := fun y member =>
      others y fun same => fresh (same ▸ member)
    refine ⟨fun y away => ?_, fun y member => ?_, ?_⟩
    · simp only [List.mem_cons, not_or] at away
      exact (ihOut y away.2).trans (others y away.1)
    · rcases List.mem_cons.1 member with rfl | member
      · exact (ihOut y fresh).trans this
      · exact (ihIn y member).trans (Part.told_congr cal (later y member) _ always).1
    · refine ihDue.trans ?_
      rw [due, List.flatMap_cons, List.append_assoc,
        List.flatMap_congr fun y member => (Part.told_congr cal (later y member) (Tab.get old y).effective always).2]

/-- The hand-off of the zones moves their records alone in the zone conditioner. -/
theorem Part.handZones_conditioner (s : Part) (old : Vector CalZone 12) (always : Bool) (zones : Vector Zone 12) :
    (s.handZones old always).zc.withZones zones = s.zc.withZones zones := by
  unfold Part.handZones Part.forEach
  exact foldl_keeps (fun q : Part => q.zc.withZones zones)
    (fun s z => s.handZone z (Tab.get old z).effective always) (fun s z => s.handZone_conditioner z _ always zones)
    (List.range 12) s

/-- The marked shift start of a hand-off, said of the two standings (R34). -/
theorem shiftStart_eq (old new : Standing) :
    shiftStart old new = decide (new.phase = .active ∧ (old.phase ≠ .active ∨ old.source ≠ new.source)) := by
  simp [shiftStart]

/-- What a zone leaves to be taken, told by the parts before and after the hand-off of every zone. -/
theorem dueTold_eq_handedOn {p q s : Part} {always : Bool} {z : Nat} (cal : q.cal = s.cal) (before : s.zone z = p.zone z)
    (told : q.zone z = s.zoneTold (p.calZone z).effective always z) :
    s.dueTold (p.calZone z).effective always z = handedOn p q always z := by
  have now : s.effective z = (q.calZone z).effective := congrArg (fun c : Calendar => (Tab.get c.zones z).effective) cal.symm
  simp only [Part.zoneTold, Part.dueTold, handedOn, now, before, ← cal] at told ⊢
  split
  · rename_i handed
    rw [if_pos handed] at told
    simp only [Zone.leaves, shiftStart_eq, told, eq_comm (a := (p.zone z).lightGuard)]
  · rfl

/-- Every zone handed, from the part p whose standings were last handed: the zone conditioner takes the phases up, and the rest
is left to be taken (R34, R130, R136). -/
theorem Part.handZones_hands (p s : Part) (always : Bool) (conditioner : s.zc = p.zc) :
    PhasesTakenUp p (s.handZones p.cal.zones always) always ∧
      (s.handZones p.cal.zones always).due =
        s.due ++ (List.range 12).flatMap (handedOn p (s.handZones p.cal.zones always) always) := by
  obtain ⟨-, zones, due⟩ := Part.handList_hands p.cal.zones always (List.range 12) List.nodup_range
    (fun z member => List.mem_range.1 member) s
  have cal : (s.handZones p.cal.zones always).cal = s.cal := by simp
  have others := s.handZones_conditioner p.cal.zones always (s.handZones p.cal.zones always).zc.zones
  change ∀ z ∈ List.range 12, (s.handZones p.cal.zones always).zone z = _ at zones
  change (s.handZones p.cal.zones always).due = _ at due
  generalize s.handZones p.cal.zones always = q at zones due cal others ⊢
  have before (z : Nat) : s.zone z = p.zone z := congrArg (fun zc : Conditioner => Tab.get zc.zones z) conditioner
  have now (z : Nat) : s.effective z = (q.calZone z).effective :=
    congrArg (fun c : Calendar => (Tab.get c.zones z).effective) cal.symm
  have told : ∀ z < 12, q.zone z = s.zoneTold (p.calZone z).effective always z := fun z hz => zones z (List.mem_range.2 hz)
  refine ⟨⟨?others, fun z hz => ⟨fun handed => ?_, fun stays => ?_⟩⟩, ?due⟩
  case others =>
    rw [← conditioner]
    exact others
  · rw [told z hz, Part.zoneTold, now, before]
    exact if_pos handed
  · rw [told z hz, Part.zoneTold, now, before]
    exact if_neg stays
  case due =>
    rw [due]
    congr 1
    refine List.flatMap_congr fun z member => ?_
    exact dueTold_eq_handedOn cal (before z) (told z (List.mem_range.1 member))

/-- Zones handed one after another post PHASE for each whose standing changes (R34). -/
theorem Part.handList_posts (p q : Part) (always : Bool) (l : List Nat) (s : Part) (cal : s.cal = q.cal) :
    Posts (l.flatMap (phaseTold p q)) s (s.forEach l fun s z => s.handZone z (Tab.get p.cal.zones z).effective always) := by
  induction l generalizing s with
  | nil => exact .nothing rfl
  | cons z rest ih =>
    have later := ih (s.handZone z (Tab.get p.cal.zones z).effective always) (by simpa using cal)
    refine Posts.append (Part.handZone_posts p q s z always cal) later ?_ ?_ ?_
    · exact Link.mask_of_still (by simp)
    · exact (Part.forEach_clock _ (fun s z => by simp) rest _).symm
    · exact Link.transmitter_of_still (by simp)

/-- Every zone handed posts PHASE for each whose standing changes (R34). -/
theorem Part.handZones_posts (p s : Part) (always : Bool) :
    Posts ((List.range 12).flatMap (phaseTold p (s.handZones p.cal.zones always))) s
      (s.handZones p.cal.zones always) :=
  Part.handList_posts p _ always (List.range 12) s (by simp)

end Sys2Proof.Machine
end

section
/-! SUPPORT. SET_CLOCK taken at once, from its operands to the frame its reply leaves the transmitter with (R11, R15, R34, R40), and
the statements of the clock's requests. -/

namespace Sys2Proof.Machine

/-! ### A request answered, to the end of its event -/

/-- A request of the catalogue that is taken at once and answered, from its owner's work: the whole part at the end of the
event. -/
theorem Answers.of_serve_closed {i : Instr} {s : State} {v : Verdict} {tag kind : Byte} {after : Part → Prop} {q : Part}
    (hc : inCatalogue i = true) (ht : bodyTag (encodeRequest i) = tag) (hk : bodyKind (encodeRequest i) = kind)
    (r : s.Ready) (answered : v ≠ .deferred) (work : Part.serve i (s.part.taken tag kind) = (q, v))
    (out : q.link.outgoing = s.part.link.outgoing)
    (closed : after (Part.close { q with link := q.link.ready (v.reply tag kind true) })) :
    Answers i s tag kind v after := by
  subst ht hk
  have settled : Part.settle (bodyTag (encodeRequest i)) (bodyKind (encodeRequest i)) (q, v) =
      { q with link := q.link.ready (v.reply (bodyTag (encodeRequest i)) (bodyKind (encodeRequest i)) true) } := by
    cases v with
    | deferred => exact absurd rfl answered
    | done cut data => rfl
    | refused code field => rfl
  have takes : s.part.request i (bodyTag (encodeRequest i)) (bodyKind (encodeRequest i)) (Part.serve i) =
      { q with link := q.link.ready (v.reply (bodyTag (encodeRequest i)) (bodyKind (encodeRequest i)) true) } := by
    rw [← settled, ← work]
    exact if_pos ⟨r.free, r.noneHeld⟩
  have core := (Part.serve_keeps i (s.part.taken (bodyTag (encodeRequest i)) (bodyKind (encodeRequest i)))).1
  rw [work] at core
  refine ⟨_, (exec_request i s hc).trans (State.act_runs s _ r.runs), rfl, ?_, ?_, ?_⟩ <;> dsimp only <;> rw [takes]
  · simp [Part.close, out, Verdict.reply]
  · simpa [Part.close, Part.taken] using Link.inHand_of_core core
  · exact closed

/-- A reply that becomes ready is no notice. -/
@[simp] theorem Link.ready_unsent (l : Link) (r : Reply) : (l.ready r).unsent = l.unsent := by
  unfold Link.ready
  split <;> rfl

@[simp] theorem Link.ready_transmitter (l : Link) (r : Reply) : (l.ready r).transmitter = l.transmitter := by
  unfold Link.ready
  split <;> rfl

/-- A transmitter that sends picks nothing. -/
theorem Link.kick_of_sending (l : Link) (sends : l.transmitter ≠ .idle) : l.kick = l := by
  unfold Link.kick
  split
  · rename_i idle
    exact absurd idle sends
  · rfl

/-- A reply goes out before any notice: the queue of notices stays at the end of the event (R190). -/
theorem Link.ready_kick_aside (l : Link) (r : Reply) (order : l.waiting ≠ [] → l.replies ≠ []) :
    (l.ready r).kick.aside = l.aside :=
  (Link.kick_aside _ (Link.ready_replies l r order)).trans (Link.ready_aside l r)

/-! ### What SET_CLOCK does to the part -/

/-- A hand-off of a zone leaves no window limit to be taken. -/
theorem handedOn_no_limit (p q : Part) (commits : Bool) (z : Nat) : ∀ d ∈ handedOn p q commits z, waitingLimit d = false := by
  intro d member
  unfold handedOn at member
  dsimp only at member
  split at member
  · split at member <;> simp at member <;> rcases member with rfl | rfl | rfl | rfl <;> rfl
  · simp at member

/-- The zones' hand-off says the same of two parts with the same zone records, standings and running calendar. -/
theorem handedOn_congr {p q q' : Part} (zc : q'.zc = q.zc) (zones : q'.cal.zones = q.cal.zones)
    (running : q'.cal.running = q.cal.running) (commits : Bool) (z : Nat) : handedOn p q' commits z = handedOn p q commits z := by
  unfold handedOn Part.calZone Part.zone
  rw [zc, zones, running]

theorem phaseTold_congr {p q q' : Part} (zones : q'.cal.zones = q.cal.zones) (z : Nat) :
    phaseTold p q' z = phaseTold p q z := by
  unfold phaseTold Part.calZone
  rw [zones]

theorem PhasesTakenUp.congr {p q q' : Part} {commits : Bool} (zc : q'.zc = q.zc) (zones : q'.cal.zones = q.cal.zones)
    (h : PhasesTakenUp p q commits) : PhasesTakenUp p q' commits := by
  unfold PhasesTakenUp ZoneHanded Part.calZone Part.zone at h ⊢
  rwa [zc, zones]

/-- The calendar unit after SET_CLOCK to week minute m: every zone resolved with its override kept, and the window limit taken
(R11, R32, R39). -/
def Calendar.setTo (c : Calendar) (m : Nat) : Calendar :=
  { c with
    zones := Tab.build 12 fun z => (Tab.get c.zones z).resolved (c.running.byCalendar z m)
    activeWindow := c.running.activeWindow .running m
    handedLimit := (c.running.activeWindow .running m).map (·.1) }

/-- SET_CLOCK's part with the clock set and every zone resolved, none handed yet (R11, R32). -/
def Part.clockResolved (s : Part) (m sec days : Nat) : Part :=
  ({ s with clock := s.clock.set m sec days s.boardChannel }).resolveZones

/-- SET_CLOCK's part with the zones handed, and the window limit still to be computed. -/
def Part.clockHanded (s : Part) (m sec days : Nat) : Part := (s.clockResolved m sec days).handZones s.cal.zones false

theorem ClockState.code_eq (c : ClockState) : c.code = if c = .running then 1 else 0 := by cases c <;> rfl

/-- The CLOCK notice's details: the state and the time held before (R15). -/
def clockTold (c : Clock) : List Byte := u8 (if c.state = .running then 1 else 0) ++ u16 c.weekMinute ++ u8 c.second

/-- SET_CLOCK ends with the window limit and its notice (R11, R15). -/
theorem Part.setClock_eq (s : Part) (m sec days : Nat) :
    s.setClock m sec days = (s.clockHanded m sec days).recomputeWindow.post .clock 0 (clockTold s.clock) := by
  rw [clockTold, ← ClockState.code_eq]
  rfl

theorem Part.clockResolved_cal (s : Part) (m sec days : Nat) :
    (s.clockResolved m sec days).cal =
      { s.cal with zones := Tab.build 12 fun z => (Tab.get s.cal.zones z).resolved (s.cal.running.byCalendar z m) } := rfl

/-- What the zones' hand-off leaves as the resolution left it. -/
theorem Part.clockHanded_keeps (s : Part) (m sec days : Nat) :
    (s.clockHanded m sec days).cal = (s.clockResolved m sec days).cal ∧
      (s.clockHanded m sec days).clock = s.clock.set m sec days s.boardChannel ∧
      (s.clockHanded m sec days).link.still = s.link.still := by
  simp [Part.clockHanded, Part.clockResolved]

/-- The window limit is computed for the time set. -/
theorem Part.clockHanded_windowNow (s : Part) (m sec days : Nat) :
    (s.clockHanded m sec days).windowNow = s.cal.running.activeWindow .running m := by
  obtain ⟨cal, clock, -⟩ := s.clockHanded_keeps m sec days
  rw [Part.windowNow, cal, clock]
  rfl

theorem Part.setClock_cal (s : Part) (m sec days : Nat) : (s.setClock m sec days).cal = s.cal.setTo m := by
  have computed := (s.clockHanded m sec days).recomputeWindow_hands.1
  rw [s.clockHanded_windowNow, (s.clockHanded_keeps m sec days).1, s.clockResolved_cal] at computed
  simp only [Part.setClock_eq, Part.post_keeps, computed]
  rfl

/-- The hand-off of the zones at SET_CLOCK, told by the part it ends with. -/
theorem Part.setClock_zones (s : Part) (m sec days : Nat) :
    PhasesTakenUp s (s.setClock m sec days) false ∧
      (s.clockHanded m sec days).due =
        s.due ++ (List.range 12).flatMap (handedOn s (s.setClock m sec days) false) ∧
      Posts ((List.range 12).flatMap (phaseTold s (s.setClock m sec days))) s (s.clockHanded m sec days) := by
  obtain ⟨taken, due⟩ := Part.handZones_hands s (s.clockResolved m sec days) false rfl
  have posts := Part.handZones_posts s (s.clockResolved m sec days) false
  have zc : (s.setClock m sec days).zc = (s.clockHanded m sec days).zc := by simp [Part.setClock_eq]
  have cal := (s.clockHanded_keeps m sec days).1
  have zones : (s.setClock m sec days).cal.zones = (s.clockHanded m sec days).cal.zones := by
    simp only [Part.setClock_cal, cal, Part.clockResolved_cal, Calendar.setTo]
  have running : (s.setClock m sec days).cal.running = (s.clockHanded m sec days).cal.running := by
    simp only [Part.setClock_cal, cal, Part.clockResolved_cal, Calendar.setTo]
  refine ⟨PhasesTakenUp.congr zc zones taken, due.trans ?_, ?_⟩
  · rw [List.flatMap_congr fun z _ => handedOn_congr zc zones running false z]
    rfl
  · refine Posts.of_link (p' := s.clockResolved m sec days) rfl ?_
    rw [List.flatMap_congr fun z _ => phaseTold_congr zones z]
    exact posts

/-- The window limit at SET_CLOCK: in force where it changes, those that waited taken before it (R40). -/
theorem Part.setClock_window (s : Part) (m sec days : Nat) :
    ((s.setClock m sec days).cal.handedLimit ≠ s.cal.handedLimit →
        (s.setClock m sec days).lb.window = (s.setClock m sec days).cal.handedLimit) ∧
      (s.setClock m sec days).due = limitsTaken s (s.setClock m sec days) (s.clockHanded m sec days).due ∧
      PostsBudget (windowPasses s (s.setClock m sec days)) (s.clockHanded m sec days)
        (s.clockHanded m sec days).recomputeWindow := by
  obtain ⟨cal, window, due, posts⟩ := (s.clockHanded m sec days).recomputeWindow_hands
  have before : (s.clockHanded m sec days).cal.handedLimit = s.cal.handedLimit := by
    rw [(s.clockHanded_keeps m sec days).1, s.clockResolved_cal]
  have after : (s.clockHanded m sec days).recomputeWindow.cal.handedLimit = (s.setClock m sec days).cal.handedLimit := by
    simp [Part.setClock_eq]
  have none : ((List.range 12).flatMap (handedOn s (s.setClock m sec days) false)).countP waitingLimit = 0 := by
    refine List.countP_eq_zero.2 fun d member => ?_
    obtain ⟨z, -, member⟩ := List.mem_flatMap.1 member
    simp [handedOn_no_limit s _ false z d member]
  have waiting : (s.clockHanded m sec days).due.countP waitingLimit = s.due.countP waitingLimit := by
    obtain ⟨-, due, -⟩ := s.setClock_zones m sec days
    rw [due, List.countP_append, none, Nat.add_zero]
  have limit : (s.clockHanded m sec days).windowNow.map (·.1) = (s.setClock m sec days).cal.handedLimit := by
    rw [← after, cal]
  refine ⟨fun changed => ?_, ?_, ?_⟩
  · rw [← limit, ← window (by rw [limit, before]; exact changed)]
    simp [Part.setClock_eq]
  · rw [limitsTaken, before, after] at due
    rw [limitsTaken, ← due]
    simp [Part.setClock_eq]
  · rwa [windowPasses, before, after, waiting] at posts

/-- SET_CLOCK's notices: PHASE for each zone that changes, those of the passes of the window limit, and CLOCK (R15, R34). -/
theorem Part.setClock_posts (s : Part) (m sec days : Nat) :
    PostsAround ((List.range 12).flatMap (phaseTold s (s.setClock m sec days)))
        (windowPasses s (s.setClock m sec days))
        [{ kind := .clock, subject := 0, detail := clockTold s.clock }] s (s.setClock m sec days) ∧
      (s.link.mask.getLsbD 3 = true →
        (s.setClock m sec days).link.notices.getLast? =
          some (Posting.stamped { kind := .clock, subject := 0, detail := clockTold s.clock }
            (s.setClock m sec days).clock)) := by
  obtain ⟨-, -, handed⟩ := s.clockHanded_keeps m sec days
  have computed : (s.clockHanded m sec days).recomputeWindow.link.still = s.link.still := by simpa using handed
  obtain ⟨-, -, zones⟩ := s.setClock_zones m sec days
  obtain ⟨-, -, passes⟩ := s.setClock_window m sec days
  have clock : (s.setClock m sec days).clock = (s.clockHanded m sec days).recomputeWindow.clock := by
    simp [Part.setClock_eq]
  have mask : (s.clockHanded m sec days).recomputeWindow.link.mask = s.link.mask := Link.mask_of_still computed
  constructor
  · refine PostsAround.of_pieces zones passes ?_
      mask (Link.transmitter_of_still handed) (Link.transmitter_of_still computed) ?_
    · rw [Part.setClock_eq]
      exact Posts.post _ .clock 0 _
    · rw [clock, (Part.recomputeWindow_keeps _).1]
  · intro admits
    rw [clock, Part.setClock_eq]
    exact Part.post_last _ .clock 0 _ (by rw [mask]; exact admits)

end Sys2Proof.Machine
end

section
/-! SUPPORT. The statements of the clock's two requests, SET_CLOCK and SET_TRIM (R10, R11). -/

namespace Sys2Proof.Machine

/-! ### SET_CLOCK's operands and clock -/

/-- SET_CLOCK's fields are clamped, the first field cut being the week minute's or the second's (R11). -/
theorem clockOperands_eq (m : Half) (sec : Byte) (days : Half) :
    clockOperands m sec days = ((min m.toNat 10079, min sec.toNat 59, days.toNat),
      if 10079 < m.toNat then 1 else if 59 < sec.toNat then 2 else 0) := by
  simp only [clockOperands, clampN_zero, outside_zero, firstCut, decide_eq_true_eq, Nat.min_comm 10079, Nat.min_comm 59]
  rfl

/-- The clock set starts the period that R5 to R8 describe. -/
theorem Clock.set_started (c : Clock) (m sec days : Nat) (ch : Channel) : PeriodStarted ch c (c.set m sec days ch) :=
  PeriodStarted.of_same rfl rfl rfl rfl
    (Clock.startPeriod_started { c with weekMinute := m, second := sec, dayCount := days, tick := 0, state := .running } ch)

/-- A zone after SET_CLOCK: resolved, its overrides kept (R11, R32). -/
theorem Calendar.setTo_zone (c : Calendar) (m : Nat) {z : Nat} (hz : z < 12) :
    Tab.get (c.setTo m).zones z = (Tab.get c.zones z).resolved (c.running.byCalendar z m) := Tab.get_build _ _ _ hz

/-- What a part has of SET_CLOCK from another: the clock, the calendar unit, the hand-offs and the notices, and nothing else. -/
structure ClockSet (m sec days : Nat) (p q : Part) : Prop where
  clock : q.clock = p.clock.set m sec days p.boardChannel
  cal : q.cal = p.cal.setTo m
  phases : PhasesTakenUp p q false
  window : q.cal.handedLimit ≠ p.cal.handedLimit → q.lb.window = q.cal.handedLimit
  due : q.due = limitsTaken p q (p.due ++ (List.range 12).flatMap (handedOn p q false))
  posts : PostsAround ((List.range 12).flatMap (phaseTold p q)) (windowPasses p q)
    [{ kind := .clock, subject := 0, detail := clockTold p.clock }] p q
  last : p.link.mask.getLsbD 3 = true → q.link.notices.getLast? =
    some (Posting.stamped { kind := .clock, subject := 0, detail := clockTold p.clock } q.clock)
  still : q.link.aside.still = p.link.aside.still
  sending : p.link.transmitter ≠ .idle → q.link.transmitter = p.link.transmitter
  mu : q.mu = p.mu
  air : q.air = p.air
  running : q.running = p.running

theorem Part.setClock_set (s : Part) (m sec days : Nat) : ClockSet m sec days s (s.setClock m sec days) := by
  obtain ⟨phases, dues, -⟩ := s.setClock_zones m sec days
  obtain ⟨window, due, -⟩ := s.setClock_window m sec days
  obtain ⟨posts, last⟩ := s.setClock_posts m sec days
  have still : (s.setClock m sec days).link.still = s.link.still := by simp
  exact
    { clock := s.setClock_clock m sec days
      cal := s.setClock_cal m sec days
      phases, window, posts, last
      due := dues ▸ due
      still := congrArg Link.aside still
      sending := fun _ => Link.transmitter_of_still still
      mu := by simp
      air := by simp
      running := by simp }

/-- The notices of an event that answers a request too are those of the owner's work. -/
theorem PostsAround.of_unsent {v w : List Posting} {n : Nat} {p q q' : Part} (unsent : q'.link.unsent = q.link.unsent)
    (clock : q'.clock = q.clock) (posts : PostsAround v n w p q) : PostsAround v n w p q' := by
  unfold PostsAround at posts ⊢
  rwa [unsent, clock]

/-- SET_CLOCK taken from the hand and answered leaves what its owner's work leaves. -/
theorem ClockSet.answered {m sec days : Nat} {p q : Part} {tag kind : Byte} (r : Reply)
    (order : q.link.waiting ≠ [] → q.link.replies ≠ []) (set : ClockSet m sec days (p.taken tag kind) q) :
    ClockSet m sec days p (Part.close { q with link := q.link.ready r }) where
  clock := set.clock
  cal := set.cal
  phases := set.phases
  window := set.window
  due := set.due
  posts := by
    have told : phaseTold p (Part.close { q with link := q.link.ready r }) = phaseTold (p.taken tag kind) q := rfl
    have passes : windowPasses p (Part.close { q with link := q.link.ready r }) = windowPasses (p.taken tag kind) q := rfl
    rw [told, passes]
    exact PostsAround.of_unsent (p := p) (q := q) (by simp) rfl set.posts
  last := by
    have notices : (q.link.ready r).kick.notices = q.link.notices := by
      change (q.link.ready r).kick.aside.notices = q.link.aside.notices
      rw [Link.ready_kick_aside q.link r order]
    exact fun admits => (congrArg List.getLast? notices).trans (set.last admits)
  still := (congrArg Link.still (Link.ready_kick_aside q.link r order)).trans set.still
  sending := fun sends => by
    have kept := set.sending sends
    have stays : (q.link.ready r).transmitter ≠ .idle := by
      rw [Link.ready_transmitter, kept]
      exact sends
    change (q.link.ready r).kick.transmitter = _
    rw [Link.kick_of_sending _ stays, Link.ready_transmitter, kept]
    rfl
  mu := set.mu
  air := set.air
  running := set.running

/-- SET_CLOCK is taken at once and answered DONE, whatever time it carries (R11). -/
theorem setClock_answers {s : State} (tag : Byte) (m : Half) (sec : Byte) (days : Half) (r : s.Ready) :
    Answers (.setClock tag m sec days) s tag 0x02
      (.done (if 10079 < m.toNat then 1 else if 59 < sec.toNat then 2 else 0) [])
      (ClockSet (min m.toNat 10079) (min sec.toNat 59) days.toNat s.part) := by
  have set := (s.part.taken tag 0x02).setClock_set (min m.toNat 10079) (min sec.toNat 59) days.toNat
  have still : ((s.part.taken tag 0x02).setClock (min m.toNat 10079) (min sec.toNat 59) days.toNat).link.still =
      (s.part.taken tag 0x02).link.still := by simp
  have work : Part.serve (.setClock tag m sec days) (s.part.taken tag 0x02) =
      ((s.part.taken tag 0x02).setClock (min m.toNat 10079) (min sec.toNat 59) days.toNat,
        .done (if 10079 < m.toNat then 1 else if 59 < sec.toNat then 2 else 0) []) := by
    simp only [Part.serve, Part.doSetClock, clockOperands_eq]
  generalize (s.part.taken tag 0x02).setClock (min m.toNat 10079) (min sec.toNat 59) days.toNat = q at set still work
  have order : q.link.waiting ≠ [] → q.link.replies ≠ [] := by
    rw [show q.link.waiting = s.part.link.waiting from congrArg (·.waiting) still,
      show q.link.replies = s.part.link.replies from congrArg (·.replies) still]
    exact r.inOrder
  exact Answers.of_serve_closed rfl rfl rfl r (by simp) work (Link.outgoing_of_still still : q.link.outgoing = _)
    (set.answered _ order)

/-- A claim of what a request leaves follows from a stronger one. -/
theorem Answers.imp {i : Instr} {s : State} {tag kind : Byte} {v : Verdict} {after after' : Part → Prop}
    (h : Answers i s tag kind v after) (weaker : ∀ q, after q → after' q) : Answers i s tag kind v after' := by
  obtain ⟨t, next, pending, outgoing, hand, holds⟩ := h
  exact ⟨t, next, pending, outgoing, hand, weaker _ holds⟩

/-- SET_CLOCK hands the window limit: the one in force is the one last handed, and no older one waits where it changed (R40). -/
theorem ClockSet.windowHanded {m sec days : Nat} {p q : Part} (set : ClockSet m sec days p q) : WindowHanded p q := by
  have limit : q.cal.handedLimit = q.cal.activeWindow.map (·.1) := by
    rw [set.cal]
    rfl
  refine ⟨limit, fun changed => ⟨?_, fun w => ?_⟩⟩
  · exact (set.window (by rw [limit]; exact changed)).trans limit
  · have due := set.due
    rw [limitsTaken, if_neg (by rw [limit]; exact changed)] at due
    constructor <;> intro member <;> rw [due] at member <;> simp [waitingLimit] at member

/-- SET_CLOCK moves nothing beside the clock but what its hand-offs, its passes and its answer move. -/
theorem ClockSet.changesOnly {m sec days : Nat} {p q : Part} (set : ClockSet m sec days p q) :
    ChangesOnly [.clock, .zonePhases, .limitWindow, .doorLine, .conditioner, .budget, .replies, .notices, .handed] p q := by
  have cal : q.cal.running = p.cal.running ∧ q.cal.editor = p.cal.editor := by
    rw [set.cal]
    exact ⟨rfl, rfl⟩
  have link {α : Type} (figure : Link → α) (h : ∀ l : Link, figure l = figure l.aside.still) :
      figure q.link = figure p.link := by
    rw [h, set.still, ← h]
  intro piece other
  cases piece
  case runningCalendar => exact cal.1
  case editor => exact cal.2
  case measurement => exact set.mu
  case airQuality => exact set.air
  case receiver =>
    exact ⟨link (·.receiver) fun _ => rfl, link (·.holding) fun _ => rfl, link (·.errors) fun _ => rfl⟩
  case settings =>
    exact ⟨link (·.store) fun _ => rfl, link (·.storeGood) fun _ => rfl, link (·.saving) fun _ => rfl,
      link (·.unsaved) fun _ => rfl, link (·.startCause) fun _ => rfl, link (·.source) fun _ => rfl,
      link (·.speed) fun _ => rfl, link (·.mask) fun _ => rfl⟩
  case sending => exact set.sending
  case running => exact set.running
  all_goals exact absurd (by simp) other

/-- The CLOCK notice carries the time set and, in its details, the state and the time held before (R15). -/
theorem clockTold_stamped {b : Clock} (set : b.state = .running) (a : Clock) :
    Posting.stamped { kind := .clock, subject := 0, detail := clockTold a } b =
      { kind := .clock, gap := false, clockSet := true, dayCount := b.dayCount, weekMinute := b.weekMinute
        second := b.second, subject := 0, detail := clockTold a } := by
  simp [Posting.stamped, set, clockTold, u8, u16, leBytes]

/-- Settles O27: from what SET_CLOCK's stages leave (`ClockSet`), through the answer to the end of the event. -/
theorem setClockSetsTheTimeAndStartsAPeriod : Obligations.SetClockSetsTheTimeAndStartsAPeriod := by
  intro s tag m sec days r
  refine (setClock_answers tag m sec days r).imp fun q set => ?_
  have started : PeriodStarted s.part.boardChannel s.part.clock q.clock := set.clock ▸ Clock.set_started ..
  have zone {z : Nat} (hz : z < 12) : q.calZone z =
      (s.part.calZone z).resolved (s.part.cal.running.byCalendar z (min m.toNat 10079)) := by
    rw [Part.calZone, set.cal]
    exact Calendar.setTo_zone _ _ hz
  have clock : q.clock.weekMinute = min m.toNat 10079 ∧ q.clock.second = min sec.toNat 59 ∧ q.clock.dayCount = days.toNat ∧
      q.clock.tick = 0 ∧ q.clock.state = .running ∧ q.clock.trimA = s.part.clock.trimA ∧
      q.clock.trimKq = s.part.clock.trimKq ∧ q.clock.trimT0 = s.part.clock.trimT0 := by
    rw [set.clock]
    exact ⟨rfl, rfl, rfl, rfl, rfl, rfl, rfl, rfl⟩
  obtain ⟨week, second, day, tick, runs, trimA, trimKq, trimT0⟩ := clock
  refine ⟨week, second, day, tick, runs, started, trimA, trimKq, trimT0, fun z hz => ?_, ?_, set.windowHanded, set.phases,
    set.due, fun admits => ?_, set.posts, set.changesOnly⟩
  · rw [zone hz]
    exact ⟨rfl, rfl, rfl, rfl⟩
  · rw [set.cal]
    rfl
  · refine ⟨_, set.last admits, ?_⟩
    rw [clockTold_stamped runs]
    exact ⟨rfl, rfl, rfl, rfl, week, second, day, rfl⟩

/-! ### SET_TRIM -/

/-- Settles O28: the trim stored by its owner, and read by every period start. -/
theorem setTrimIsStoredForTheNextPeriod : Obligations.SetTrimIsStoredForTheNextPeriod := by
  intro s tag a kq t0 w
  refine ⟨setTrim_answers tag a kq t0 w, fun q r saves => setTrim_busy tag a kq t0 r saves, fun range last => ?mark,
    fun m sec days => ?set, fun ch c => ⟨c.startPeriod_started ch, by simp⟩, rfl, rfl, rfl,
    fun ch c trimA trimKq _ => c.startPeriod_cv_of_factory_trim ch trimA trimKq, ⟨rfl, rfl, rfl⟩,
    fun image straps stored => ?load⟩
  case mark =>
    refine Ends.of_act (exec_quarterSecondMark s) w.ready.runs ?_
    rw [Part.close_clock, Part.cycle_clock]
    obtain ⟨-, starts, -⟩ := Clock.toQuarterEnd_cycle_raised s.part.clock s.part.boardChannel
    exact starts last
  case set =>
    exact (setClock_answers tag m sec days w.ready).imp fun q set => set.clock ▸ Clock.set_started ..
  case load =>
    refine ⟨_, exec_powerOn straps true s, rfl, ?_⟩
    have reads : s.part.link.imageRead true = some image := by simp [Link.imageRead, w.noSave, stored]
    rw [Part.powerUp, reads]
    exact ⟨rfl, rfl, rfl⟩

end Sys2Proof.Machine
end

section
/-! SUPPORT. The minute boundary in the calendar unit, stage by stage in the order of R32: what each stage leaves of the part
before it, and what the calendar unit holds at the end. -/

namespace Sys2Proof.Machine

/-! ### The calendar unit -/

/-- The calendar unit after a minute boundary with the clock as it stands: a pending commit applied, every override counted
down, every zone resolved, and the window limit taken (R26, R32, R38, R39). -/
def Calendar.atBoundary (c : Calendar) (clock : Clock) : Calendar :=
  let window := c.commit.running.activeWindow clock.state clock.weekMinute
  { c.commit with
    zones := Tab.build 12 fun z =>
      (Tab.get c.zones z).boundary (c.commit.running.resolve clock.state z clock.weekMinute)
    activeWindow := window
    handedLimit := window.map (·.1) }

/-- A commit moves the running copy and the editor alone (R26). -/
@[simp] theorem Calendar.commit_keeps (c : Calendar) :
    c.commit.zones = c.zones ∧ c.commit.activeWindow = c.activeWindow ∧ c.commit.handedLimit = c.handedLimit := by
  unfold Calendar.commit
  split <;> exact ⟨rfl, rfl, rfl⟩

/-- A pending edit copy becomes the running copy (R26). -/
theorem Calendar.commit_of_pending {c : Calendar} {copy : CalCopy} (pending : c.editor = .pending copy) :
    c.commit = { c with running := copy, editor := .noEdit } := by
  simp only [Calendar.commit, pending]

/-- Without a pending edit copy nothing is committed. -/
theorem Calendar.commit_of_not_pending {c : Calendar} (stays : c.editor.isPending = false) : c.commit = c := by
  unfold Calendar.commit
  split
  · rename_i copy pending
    simp [pending, Editor.isPending] at stays
  · rfl

/-! ### The link port -/

/-- The link port with its changes unsaved where some were made (R191). -/
def Link.marked (l : Link) (changes : Bool) : Link := { l with unsaved := l.unsaved || changes }

/-- A figure that reads neither the notices nor the unsaved flag is one of link ports that differ in these alone. -/
theorem Link.figure_of_marked {α : Type} {l m : Link} {changes : Bool} (figure : Link → α)
    (reads : ∀ (l : Link) (u : Bool), figure l = figure { l with unsaved := u }.still)
    (h : l.still = (m.marked changes).still) : figure l = figure m := by
  rw [reads l l.unsaved, reads m (m.unsaved || changes)]
  exact congrArg figure h

theorem Link.mask_of_marked {l m : Link} {changes : Bool} (h : l.still = (m.marked changes).still) : l.mask = m.mask :=
  Link.figure_of_marked (·.mask) (fun _ _ => rfl) h

theorem Link.transmitter_of_marked {l m : Link} {changes : Bool} (h : l.still = (m.marked changes).still) :
    l.transmitter = m.transmitter := Link.figure_of_marked (·.transmitter) (fun _ _ => rfl) h

theorem Link.unsaved_of_marked {l m : Link} {changes : Bool} (h : l.still = (m.marked changes).still) :
    l.unsaved = (m.unsaved || changes) := by
  change l.still.unsaved = _
  rw [h]
  rfl

/-- At the end of an event a transmitter that sends goes on with its frame. -/
theorem Part.close_sending {s : Part} {m : Link} (same : s.link.transmitter = m.transmitter)
    (sends : m.transmitter ≠ .idle) : s.close.link.transmitter = m.transmitter := by
  rw [Part.close, Link.kick_of_sending s.link (by rwa [same]), same]

@[simp] theorem Part.close_unsaved (s : Part) : s.close.link.unsaved = s.link.unsaved := Link.kick_unsaved _

/-! ### The stages of a boundary -/

/-- A boundary's part with the commit applied and every zone counted down and resolved, none handed yet. -/
def Part.boundaryPassed (s : Part) : Part := ({ s with cal := s.cal.commit }).passZones

/-- A boundary's part with the commit told: its CALENDAR notice posted and the changes unsaved (R26, R191). -/
def Part.boundaryTold (s : Part) : Part :=
  if s.cal.editor.isPending then
    (s.boundaryPassed.postCalendar (s.boundaryPassed.changedZones s.cal.zones).length).markUnsaved
  else s.boundaryPassed

/-- A boundary's part with the ends of the overrides noted (R38). -/
def Part.boundaryEnded (s : Part) : Part :=
  s.boundaryTold.forEach (List.range 12) fun q z => q.noteEnds z (Tab.get s.cal.zones z)

/-- A boundary's part with the zones handed, and the window limit still to be computed. -/
def Part.boundaryHanded (s : Part) : Part := s.boundaryEnded.handZones s.cal.zones s.cal.editor.isPending

theorem Part.boundary_eq (s : Part) : s.boundary = s.boundaryHanded.recomputeWindow := rfl

theorem Part.boundaryPassed_cal (s : Part) :
    s.boundaryPassed.cal =
      { s.cal.commit with
        zones := Tab.build 12 fun z =>
          (Tab.get s.cal.zones z).boundary (s.cal.commit.running.resolve s.clock.state z s.clock.weekMinute) } := by
  rw [← (Calendar.commit_keeps s.cal).1]
  rfl

/-- What the CALENDAR notice leaves as it was. -/
theorem Part.boundaryTold_keeps (s : Part) :
    s.boundaryTold.cal = s.boundaryPassed.cal ∧ s.boundaryTold.clock = s.clock ∧ s.boundaryTold.zc = s.zc ∧
      s.boundaryTold.due = s.due ∧
      s.boundaryTold.link.still = (s.link.marked s.cal.editor.isPending).still := by
  cases pending : s.cal.editor.isPending
  · simp [Part.boundaryTold, Part.boundaryPassed, Link.marked, pending]
  · have posts : (s.boundaryPassed.postCalendar (s.boundaryPassed.changedZones s.cal.zones).length).link.still =
        s.boundaryPassed.link.still := by simp
    rw [Link.marked, Bool.or_true]
    refine ⟨?_, ?_, ?_, ?_, ?_⟩
    case refine_5 =>
      simp only [Part.boundaryTold, pending, if_true]
      exact congrArg (fun l : Link => { l with unsaved := true }) posts
    all_goals simp [Part.boundaryTold, Part.boundaryPassed, pending]

/-- What the ends of the overrides leave as it was. -/
theorem Part.boundaryEnded_keeps (s : Part) :
    s.boundaryEnded.cal = s.boundaryPassed.cal ∧ s.boundaryEnded.clock = s.clock ∧ s.boundaryEnded.zc = s.zc ∧
      s.boundaryEnded.link.still = (s.link.marked s.cal.editor.isPending).still := by
  obtain ⟨cal, clock, zc, -, still⟩ := s.boundaryTold_keeps
  simp [Part.boundaryEnded, cal, clock, zc, still]

/-- What the hand-off of the zones leaves as it was. -/
theorem Part.boundaryHanded_keeps (s : Part) :
    s.boundaryHanded.cal = s.boundaryPassed.cal ∧ s.boundaryHanded.clock = s.clock ∧
      s.boundaryHanded.link.still = (s.link.marked s.cal.editor.isPending).still := by
  obtain ⟨cal, clock, -, still⟩ := s.boundaryEnded_keeps
  simp [Part.boundaryHanded, cal, clock, still]

/-- The window limit is computed from the committed calendar. -/
theorem Part.boundaryHanded_windowNow (s : Part) :
    s.boundaryHanded.windowNow = s.cal.commit.running.activeWindow s.clock.state s.clock.weekMinute := by
  obtain ⟨cal, clock, -⟩ := s.boundaryHanded_keeps
  rw [Part.windowNow, cal, clock, s.boundaryPassed_cal]

@[simp] theorem Part.boundary_cal (s : Part) : s.boundary.cal = s.cal.atBoundary s.clock := by
  have computed := s.boundaryHanded.recomputeWindow_hands.1
  rw [s.boundaryHanded_windowNow, s.boundaryHanded_keeps.1, s.boundaryPassed_cal] at computed
  exact computed

/-- Of the link port a boundary moves the notices, and marks the changes of a commit unsaved. -/
theorem Part.boundary_still (s : Part) :
    s.boundary.link.still = (s.link.marked s.cal.editor.isPending).still := by
  rw [Part.boundary_eq, ← s.boundaryHanded_keeps.2.2]
  simp

end Sys2Proof.Machine
end

section
/-! SUPPORT. What each step makes of the running calendar: a minute boundary with a pending edit copy and a power-on replace it,
and nothing else moves it (R22, R26, R196). -/

namespace Sys2Proof.Machine

/-! ### Figures that no request moves -/

/-- A figure of the part that reads nothing of the link port and that no owner's work on a request moves. -/
structure OutsideRequests {β : Type} (figure : Part → β) : Prop where
  link : ∀ (s : Part) (l : Link), figure { s with link := l } = figure s
  serve : ∀ (i : Instr) (s : Part), figure (s.serve i).1 = figure s

namespace OutsideRequests

variable {β : Type} {figure : Part → β} (out : OutsideRequests figure)
include out

theorem close (s : Part) : figure s.close = figure s := out.link s s.link.kick

theorem actOn (d : Decoded) (s : Part) : figure (s.actOn d).1 = figure s := by
  cases d with
  | request i => exact out.serve i s
  | refuse code field => rfl
  | refuseWrite code field => exact Part.configWrite_keeps figure s _ (fun p => out.link p _) fun _ => rfl

/-- What becomes of the request in hand is the link port's. -/
theorem settle (tag kind : Byte) (r : Part × Verdict) : figure (Part.settle tag kind r) = figure r.1 := by
  unfold Part.settle
  split <;> exact out.link _ _

theorem take (s : Part) (tag kind : Byte) {act : Part → Part × Verdict} (keeps : ∀ p, figure (act p).1 = figure p) :
    figure (s.take tag kind act) = figure s :=
  (out.settle tag kind _).trans ((keeps _).trans (out.link s _))

theorem takeBody (s : Part) (body : List Byte) : figure (s.takeBody body) = figure s := out.take s _ _ (out.actOn _)

theorem pumpFrom (bodies : List (List Byte)) (s : Part) : figure (Part.pumpFrom bodies s) = figure s := by
  induction bodies generalizing s with
  | nil => exact out.link s _
  | cons body rest ih =>
    unfold Part.pumpFrom
    split
    · exact out.link s _
    · exact (ih _).trans ((out.takeBody _ body).trans (out.link s _))

theorem receiveBody (s : Part) (body : List Byte) : figure (s.receiveBody body) = figure s :=
  (out.pumpFrom _ _).trans (out.link s _)

theorem receiveByte (s : Part) (b : Byte) : figure (s.receiveByte b) = figure s := by
  simp only [Part.receiveByte]
  split
  · exact (out.receiveBody _ _).trans (out.link s _)
  · exact out.link s _

theorem receiveBytes (bytes : List Byte) (s : Part) : figure (bytes.foldl Part.receiveByte s) = figure s :=
  foldl_keeps figure Part.receiveByte out.receiveByte bytes s

theorem request (s : Part) (i : Instr) (tag kind : Byte) : figure (s.request i tag kind (Part.serve i)) = figure s := by
  unfold Part.request
  split
  · exact out.take s tag kind (out.serve i)
  · exact out.receiveBody s _

/-- A frame sent whole keeps what a restart keeps. -/
theorem frameSent (restarts : ∀ s : Part, figure s.restarted = figure s) (s : Part) : figure s.frameSent = figure s := by
  unfold Part.frameSent
  split
  · exact restarts s
  · exact (out.pumpFrom _ _).trans (out.link s _)

end OutsideRequests

/-- No request moves the running calendar: the calendar writes move the edit copy (R18 to R21). -/
theorem runningCopy_outsideRequests : OutsideRequests fun p => p.cal.running where
  link _ _ := rfl
  serve i s := by cases i <;> simp [Part.serve]

/-- A restart keeps the working configuration, the running calendar among it (R199). -/
@[simp] theorem Part.restarted_runningCopy (s : Part) : s.restarted.cal.running = s.cal.running := by
  simp only [Part.restarted]
  split <;> simp [Part.started, Calendar.atStart, Part.working]

/-! ### A commit -/

/-- From p to q a minute boundary puts p's pending edit copy in the place of the running calendar (R26). -/
structure Part.Commits (p q : Part) : Prop where
  pending : p.cal.editor = .pending q.cal.running
  editor : q.cal.editor = .noEdit
  unsaved : q.link.unsaved = true
  minute : q.clock.weekMinute = (p.clock.weekMinute + 1) % 10080
  second : q.clock.second = 0

/-- The running calendar stays, or a commit replaces it. -/
def Part.KeepsOrCommits (p q : Part) : Prop := q.cal.running = p.cal.running ∨ p.Commits q

/-- A cycle that wraps the second ends a minute. -/
theorem Clock.cycle_of_wraps {c : Clock} (ch : Channel) (wraps : c.wraps = true) :
    (c.cycle ch).weekMinute = (c.weekMinute + 1) % 10080 ∧ (c.cycle ch).second = 0 := by
  refine ⟨by simp [Clock.count_weekMinute, wraps], ?_⟩
  simp only [Clock.cycle_keeps]
  simp only [Clock.wraps, Bool.and_eq_true, decide_eq_true_eq] at wraps
  obtain ⟨past, minute⟩ : 32768 ≤ c.tick + c.correction.advance ∧ 59 ≤ c.second := wraps
  rcases c.count_cases with ⟨within, -⟩ | ⟨-, early, -⟩ | ⟨-, -, h⟩
  · omega
  · omega
  · rw [h]

/-- A crystal cycle keeps the running calendar, but for the commit of a minute boundary (R26). -/
theorem Part.cycle_keepsOrCommits (s : Part) : s.KeepsOrCommits s.cycle := by
  by_cases wraps : s.clock.wraps = true
  · cases editor : s.cal.editor with
    | pending copy =>
      obtain ⟨minute, second⟩ := Clock.cycle_of_wraps s.boardChannel wraps
      have unsaved := Link.unsaved_of_marked (Part.boundary_still { s with clock := s.clock.cycle s.boardChannel })
      have commit := Calendar.commit_of_pending editor
      have cal : s.cycle.cal = s.cal.atBoundary (s.clock.cycle s.boardChannel) := by
        rw [Part.cycle_of_wraps wraps, Part.boundary_cal]
      rw [← Part.cycle_of_wraps wraps] at unsaved
      right
      constructor
      · rw [cal, Calendar.atBoundary, commit, editor]
      · rw [cal, Calendar.atBoundary, commit]
      · simpa [editor, Editor.isPending] using unsaved
      · rw [Part.cycle_clock, minute]
      · rw [Part.cycle_clock, second]
    | noEdit | editing _ =>
      left
      rw [Part.cycle_of_wraps wraps, Part.boundary_cal, Calendar.atBoundary]
      dsimp only
      rw [Calendar.commit_of_not_pending (by simp [editor, Editor.isPending])]
  · left
    rw [Part.cycle_of_not_wraps wraps]

/-- The marks up to a minute's end leave the week minute. -/
@[simp] theorem Clock.raiseMarks_weekMinute (c : Clock) (ch : Channel) (n : Nat) :
    (Clock.raiseMarks ch n c).weekMinute = c.weekMinute := by
  induction n generalizing c with
  | zero => rfl
  | succ n ih => exact (ih _).trans (by simp)

/-- The cycles that pass before a boundary's own move no calendar and no week minute. -/
theorem Part.KeepsOrCommits.of_clock {p q : Part} {c : Clock} (minute : c.weekMinute = p.clock.weekMinute)
    (h : Part.KeepsOrCommits { p with clock := c } q) : p.KeepsOrCommits q := by
  rcases h with kept | commits
  · exact .inl kept
  · exact .inr { commits with minute := minute ▸ commits.minute }

/-! ### Every command -/

/-- The rows that let crystal cycles pass. -/
def cycleRows : List Instr := [.crystalCycle, .correctionCycle, .quarterSecondMark, .minuteBoundary]

/-- A command that acts makes of the running calendar what its operation does; a part held in reset keeps it. -/
theorem Part.KeepsOrCommits.of_act {s t : State} {f : Part → Part} (h : s.act f = .next t)
    (moves : ∀ p : Part, p.KeepsOrCommits (f p)) : s.part.KeepsOrCommits t.part := by
  rcases State.act_cases h with ⟨-, held⟩ | ⟨-, ran⟩
  · exact .inl (by rw [held])
  · rw [ran]
    rcases moves s.part with kept | commits
    · exact .inl kept
    · exact .inr { commits with unsaved := (f s.part).close_unsaved.trans commits.unsaved }

/-- The rows of the clock keep the running calendar but for a commit. -/
theorem exec_cycleRow {c : Instr} {s t : State} (row : c ∈ cycleRows) (h : exec c s = .next t) :
    s.part.KeepsOrCommits t.part := by
  simp only [cycleRows, List.mem_cons, List.not_mem_nil, or_false] at row
  rcases row with rfl | rfl | rfl | rfl
  · exact .of_act ((exec_crystalCycle s).symm.trans h) Part.cycle_keepsOrCommits
  · exact .of_act ((exec_correctionCycle s).symm.trans h) Part.cycle_keepsOrCommits
  · exact .of_act ((exec_quarterSecondMark s).symm.trans h) fun p =>
      .of_clock (c := p.clock.toQuarterEnd) rfl (Part.cycle_keepsOrCommits { p with clock := p.clock.toQuarterEnd })
  · exact .of_act ((exec_minuteBoundary s).symm.trans h) fun p =>
      .of_clock (c := p.clock.toMinuteEnd p.boardChannel) (Clock.raiseMarks_weekMinute _ _ _)
        (Part.cycle_keepsOrCommits { p with clock := p.clock.toMinuteEnd p.boardChannel })

/-- A command that acts keeps what its operation keeps. -/
theorem runningCopy_of_act {s t : State} {f : Part → Part} (h : s.act f = .next t)
    (keeps : ∀ p : Part, (f p).cal.running = p.cal.running) : t.part.cal.running = s.part.cal.running := by
  rcases State.act_cases h with ⟨-, held⟩ | ⟨-, ran⟩
  · rw [held]
  · rw [ran]
    exact keeps s.part

/-- Every command but a clock's row and POWER_ON keeps the running calendar. -/
theorem exec_runningCopy {c : Instr} {s t : State} (h : exec c s = .next t) (row : c ∉ cycleRows)
    (starts : ∀ straps reads, c ≠ .powerOn straps reads) : t.part.cal.running = s.part.cal.running := by
  have out := runningCopy_outsideRequests
  cases request : inCatalogue c
  case true =>
    rw [exec_request c s request] at h
    exact runningCopy_of_act h fun p => out.request p c _ _
  case false =>
    cases c <;> simp [inCatalogue, encodeRequest] at request
    case powerOn straps reads => exact absurd rfl (starts straps reads)
    case crystalCycle | correctionCycle | quarterSecondMark | minuteBoundary => exact absurd (by simp [cycleRows]) row
    case resetAsserted =>
      rw [exec_resetAsserted] at h
      cases h
      rfl
    case linkFrameReceived length body high low =>
      exact runningCopy_of_act ((exec_linkFrameReceived length body high low s).symm.trans h) (out.receiveBytes _)
    case linkByteReceived byte =>
      exact runningCopy_of_act ((exec_linkByteReceived byte s).symm.trans h) (out.receiveByte · byte)
    case requestUnknownKind kind tag fields =>
      exact runningCopy_of_act ((exec_requestUnknownKind kind tag fields s).symm.trans h) (out.receiveBody · _)
    case linkFrameSent =>
      exact runningCopy_of_act ((exec_linkFrameSent s).symm.trans h) (out.frameSent Part.restarted_runningCopy)
    case restartEffect =>
      refine runningCopy_of_act ((exec_restartEffect s).symm.trans h) fun p => ?_
      unfold Part.takeRestart
      split <;> simp
    case stationFrameRejected heard =>
      exact runningCopy_of_act ((exec_stationFrameRejected heard s).symm.trans h) fun p =>
        congrArg Calendar.running (p.receive_keeps heard).2.1
    all_goals
      simp only [exec_linkGapTimeout, exec_saveComplete, exec_zoneEvaluation,
        exec_evaluationTimerExpiry, exec_freezeGuardEdge, exec_presenceTimerExpiry, exec_runOnExpiry,
        exec_scanTimerExpiry, exec_fastScanTimerExpiry, exec_conversionComplete, exec_validAgeSecond,
        exec_gasConversion, exec_holdCheck, exec_groupDemandCompute, exec_frameStart, exec_arbitrationLost,
        exec_doorReport, exec_hello, exec_statusReport, exec_presenceReport, exec_answerSent, exec_queryAnswer,
        exec_setOutputsAnswer, exec_noAnswer, exec_lineRest, exec_lineClearReceived, exec_lineStuck, exec_stuckRelease,
        exec_lineDead, exec_deadProbe, exec_drivingEdge, exec_silenceTimerExpiry, exec_probeTimerExpiry,
        exec_doorSecondTick, exec_phaseHandoffDoorLine, exec_allocationPass, exec_spacingTimerExpiry, exec_minOnExpiry,
        exec_minOffExpiry, exec_capExpiry, exec_outputRefreshLatch, exec_periodicRefresh, exec_dimPeriodStart] at h
      exact runningCopy_of_act h fun p => by simp [apply_ite Part.cal]

/-- A power-on starts with the calendar of the store's good image, or of the factory (R196). -/
theorem Part.powerUp_runningCopy (s : Part) (straps : BitVec 2) (reads : Bool) :
    (s.powerUp straps reads).cal.running =
      ((if reads = true ∧ s.link.saving = none then s.link.store else none).getD WorkingConfig.factory).calendar := by
  have image : s.link.imageRead reads = if reads = true ∧ s.link.saving = none then s.link.store else none := by
    simp [Link.imageRead]
  rw [← image]
  rfl

@[simp] theorem State.idle_cal (s : State) : s.idle.part.cal = s.part.cal := by
  unfold State.idle
  split <;> simp

/-- Settles O22: a commit among the cycles of the clock's rows, the image of a power-on, and no other command. -/
theorem theRunningCalendarChangesOnlyByCommit : Obligations.TheRunningCalendarChangesOnlyByCommit := by
  intro s t h
  cases front : s.pending with
  | nil =>
    rw [step_of_empty front] at h
    cases h
    exact .inl (by rw [State.idle_cal])
  | cons c rest =>
    rw [step_of_front front] at h
    by_cases row : c ∈ cycleRows
    · rcases exec_cycleRow row h with kept | commits
      · exact .inl kept
      · have moves : t.part.clock.weekMinute ≠ s.part.clock.weekMinute := by
          rw [commits.minute]
          dsimp only
          omega
        exact .inr (.inl ⟨commits.pending, commits.editor, commits.unsaved, moves, commits.minute, commits.second,
          rest, c, rfl, row⟩)
    · by_cases starts : ∃ straps reads, c = .powerOn straps reads
      · obtain ⟨straps, reads, rfl⟩ := starts
        rw [exec_powerOn] at h
        cases h
        exact .inr (.inr ⟨rest, straps, reads, rfl, s.part.powerUp_runningCopy straps reads⟩)
      · exact .inl (exec_runningCopy (s := { s with pending := rest }) h row fun straps reads power =>
          starts ⟨straps, reads, power⟩)

end Sys2Proof.Machine
end

section
/-! SUPPORT. The statement of the minute boundary (R26, R32, R34, R38 to R40), from what each stage of it posts and leaves to be
taken. -/

namespace Sys2Proof.Machine

/-! ### The clock of a boundary -/

@[simp] theorem Clock.raiseMarks_dayCount (c : Clock) (ch : Channel) (n : Nat) :
    (Clock.raiseMarks ch n c).dayCount = c.dayCount := by
  induction n generalizing c with
  | zero => rfl
  | succ n ih => exact (ih _).trans (by simp)

/-- The clock sent to the minute's end wraps its second, wherever it stood. -/
theorem Clock.toMinuteEnd_wraps (c : Clock) (ch : Channel) : (c.toMinuteEnd ch).wraps = true := by
  simp [Clock.wraps, Clock.toMinuteEnd, Config.ticksPerSecond, Correction.advance]

/-- The cycle that ends the minute brings the clock to the next one (R2). -/
theorem Clock.toMinuteEnd_cycle_counters (c : Clock) (ch : Channel) :
    ((c.toMinuteEnd ch).cycle ch).weekMinute = (c.weekMinute + 1) % 10080 ∧ ((c.toMinuteEnd ch).cycle ch).second = 0 ∧
      ((c.toMinuteEnd ch).cycle ch).tick = 0 ∧ ((c.toMinuteEnd ch).cycle ch).state = c.state ∧
      ((c.toMinuteEnd ch).cycle ch).dayCount =
        if (c.weekMinute + 1) % 10080 % 1440 = 0 then (c.dayCount + 1) % 65536 else c.dayCount := by
  have week : (c.toMinuteEnd ch).weekMinute = c.weekMinute := Clock.raiseMarks_weekMinute c ch _
  have day : (c.toMinuteEnd ch).dayCount = c.dayCount := Clock.raiseMarks_dayCount c ch _
  have state : (c.toMinuteEnd ch).state = c.state := Clock.raiseMarks_state c ch _
  have ticks : (c.toMinuteEnd ch).tick + (c.toMinuteEnd ch).correction.advance = 32768 := rfl
  have second : (c.toMinuteEnd ch).second = 59 := rfl
  simp only [Clock.cycle_keeps]
  rcases (c.toMinuteEnd ch).count_cases with ⟨within, -⟩ | ⟨-, early, -⟩ | ⟨-, -, h⟩
  · omega
  · omega
  · rw [h]
    simp only [week, day, state, ticks, Nat.sub_self, and_self]

/-! ### The CALENDAR notice (R26) -/

/-- The entries of a table, by number. -/
theorem Tab.list_eq {α : Type} [Inhabited α] {size : Nat} (v : Vector α size) :
    Tab.list v = (List.range size).map (Tab.get v) := by
  refine List.ext_getElem (by simp [Tab.list]) fun i low high => ?_
  have within : i < size := by simpa using high
  simp [Tab.list, Tab.get, Vector.getD, within]

/-- The records of a table that meet a condition, counted by number. -/
theorem Tab.list_count {α : Type} [Inhabited α] {size : Nat} (v : Vector α size) (used : α → Bool) :
    ((Tab.list v).filter used).length = ((List.range size).filter fun n => used (Tab.get v n)).length := by
  rw [Tab.list_eq, List.filter_map, List.length_map]
  rfl

/-- The CALENDAR notice of a boundary from p to q (R26). -/
def calendarTold (p q : Part) : List Posting :=
  let inUse := fun (n : Nat) (used : Nat → Bool) => ((List.range n).filter used).length
  let changed := (List.range 12).filter fun z => decide ((q.calZone z).effective ≠ (p.calZone z).effective)
  told (p.cal.editor.isPending = true) .calendar 0
    (u8 (inUse 42 fun n => (p.cal.commit.running.shift n).inUse) ++
      u8 (inUse 8 fun w => (p.cal.commit.running.window w).inUse) ++ u8 changed.length ++ u8 p.clock.state.code)

/-- A commit posts CALENDAR. -/
theorem Part.boundaryTold_posts (s q : Part) (zones : q.cal.zones = s.boundaryPassed.cal.zones) :
    Posts (calendarTold s q) s s.boundaryTold := by
  have effective (z : Nat) : s.boundaryPassed.effective z = (q.calZone z).effective :=
    congrArg (fun v => (Tab.get v z).effective) zones.symm
  cases pending : s.cal.editor.isPending
  · simp only [calendarTold, told, Part.boundaryTold, pending, Bool.false_eq_true, if_false]
    exact .nothing rfl
  · simp only [calendarTold, told, Part.boundaryTold, pending, if_true]
    have posts := Posts.post s.boundaryPassed .calendar 0
      (u8 ((Tab.list s.cal.commit.running.shifts).filter (·.inUse)).length ++
        u8 ((Tab.list s.cal.commit.running.windows).filter (·.inUse)).length ++
        u8 (s.boundaryPassed.changedZones s.cal.zones).length ++ u8 s.clock.state.code)
    simp only [Tab.list_count, Part.changedZones, effective] at posts
    simp only [Part.postCalendar, Tab.list_count, Part.changedZones, effective]
    exact posts

/-! ### The ends of the overrides (R38) -/

/-- The OVERRIDE_END notice of zone z: its sort, its reason, the override's phase or level, and the effective phase after the
end (R38). -/
def endTold (z : Nat) (light cancelled : Bool) (what : Nat) (phase : Phase) : Posting :=
  { kind := .overrideEnd, subject := z, detail := flagByte light ++ flagByte cancelled ++ u8 what ++ u8 phase.code }

theorem Part.postOverrideEnd_posts (s : Part) (z : Nat) (light cancelled : Bool) (what : Nat) :
    Posts [endTold z light cancelled what (s.effective z).phase] s (s.postOverrideEnd z light cancelled what) :=
  Posts.post s .overrideEnd z _

/-- The overrides of a sort that end at a boundary: those with no more than a minute left. -/
def CalZone.phaseEnds (old : CalZone) : List PhaseOverride := old.phaseOverride.toList.filter fun o => decide (o.minutes ≤ 1)

def CalZone.lightEnds (old : CalZone) : List LightOverride := old.lightOverride.toList.filter fun o => decide (o.minutes ≤ 1)

/-- The OVERRIDE_END notices of zone z with record old, its effective phase after the boundary given. -/
def CalZone.endsTold (old : CalZone) (z : Nat) (phase : Phase) : List Posting :=
  old.phaseEnds.map (fun o => endTold z false false o.kind.phase.code phase) ++
    old.lightEnds.map fun o => endTold z true false o.level phase

/-- What the ends of zone z's overrides leave to be taken: the evaluation that a light override's end starts (R117). -/
def CalZone.endsLeave (old : CalZone) (z : Nat) : List Due := old.lightEnds.map fun _ => .evaluate z

/-- The end of a phase override, noted where its minutes have run out. -/
def Part.notePhaseEnd (s : Part) (z : Nat) : Option PhaseOverride → Part
  | none => s
  | some o => if o.minutes ≤ 1 then s.postOverrideEnd z false false o.kind.phase.code else s

/-- The end of a light override, noted where its minutes have run out. -/
def Part.noteLightEnd (s : Part) (z : Nat) : Option LightOverride → Part
  | none => s
  | some o => if o.minutes ≤ 1 then (s.postOverrideEnd z true false o.level).owe (.evaluate z) else s

/-- An override at a boundary: ended with no more than a minute left, else counted down by one (R38). -/
theorem PhaseOverride.pass_eq (o : PhaseOverride) :
    o.pass = if o.minutes ≤ 1 then none else some { o with minutes := o.minutes - 1 } := by
  unfold PhaseOverride.pass countdown
  split <;> rfl

theorem LightOverride.pass_eq (o : LightOverride) :
    o.pass = if o.minutes ≤ 1 then none else some { o with minutes := o.minutes - 1 } := by
  unfold LightOverride.pass countdown
  split <;> rfl

/-- The ends that a boundary notes of a zone are those of the overrides whose minutes have run out. -/
theorem Part.noteEnds_eq {s : Part} {z : Nat} {old : CalZone} {st : Standing} (now : s.calZone z = old.boundary st) :
    s.noteEnds z old = (s.notePhaseEnd z old.phaseOverride).noteLightEnd z old.lightOverride := by
  simp only [Part.noteEnds, now, CalZone.boundary, CalZone.resolved]
  cases old.phaseOverride with
  | none =>
    cases old.lightOverride with
    | none => rfl
    | some l => by_cases light : l.minutes ≤ 1 <;> simp [Part.notePhaseEnd, Part.noteLightEnd, LightOverride.pass_eq, light]
  | some o =>
    by_cases phase : o.minutes ≤ 1 <;> cases old.lightOverride with
    | none => simp [Part.notePhaseEnd, Part.noteLightEnd, PhaseOverride.pass_eq, phase]
    | some l =>
      by_cases light : l.minutes ≤ 1 <;>
        simp [Part.notePhaseEnd, Part.noteLightEnd, PhaseOverride.pass_eq, LightOverride.pass_eq, phase, light]

/-- A zone's end of a phase override is posted as it is noted. -/
theorem Part.notePhaseEnd_hands (s : Part) (z : Nat) (old : CalZone) :
    Posts (old.phaseEnds.map fun o => endTold z false false o.kind.phase.code (s.effective z).phase) s
        (s.notePhaseEnd z old.phaseOverride) ∧
      (s.notePhaseEnd z old.phaseOverride).due = s.due ∧ (s.notePhaseEnd z old.phaseOverride).cal = s.cal ∧
      (s.notePhaseEnd z old.phaseOverride).clock = s.clock ∧
      (s.notePhaseEnd z old.phaseOverride).link.still = s.link.still := by
  unfold CalZone.phaseEnds
  cases old.phaseOverride with
  | none => exact ⟨.nothing rfl, rfl, rfl, rfl, rfl⟩
  | some o =>
    by_cases ended : o.minutes ≤ 1
    · simpa [Part.notePhaseEnd, ended] using s.postOverrideEnd_posts z false false o.kind.phase.code
    · simpa [Part.notePhaseEnd, ended] using Posts.nothing (p := s) rfl

/-- A zone's end of a light override is posted as it is noted, and starts an evaluation (R117). -/
theorem Part.noteLightEnd_hands (s : Part) (z : Nat) (old : CalZone) :
    Posts (old.lightEnds.map fun o => endTold z true false o.level (s.effective z).phase) s
        (s.noteLightEnd z old.lightOverride) ∧
      (s.noteLightEnd z old.lightOverride).due = s.due ++ old.endsLeave z ∧
      (s.noteLightEnd z old.lightOverride).clock = s.clock := by
  unfold CalZone.endsLeave CalZone.lightEnds
  cases old.lightOverride with
  | none => exact ⟨.nothing rfl, by simp [Part.noteLightEnd], rfl⟩
  | some o =>
    by_cases ended : o.minutes ≤ 1
    · have posts : Posts _ s ((s.postOverrideEnd z true false o.level).owe (.evaluate z)) :=
        s.postOverrideEnd_posts z true false o.level
      simpa [Part.noteLightEnd, ended, Part.due_owe] using posts
    · simpa [Part.noteLightEnd, ended] using Posts.nothing (p := s) rfl

theorem Part.noteEnds_hands {s : Part} {z : Nat} {old : CalZone} {st : Standing} (now : s.calZone z = old.boundary st) :
    Posts (old.endsTold z (s.effective z).phase) s (s.noteEnds z old) ∧
      (s.noteEnds z old).due = s.due ++ old.endsLeave z := by
  obtain ⟨phase, due, cal, clock, still⟩ := s.notePhaseEnd_hands z old
  obtain ⟨light, due', clock'⟩ := (s.notePhaseEnd z old.phaseOverride).noteLightEnd_hands z old
  have effective : (s.notePhaseEnd z old.phaseOverride).effective z = s.effective z :=
    congrArg (fun c : Calendar => (Tab.get c.zones z).effective) cal
  rw [effective] at light
  rw [Part.noteEnds_eq now]
  exact ⟨phase.append light (Link.mask_of_still still) clock'.symm (Link.transmitter_of_still still), by rw [due', due]⟩

/-- The ends of several zones' overrides, noted one zone after another. -/
theorem Part.noteList_hands (old : Vector CalZone 12) (standing : Nat → Standing) (l : List Nat) (s : Part)
    (now : ∀ z ∈ l, s.calZone z = (Tab.get old z).boundary (standing z)) :
    let q := s.forEach l fun s z => s.noteEnds z (Tab.get old z)
    Posts (l.flatMap fun z => (Tab.get old z).endsTold z (s.effective z).phase) s q ∧
      q.due = s.due ++ l.flatMap fun z => (Tab.get old z).endsLeave z := by
  induction l generalizing s with
  | nil => exact ⟨.nothing rfl, by simp [Part.forEach]⟩
  | cons z rest ih =>
    obtain ⟨posts, due⟩ := Part.noteEnds_hands (now z (by simp))
    have zones (y : Nat) : (s.noteEnds z (Tab.get old z)).calZone y = s.calZone y := by simp [Part.calZone]
    obtain ⟨later, dues⟩ := ih (s.noteEnds z (Tab.get old z)) fun y member => (zones y).trans (now y (by simp [member]))
    simp only [Part.effective, zones] at later
    refine ⟨posts.append later ?_ ?_ ?_, dues.trans ?_⟩
    · exact Link.mask_of_still (by simp)
    · exact (Part.forEach_clock _ (fun s z => by simp) rest _).symm
    · exact Link.transmitter_of_still (by simp)
    · rw [due, List.flatMap_cons, List.append_assoc]

/-! ### Hand-offs and the window limit -/

/-- The window limit computed after hand-offs that leave no limit to be taken, told from the part p before them (R39, R40). -/
theorem Part.recomputeWindow_after {p h : Part} (limit : h.cal.handedLimit = p.cal.handedLimit)
    (waits : h.due.countP waitingLimit = p.due.countP waitingLimit) :
    (h.recomputeWindow.cal.handedLimit ≠ p.cal.handedLimit →
        h.recomputeWindow.lb.window = h.recomputeWindow.cal.handedLimit) ∧
      h.recomputeWindow.due = limitsTaken p h.recomputeWindow h.due ∧
      PostsBudget (windowPasses p h.recomputeWindow) h h.recomputeWindow := by
  obtain ⟨cal, window, due, posts⟩ := h.recomputeWindow_hands
  have computed : h.recomputeWindow.cal.handedLimit = h.windowNow.map (·.1) := by rw [cal]
  refine ⟨fun changed => ?_, ?_, ?_⟩
  · rw [computed] at changed ⊢
    exact window (by rwa [limit])
  · rwa [limitsTaken, limit] at due
  · rwa [windowPasses, limit, waits] at posts

/-- A limit window computed and taken is handed, no older one left to be taken where it changes (R40). -/
theorem WindowHanded.of_taken {p q : Part} {due : List Due} (limit : q.cal.handedLimit = q.cal.activeWindow.map (·.1))
    (window : q.cal.handedLimit ≠ p.cal.handedLimit → q.lb.window = q.cal.handedLimit)
    (taken : q.due = limitsTaken p q due) : WindowHanded p q := by
  refine ⟨limit, fun changed => ?_⟩
  rw [← limit] at changed ⊢
  refine ⟨window changed, fun w => ?_⟩
  rw [limitsTaken, if_neg changed] at taken
  constructor <;> intro member <;> rw [taken] at member <;> simp [waitingLimit] at member

/-- What a boundary's ends and hand-offs leave to be taken is no window limit. -/
theorem boundaryDue_no_limit (p q : Part) (commits : Bool) :
    ((List.range 12).flatMap (fun z => (p.calZone z).endsLeave z) ++
      (List.range 12).flatMap (handedOn p q commits)).countP waitingLimit = 0 := by
  refine List.countP_eq_zero.2 fun d member => ?_
  rcases List.mem_append.1 member with ended | handed
  · obtain ⟨z, -, member⟩ := List.mem_flatMap.1 ended
    obtain ⟨o, -, rfl⟩ := List.mem_map.1 member
    exact Bool.false_ne_true
  · obtain ⟨z, -, member⟩ := List.mem_flatMap.1 handed
    simp [handedOn_no_limit p q commits z d member]

/-! ### A whole boundary -/

/-- A zone's record after a boundary. -/
theorem Part.boundary_calZone (s : Part) {z : Nat} (hz : z < 12) :
    s.boundary.calZone z =
      (s.calZone z).boundary (s.cal.commit.running.resolve s.clock.state z s.clock.weekMinute) := by
  rw [Part.calZone, Part.boundary_cal]
  exact Tab.get_build _ _ _ hz

/-- The calendar unit's zones stand as the countdown and the resolution leave them. -/
theorem Part.boundary_zones (s : Part) : s.boundary.cal.zones = s.boundaryPassed.cal.zones := by
  rw [s.boundary_cal, s.boundaryPassed_cal]
  rfl

/-- The ends of the overrides at a boundary: their notices, and the evaluations that they start. -/
theorem Part.boundaryEnded_hands (s : Part) :
    Posts ((List.range 12).flatMap fun z => (s.calZone z).endsTold z (s.boundary.calZone z).effective.phase)
        s.boundaryTold s.boundaryEnded ∧
      s.boundaryEnded.due = s.due ++ (List.range 12).flatMap fun z => (s.calZone z).endsLeave z := by
  obtain ⟨cal, -, -, due, -⟩ := s.boundaryTold_keeps
  have zone (z : Nat) : s.boundaryTold.calZone z = s.boundary.calZone z := by
    rw [Part.calZone, Part.calZone, cal, s.boundary_zones]
  obtain ⟨posts, dues⟩ := Part.noteList_hands s.cal.zones _ (List.range 12) s.boundaryTold fun z member =>
    (zone z).trans (s.boundary_calZone (List.mem_range.1 member))
  simp only [Part.effective, zone] at posts
  rw [due] at dues
  exact ⟨posts, dues⟩

/-- The hand-off of the zones at a boundary, told by the part it ends with. -/
theorem Part.boundaryHanded_hands (s : Part) :
    PhasesTakenUp s s.boundary s.cal.editor.isPending ∧
      s.boundaryHanded.due = s.due ++ ((List.range 12).flatMap (fun z => (s.calZone z).endsLeave z) ++
        (List.range 12).flatMap (handedOn s s.boundary s.cal.editor.isPending)) ∧
      Posts ((List.range 12).flatMap (phaseTold s s.boundary)) s.boundaryEnded s.boundaryHanded := by
  obtain ⟨-, -, conditioner, -⟩ := s.boundaryEnded_keeps
  obtain ⟨taken, due⟩ := Part.handZones_hands s s.boundaryEnded s.cal.editor.isPending conditioner
  have posts := Part.handZones_posts s s.boundaryEnded s.cal.editor.isPending
  have zc : s.boundary.zc = s.boundaryHanded.zc := by simp [Part.boundary_eq]
  have handed : s.boundaryHanded.cal = s.boundaryPassed.cal := s.boundaryHanded_keeps.1
  have zones : s.boundary.cal.zones = s.boundaryHanded.cal.zones := by rw [s.boundary_zones, handed]
  have running : s.boundary.cal.running = s.boundaryHanded.cal.running := by simp [Part.boundary_eq]
  refine ⟨PhasesTakenUp.congr zc zones taken, due.trans ?_, ?_⟩
  · rw [s.boundaryEnded_hands.2, List.append_assoc,
      List.flatMap_congr fun z _ => handedOn_congr zc zones running s.cal.editor.isPending z]
    rfl
  · rw [List.flatMap_congr fun z _ => phaseTold_congr zones z]
    exact posts

/-- What a boundary hands on and posts (R32, R34, R38, R40). -/
theorem Part.boundary_hands (s : Part) :
    (s.boundary.cal.handedLimit ≠ s.cal.handedLimit → s.boundary.lb.window = s.boundary.cal.handedLimit) ∧
      s.boundary.due = limitsTaken s s.boundary
        (s.due ++ (List.range 12).flatMap (fun z => (s.calZone z).endsLeave z) ++
          (List.range 12).flatMap (handedOn s s.boundary s.cal.editor.isPending)) ∧
      PostsAround
        (calendarTold s s.boundary ++
          (List.range 12).flatMap (fun z => (s.calZone z).endsTold z (s.boundary.calZone z).effective.phase) ++
          (List.range 12).flatMap (phaseTold s s.boundary))
        (windowPasses s s.boundary) [] s s.boundary := by
  obtain ⟨-, due, phases⟩ := s.boundaryHanded_hands
  obtain ⟨cal, clock, still⟩ := s.boundaryHanded_keeps
  obtain ⟨-, clockEnded, -, stillEnded⟩ := s.boundaryEnded_keeps
  obtain ⟨-, clockTold, -, -, stillTold⟩ := s.boundaryTold_keeps
  have limit : s.boundaryHanded.cal.handedLimit = s.cal.handedLimit := by
    rw [cal, s.boundaryPassed_cal]
    exact s.cal.commit_keeps.2.2
  have waits : s.boundaryHanded.due.countP waitingLimit = s.due.countP waitingLimit := by
    rw [due, List.countP_append, boundaryDue_no_limit, Nat.add_zero]
  obtain ⟨window, taken, passes⟩ := Part.recomputeWindow_after limit waits
  rw [← s.boundary_eq] at window taken passes
  refine ⟨window, ?_, ?_⟩
  · rw [List.append_assoc, ← due]
    exact taken
  · have told := s.boundaryTold_posts s.boundary s.boundary_zones
    have ended := told.append s.boundaryEnded_hands.1 (Link.mask_of_marked stillTold) (clockTold.trans clockEnded.symm)
      (Link.transmitter_of_marked stillTold)
    have first := ended.append phases (Link.mask_of_marked stillEnded) (clockEnded.trans clock.symm)
      (Link.transmitter_of_marked stillEnded)
    have sent := s.boundary_still
    exact PostsAround.of_pieces first passes (Posts.nothing rfl) (Link.mask_of_marked sent)
      (Link.transmitter_of_marked still) (Link.transmitter_of_marked sent) (by simp [Part.boundary_eq])

/-- Of the other pieces of the part a boundary moves nothing. -/
theorem Part.boundary_changesOnly (s : Part) :
    ChangesOnly [.clock, .runningCalendar, .editor, .zonePhases, .limitWindow, .doorLine, .conditioner, .budget, .settings,
      .notices, .handed] s s.boundary.close := by
  have link {α : Type} (figure : Link → α)
      (reads : ∀ (l : Link) (u : Bool), figure l = figure { l with unsaved := u }.still) :
      figure s.boundary.link = figure s.link := Link.figure_of_marked figure reads s.boundary_still
  intro piece other
  cases piece
  case measurement => simp [Piece.Same]
  case airQuality => simp [Piece.Same]
  case running => simp [Piece.Same]
  case receiver =>
    simp only [Piece.Same, Part.close, Link.kick_receiver, Link.kick_holding, Link.kick_errors]
    exact ⟨link (·.receiver) fun _ _ => rfl, link (·.holding) fun _ _ => rfl, link (·.errors) fun _ _ => rfl⟩
  case replies =>
    simp only [Piece.Same, Part.close, Link.kick_outgoing, Link.kick_inHand, Link.kick_deferredMeasure,
      Link.kick_deferredSave]
    exact ⟨link (·.outgoing) fun _ _ => rfl, link (·.inHand) fun _ _ => rfl, link (·.deferredMeasure) fun _ _ => rfl,
      link (·.deferredSave) fun _ _ => rfl⟩
  case sending => exact fun sends => Part.close_sending (Link.transmitter_of_marked s.boundary_still) sends
  all_goals exact absurd (by simp) other

/-- What a part has of a minute boundary from another whose clock was brought to the next minute. -/
structure BoundaryTaken (p : Part) (clock : Clock) (q : Part) : Prop where
  time : q.clock = clock
  cal : q.cal = p.cal.atBoundary clock
  unsaved : q.link.unsaved = (p.link.unsaved || p.cal.editor.isPending)
  phases : PhasesTakenUp p q p.cal.editor.isPending
  window : q.cal.handedLimit ≠ p.cal.handedLimit → q.lb.window = q.cal.handedLimit
  due : q.due = limitsTaken p q
    (p.due ++ (List.range 12).flatMap (fun z => (p.calZone z).endsLeave z) ++
      (List.range 12).flatMap (handedOn p q p.cal.editor.isPending))
  posts : PostsAround
    (calendarTold p q ++
      (List.range 12).flatMap (fun z => (p.calZone z).endsTold z (q.calZone z).effective.phase) ++
      (List.range 12).flatMap (phaseTold p q))
    (windowPasses p q) [] p q
  others : ChangesOnly [.clock, .runningCalendar, .editor, .zonePhases, .limitWindow, .doorLine, .conditioner, .budget,
    .settings, .notices, .handed] p q

theorem Part.boundary_taken (s : Part) : BoundaryTaken s s.clock s.boundary.close := by
  obtain ⟨window, due, posts⟩ := s.boundary_hands
  have phases := s.boundaryHanded_hands.1
  have cal := s.boundary_cal
  have time : s.boundary.clock = s.clock := s.boundary_keeps.1
  have unsaved := Link.unsaved_of_marked s.boundary_still
  have others := s.boundary_changesOnly
  generalize s.boundary = q at window due posts phases cal time unsaved others ⊢
  exact { window, due, phases, cal, time, others
          unsaved := q.close_unsaved.trans unsaved
          posts := PostsAround.of_unsent q.close_unsent q.close_clock posts }

/-- Of the clock before it a boundary reads nothing. -/
theorem BoundaryTaken.of_clock {p q : Part} {clock : Clock} (state : clock.state = p.clock.state)
    (h : BoundaryTaken { p with clock := clock } clock q) : BoundaryTaken p clock q where
  time := h.time
  cal := h.cal
  unsaved := h.unsaved
  phases := h.phases
  window := h.window
  due := h.due
  posts := by
    have told : calendarTold { p with clock := clock } q = calendarTold p q := by
      unfold calendarTold
      rw [state]
      rfl
    rw [← told]
    exact h.posts
  others := by
    intro piece other
    have same := h.others piece other
    cases piece
    case clock => exact absurd (by simp) other
    all_goals exact same

/-- MINUTE_BOUNDARY is the boundary of the calendar unit with the clock at the next minute (R2, R32). -/
theorem Part.minuteBoundary_eq (s : Part) :
    Part.cycle { s with clock := s.clock.toMinuteEnd s.boardChannel } =
      Part.boundary { s with clock := (s.clock.toMinuteEnd s.boardChannel).cycle s.boardChannel } :=
  Part.cycle_of_wraps (Clock.toMinuteEnd_wraps _ _)

/-- Settles O31: the clock by the cycle that ends the minute, the calendar unit by its boundary (`Calendar.atBoundary`), the
hand-offs and notices by its stages (`Part.boundary_hands`). -/
theorem aMinuteBoundaryCommitsCountsDownAndResolves : Obligations.AMinuteBoundaryCommitsCountsDownAndResolves := by
  intro s runs range a m copy
  refine Ends.of_act (exec_minuteBoundary s) runs ?_
  rw [Part.minuteBoundary_eq]
  obtain ⟨week, second, tick, state, day⟩ := a.toMinuteEnd_cycle_counters s.part.boardChannel
  generalize (s.part.clock.toMinuteEnd s.part.boardChannel).cycle s.part.boardChannel = clock at week second tick state day
  have taken := (Part.boundary_taken { s.part with clock := clock }).of_clock state
  generalize (Part.boundary { s.part with clock := clock }).close = q at taken
  have committed : copy = s.part.cal.commit.running := by
    simp only [copy, Calendar.commit]
    cases s.part.cal.editor <;> rfl
  clear_value copy
  subst committed
  have zone {z : Nat} (hz : z < 12) :
      q.calZone z = (s.part.calZone z).boundary (s.part.cal.commit.running.resolve a.state z m) := by
    rw [Part.calZone, taken.cal, ← state, show m = clock.weekMinute from week.symm]
    exact Tab.get_build _ _ _ hz
  have clockAt := taken.time
  refine ⟨?week, ?second, ?tick, ?state, ?day, ?running, ?editor, taken.unsaved, fun z hz => ?phases, fun z hz => ?lights,
    fun z hz => ?effective, ?active, ?limit, taken.phases, taken.due, taken.posts, taken.others⟩
  case week => exact clockAt ▸ week
  case second => exact clockAt ▸ second
  case tick => exact clockAt ▸ tick
  case state => exact clockAt ▸ state
  case day => exact clockAt ▸ day
  case running =>
    rw [taken.cal]
    rfl
  case editor =>
    rw [taken.cal]
    simp only [Calendar.atBoundary, Calendar.commit]
    cases editor : s.part.cal.editor with
    | noEdit => exact editor
    | editing _ => exact editor
    | pending _ => rfl
  case phases =>
    rw [zone hz]
    exact ⟨rfl, Option.bind_congr fun o _ => o.pass_eq⟩
  case lights =>
    rw [zone hz]
    exact Option.bind_congr fun o _ => o.pass_eq
  case effective =>
    rw [zone hz]
    rfl
  case active =>
    rw [taken.cal, ← state, show m = clock.weekMinute from week.symm]
    rfl
  case limit =>
    refine WindowHanded.of_taken ?_ taken.window taken.due
    rw [taken.cal]
    rfl

end Sys2Proof.Machine
end

section
/-! SUPPORT. What a calendar copy says of a minute of the week: the statements of phase resolution (R29 to R31, R33) and of the
limit window (R39). -/

namespace Sys2Proof.Machine

/-! ### Windows (R29) -/

/-- A window covers a minute by what is left of the distance from its start, counted in whole weeks from any week. -/
theorem covers_iff {a weeks : Int} {w m n : Nat} (distance : (n : Int) = m - a + 10080 * weeks) :
    covers a w m = true ↔ n % 10080 < w := by
  have left : (((m : Int) - a) % 10080).toNat = n % 10080 := by omega
  simp only [covers, Config.minutesPerWeek, decide_eq_true_eq, Nat.cast_ofNat, left]

/-- A day of a mask meets a condition. -/
theorem anyDay_iff (days : BitVec 7) (p : Nat → Bool) :
    anyDay days p = true ↔ ∃ d < 7, days.getLsbD d = true ∧ p d = true := by
  simp [anyDay]

/-- An entry covers a minute for a zone by its window of the phase on a day of its mask (R29, R30). -/
theorem CalCopy.entryCovers_iff (c : CalCopy) (z m : Nat) (ph : Phase) (n : Nat) :
    c.entryCovers z m ph n = true ↔
      (c.shift n).inUse = true ∧ (c.shift n).zones.getLsbD z = true ∧
        ∃ d < 7, (c.shift n).days.getLsbD d = true ∧
          covers (phaseWindow (c.shift n) (c.profile (c.shift n).profile) d ph).1
            (phaseWindow (c.shift n) (c.profile (c.shift n).profile) d ph).2 m = true := by
  simp only [CalCopy.entryCovers, Bool.and_eq_true, anyDay_iff, and_assoc]

/-- An entry's phase window from some minutes of the day on, round the week. -/
def CalCopy.within (c : CalCopy) (z m n start width : Nat) : Prop :=
  (c.shift n).inUse = true ∧ (c.shift n).zones.getLsbD z = true ∧
    ∃ d < 7, (c.shift n).days.getLsbD d = true ∧ (m + 20160 - (d * 1440 + start)) % 10080 < width

/-- An entry's warm-up: its profile's lead before its start, round the week. -/
def CalCopy.warms (c : CalCopy) (z m n : Nat) : Prop :=
  ∃ d < 7, (c.shift n).inUse = true ∧ (c.shift n).zones.getLsbD z = true ∧ (c.shift n).days.getLsbD d = true ∧
    (m + 10080 + (c.profile (c.shift n).profile).lead - (d * 1440 + (c.shift n).start)) % 10080 <
      (c.profile (c.shift n).profile).lead

theorem CalCopy.entryCovers_active (c : CalCopy) (z m : Nat) {n : Nat} (start : (c.shift n).start < 1440) :
    c.entryCovers z m .active n = true ↔ c.within z m n (c.shift n).start (c.shift n).length := by
  have day {d : Nat} (hd : d < 7) := covers_iff (a := ((d * 1440 + (c.shift n).start : Nat) : Int)) (weeks := 2)
    (w := (c.shift n).length) (m := m) (n := m + 20160 - (d * 1440 + (c.shift n).start)) (by omega)
  rw [CalCopy.entryCovers_iff]
  exact and_congr_right fun _ => and_congr_right fun _ => exists_congr fun d => and_congr_right fun hd =>
    and_congr_right fun _ => day hd

theorem CalCopy.entryCovers_winddown (c : CalCopy) (z m : Nat) {n : Nat} (start : (c.shift n).start < 1440)
    (length : (c.shift n).length ≤ 960) :
    c.entryCovers z m .winddown n = true ↔
      c.within z m n ((c.shift n).start + (c.shift n).length) (c.profile (c.shift n).profile).hold := by
  have day {d : Nat} (hd : d < 7) := covers_iff
    (a := ((d * 1440 + (c.shift n).start + (c.shift n).length : Nat) : Int)) (weeks := 2)
    (w := (c.profile (c.shift n).profile).hold) (m := m)
    (n := m + 20160 - (d * 1440 + ((c.shift n).start + (c.shift n).length))) (by omega)
  rw [CalCopy.entryCovers_iff]
  exact and_congr_right fun _ => and_congr_right fun _ => exists_congr fun d => and_congr_right fun hd =>
    and_congr_right fun _ => day hd

theorem CalCopy.entryCovers_warmup (c : CalCopy) (z m : Nat) {n : Nat} (start : (c.shift n).start < 1440) :
    c.entryCovers z m .warmup n = true ↔ c.warms z m n := by
  have day {d : Nat} (hd : d < 7) := covers_iff
    (a := ((d * 1440 + (c.shift n).start : Nat) : Int) - (c.profile (c.shift n).profile).lead) (weeks := 1)
    (w := (c.profile (c.shift n).profile).lead) (m := m)
    (n := m + 10080 + (c.profile (c.shift n).profile).lead - (d * 1440 + (c.shift n).start)) (by omega)
  rw [CalCopy.entryCovers_iff]
  constructor
  · rintro ⟨used, zone, d, hd, on, covered⟩
    exact ⟨d, hd, used, zone, on, (day hd).1 covered⟩
  · rintro ⟨d, hd, used, zone, on, covered⟩
    exact ⟨used, zone, d, hd, on, (day hd).2 covered⟩

/-! ### Phase resolution (R30, R31) -/

section
variable {c : CalCopy} {z m : Nat} {ph : Phase} {p : Nat → Prop}

/-- The lowest entry whose window of a phase covers the minute is the first found. -/
theorem CalCopy.firstEntry_of_lowest (reads : ∀ n < 42, c.entryCovers z m ph n = true ↔ p n) {n : Nat} (within : n < 42)
    (holds : p n) (lower : ∀ k < n, ¬ p k) : c.firstEntry z m ph = some n := by
  refine List.find?_range_eq_some.2 ⟨(reads n within).2 holds, List.mem_range.2 within, fun k below => ?_⟩
  simpa using fun covered => lower k below ((reads k (by omega)).1 covered)

theorem CalCopy.firstEntry_of_none (reads : ∀ n < 42, c.entryCovers z m ph n = true ↔ p n) (none : ∀ k < 42, ¬ p k) :
    c.firstEntry z m ph = .none := by
  refine List.find?_range_eq_none.2 fun k within => ?_
  simpa using fun covered => none k within ((reads k within).1 covered)

/-- Some entry's window of a phase covers the minute exactly where a first is found. -/
theorem CalCopy.firstEntry_isSome (reads : ∀ n < 42, c.entryCovers z m ph n = true ↔ p n) :
    (∃ n, c.firstEntry z m ph = some n) ↔ ∃ n < 42, p n := by
  constructor
  · rintro ⟨n, found⟩
    obtain ⟨covered, within, -⟩ := List.find?_range_eq_some.1 found
    exact ⟨n, List.mem_range.1 within, (reads n (List.mem_range.1 within)).1 covered⟩
  · rintro ⟨n, within, holds⟩
    cases found : c.firstEntry z m ph with
    | some k => exact ⟨k, rfl⟩
    | none =>
      have uncovered := List.find?_range_eq_none.1 found n within
      simp [(reads n within).2 holds] at uncovered

theorem CalCopy.byCalendar_of_active {n : Nat} (active : c.firstEntry z m .active = some n) :
    c.byCalendar z m = c.byEntry .active n := by
  simp only [CalCopy.byCalendar, active]

theorem CalCopy.byCalendar_of_warmup {n : Nat} (active : c.firstEntry z m .active = none)
    (warmup : c.firstEntry z m .warmup = some n) : c.byCalendar z m = c.byEntry .warmup n := by
  simp only [CalCopy.byCalendar, active, warmup]

theorem CalCopy.byCalendar_of_winddown {n : Nat} (active : c.firstEntry z m .active = none)
    (warmup : c.firstEntry z m .warmup = none) (winddown : c.firstEntry z m .winddown = some n) :
    c.byCalendar z m = c.byEntry .winddown n := by
  simp only [CalCopy.byCalendar, active, warmup, winddown]

theorem CalCopy.byCalendar_of_none (active : c.firstEntry z m .active = none) (warmup : c.firstEntry z m .warmup = none)
    (winddown : c.firstEntry z m .winddown = none) :
    c.byCalendar z m = { phase := .idle, profile := none, source := .nothing } := by
  simp only [CalCopy.byCalendar, active, warmup, winddown]

/-- The calendar phase is ACTIVE exactly where an entry gives it. -/
theorem CalCopy.byCalendar_active_iff : (c.byCalendar z m).phase = .active ↔ ∃ n, c.firstEntry z m .active = some n := by
  constructor
  · intro active
    unfold CalCopy.byCalendar at active
    split at active
    · rename_i n found
      exact ⟨n, found⟩
    · (repeat' split at active) <;> simp [CalCopy.byEntry] at active
  · rintro ⟨n, found⟩
    rw [CalCopy.byCalendar_of_active found]
    rfl

end

/-- A phase denotes its own values (R33). -/
theorem denotesItsValues (c : CalCopy) (st : Standing) : DenotesItsValues c st := by
  obtain ⟨phase, profile, source⟩ := st
  refine ⟨?_, fun p given => ⟨?_, ?_, ?_⟩⟩ <;> rintro rfl
  · exact ⟨rfl, rfl, rfl, rfl⟩
  all_goals
    cases given
    exact ⟨rfl, rfl, rfl, rfl⟩

/-- Settles O32: each phase window as a distance round the week, the lowest entry found first, and the phases in their order. -/
theorem aZoneIsActiveFromAShiftsStartForItsLength : Obligations.AZoneIsActiveFromAShiftsStartForItsLength := by
  refine ⟨fun c z m week ranges => ?resolution, fun c z m => ⟨fun active => ?_, fun idle => ?_, rfl⟩, denotesItsValues⟩
  case resolution =>
    have starts : ∀ n < 42, (c.shift n).start < 1440 := fun n within => (ranges n within).1
    have lengths : ∀ n < 42, (c.shift n).length ≤ 960 := fun n within => by
      obtain ⟨-, length, -⟩ := ranges n within
      exact length
    have covers : ∀ n < 42, c.entryCovers z m .active n = true ↔ _ := fun n within =>
      c.entryCovers_active z m (starts n within)
    have warms : ∀ n < 42, c.entryCovers z m .warmup n = true ↔ _ := fun n within =>
      c.entryCovers_warmup z m (starts n within)
    have winds : ∀ n < 42, c.entryCovers z m .winddown n = true ↔ _ := fun n within =>
      c.entryCovers_winddown z m (starts n within) (lengths n within)
    refine ⟨rfl, CalCopy.byCalendar_active_iff.trans (CalCopy.firstEntry_isSome covers), ?_, ?_, ?_, ?_⟩
    · rintro n ⟨within, covered, lower⟩
      exact CalCopy.byCalendar_of_active (CalCopy.firstEntry_of_lowest covers within covered lower)
    · rintro notActive n ⟨within, warmed, lower⟩
      exact CalCopy.byCalendar_of_warmup (CalCopy.firstEntry_of_none covers notActive)
        (CalCopy.firstEntry_of_lowest warms within warmed lower)
    · rintro notActive notWarm n ⟨within, wound, lower⟩
      exact CalCopy.byCalendar_of_winddown (CalCopy.firstEntry_of_none covers notActive)
        (CalCopy.firstEntry_of_none warms notWarm) (CalCopy.firstEntry_of_lowest winds within wound lower)
    · intro notActive notWarm notWound
      exact CalCopy.byCalendar_of_none (CalCopy.firstEntry_of_none covers notActive)
        (CalCopy.firstEntry_of_none warms notWarm) (CalCopy.firstEntry_of_none winds notWound)
  · exact if_pos active
  · exact if_neg (by simp [idle])

/-! ### The limit window (R39) -/

/-- A window covers a week minute on a day of its mask. -/
theorem LimitWindow.coversMinute_iff (w : LimitWindow) (m : Nat) :
    w.coversMinute m = true ↔
      w.inUse = true ∧ ∃ d < 7, w.days.getLsbD d = true ∧ d * 1440 + w.start ≤ m ∧ m < d * 1440 + w.stop := by
  simp only [LimitWindow.coversMinute, Bool.and_eq_true, anyDay_iff, decide_eq_true_eq]
  rfl

/-- A held window that no later one undercuts stays. -/
theorem foldl_lowerWindow_stays (limit : Nat → Nat) (h : Nat × Nat) (l : List Nat) (above : ∀ v ∈ l, h.1 ≤ limit v) :
    l.foldl (fun held n => lowerWindow held (limit n, n)) (some h) = some h := by
  induction l with
  | nil => rfl
  | cons v rest ih =>
    have stays : lowerWindow (some h) (limit v, v) = some h := if_neg (Nat.not_lt.2 (above v (by simp)))
    rw [List.foldl_cons, stays]
    exact ih fun u member => above u (by simp [member])

/-- Whatever windows came before with a higher limit, a lower one is held. -/
theorem foldl_lowerWindow_takes (limit : Nat → Nat) (w : Nat) (l : List Nat) (held : Option (Nat × Nat))
    (above : ∀ v ∈ l, limit w < limit v) (before : ∀ h, held = some h → limit w < h.1) :
    lowerWindow (l.foldl (fun held n => lowerWindow held (limit n, n)) held) (limit w, w) = some (limit w, w) := by
  induction l generalizing held with
  | nil =>
    cases held with
    | none => rfl
    | some h => exact if_pos (before h rfl)
  | cons v rest ih =>
    refine ih _ (fun u member => above u (by simp [member])) fun h next => ?_
    have higher : limit w < limit v := above v (by simp)
    cases held with
    | none =>
      cases next
      exact higher
    | some k =>
      simp only [lowerWindow] at next
      split at next <;> cases next
      · exact higher
      · exact before h rfl

/-- Settles O33: the windows that cover come in ascending number; those before the lowest give way to it, those after do not
undercut it. -/
theorem theWindowLimitIsTheLowestThatCovers : Obligations.TheWindowLimitIsTheLowestThatCovers := by
  intro c m covers
  have reads (w : Nat) : (c.window w).coversMinute m = true ↔ covers w := (c.window w).coversMinute_iff m
  refine ⟨rfl, fun none => ?_, fun w within covered lowest first => ?_⟩
  · have empty : (List.range 8).filter (fun n => (c.window n).coversMinute m) = [] := by
      simpa [List.filter_eq_nil_iff, reads] using none
    simp only [CalCopy.activeWindow, empty, List.foldl_nil]
  · have member : w ∈ (List.range 8).filter fun n => (c.window n).coversMinute m := by simp [within, reads, covered]
    have ascending : ((List.range 8).filter fun n => (c.window n).coversMinute m).Pairwise (· < ·) :=
      List.pairwise_lt_range.filter _
    have all : ∀ v ∈ (List.range 8).filter fun n => (c.window n).coversMinute m, v < 8 ∧ covers v := fun v h => by
      simpa [reads] using h
    simp only [CalCopy.activeWindow]
    generalize (List.range 8).filter (fun n => (c.window n).coversMinute m) = l at member ascending all
    obtain ⟨lower, higher, rfl⟩ := List.append_of_mem member
    have below : ∀ v ∈ lower, v < w := fun v h => (List.pairwise_append.1 ascending).2.2 v h w (by simp)
    rw [List.foldl_append, List.foldl_cons,
      foldl_lowerWindow_takes (fun n => (c.window n).limit) w lower none
        (fun v h => first v (below v h) (all v (by simp [h])).2) (by simp)]
    exact foldl_lowerWindow_stays (fun n => (c.window n).limit) _ higher fun v h =>
      lowest v (all v (by simp [h])).1 (all v (by simp [h])).2

end Sys2Proof.Machine
end

section
/-! SUPPORT. The calendar editor: its moves, its validation, and the writes of the edit copy (R18 to R25). -/

namespace Sys2Proof.Machine

/-! ### Validation (R23) -/

/-- The items that fail stand in ascending order, group by group. -/
theorem CalCopy.failures_pairwise (c : CalCopy) : c.failures.Pairwise (· < ·) := by
  have ascending (n : Nat) (bad : Nat → Bool) : ((List.range n).filter bad).Pairwise (· < ·) :=
    List.pairwise_lt_range.filter _
  simp only [CalCopy.failures, List.pairwise_append, List.pairwise_map]
  refine ⟨⟨ascending 42 _, (ascending 8 _).imp fun h => by omega, ?_⟩, (ascending 8 _).imp fun h => by omega, ?_⟩ <;>
    simp only [List.mem_append, List.mem_map, List.mem_filter, List.mem_range] <;> omega

theorem CalCopy.mem_failures (c : CalCopy) (item : Nat) :
    item ∈ c.failures ↔
      (item < 42 ∧ (c.shift item).inUse = true ∧ ((c.shift item).days = 0 ∨ (c.shift item).zones = 0)) ∨
      (∃ p < 8, item = 42 + p ∧ (350 < (c.profile p).setWarmup ∨ 350 < (c.profile p).setActive)) ∨
      ∃ w < 8, item = 50 + w ∧ ¬ (c.window w).start < (c.window w).stop := by
  simp only [CalCopy.failures, List.append_assoc, List.mem_append, List.mem_map, List.mem_filter, List.mem_range,
    Bool.and_eq_true, Bool.or_eq_true, decide_eq_true_eq, beq_iff_eq, Nat.not_lt, eq_comm (a := item), and_assoc,
    and_comm (a := _ = item)]

/-! ### The moves of the editor -/

section
variable {s : Part}

theorem Part.doCalOpen_of_noEdit (editor : s.cal.editor = .noEdit) :
    s.doCalOpen = (s.setEditor (.editing s.cal.running), .done 0 []) := by
  simp only [Part.doCalOpen, editor]

theorem Part.doCalOpen_of_open (editor : s.cal.editor ≠ .noEdit) : s.doCalOpen = (s, .refused .state 0) := by
  unfold Part.doCalOpen
  split
  · rename_i noEdit
    exact absurd noEdit editor
  all_goals rfl

theorem Part.doCalClose_of_valid {copy : CalCopy} (editor : s.cal.editor = .editing copy) (valid : copy.failures = []) :
    s.doCalClose = (s.setEditor (.pending copy), .done 0 [2]) := by
  simp only [Part.doCalClose, editor, CalCopy.firstFailure, valid, List.head?_nil]
  rfl

theorem Part.doCalClose_of_failing {copy : CalCopy} {item : Nat} {rest : List Nat} (editor : s.cal.editor = .editing copy)
    (fails : copy.failures = item :: rest) : s.doCalClose = (s, .refused .conflict item) := by
  simp only [Part.doCalClose, editor, CalCopy.firstFailure, fails, List.head?_cons]

theorem Part.doCalClose_of_closed (editor : ∀ copy, s.cal.editor ≠ .editing copy) :
    s.doCalClose = (s, .refused .state 0) := by
  unfold Part.doCalClose
  split
  · rename_i copy editing
    exact absurd editing (editor copy)
  all_goals rfl

theorem Part.doCalDrop_of_noEdit (editor : s.cal.editor = .noEdit) : s.doCalDrop = (s, .refused .state 0) := by
  simp only [Part.doCalDrop, editor]

theorem Part.doCalDrop_of_open (editor : s.cal.editor ≠ .noEdit) : s.doCalDrop = (s.setEditor .noEdit, .done 0 []) := by
  unfold Part.doCalDrop
  split
  · rename_i noEdit
    exact absurd noEdit editor
  all_goals rfl

/-! ### A write of the edit copy -/

variable {α : Type} {c : Checked α} (store : CalCopy → α → CalCopy)

theorem Part.calWrite_of_closed (editor : ∀ copy, s.cal.editor ≠ .editing copy) :
    s.calWrite c store = (s, .refused .state 0) := by
  unfold Part.calWrite
  split
  · rename_i copy editing
    exact absurd editing (editor copy)
  all_goals rfl

theorem Part.calWrite_accepted {copy : CalCopy} {v : α} {cut : Byte} (editor : s.cal.editor = .editing copy)
    (accepts : c = .accept v cut) :
    s.calWrite c store = (s.setEditor (.editing (store copy v)), .done cut []) := by
  simp only [Part.calWrite, editor]
  exact s.outcome_accept _ _ accepts

theorem Part.calWrite_refused {copy : CalCopy} {code : Code} {field : Nat} (editor : s.cal.editor = .editing copy)
    (refuses : c = .refuse code field) : s.calWrite c store = (s, .refused code field) := by
  simp only [Part.calWrite, editor]
  exact s.outcome_refuse _ _ refuses

end

/-! ### Answers -/

section
variable {i : Instr} {s : State} {tag kind : Byte} (catalogue : inCatalogue i = true)
  (hasTag : bodyTag (encodeRequest i) = tag) (hasKind : bodyKind (encodeRequest i) = kind) (r : s.Ready)
include catalogue hasTag hasKind r

/-- A request refused by its owner leaves the part. -/
theorem AnswersWith.of_refused {code : Code} {field : Nat}
    (work : Part.serve i (s.part.taken tag kind) = (s.part.taken tag kind, .refused code field)) :
    AnswersWith i s tag kind (.refused code field) s.part :=
  AnswersWith.of_serve catalogue hasTag hasKind r (by simp) work ⟨rfl, rfl, rfl⟩

/-- A request done by a move of the editor. -/
theorem AnswersWith.of_setEditor {cut : Byte} {data : List Byte} (e : Editor)
    (work : Part.serve i (s.part.taken tag kind) = ((s.part.taken tag kind).setEditor e, .done cut data)) :
    AnswersWith i s tag kind (.done cut data) (s.part.setEditor e) :=
  AnswersWith.of_serve catalogue hasTag hasKind r (by simp) work ⟨rfl, rfl, rfl⟩

end

/-- Outside EDITING the four calendar writes are refused STATE (R18). -/
theorem calWrites_refused {s : State} (tag n : Byte) (h : HeaderFields) (e : ShiftFields) (f : ProfileFields)
    (w : WindowFields) (r : s.Ready) (editor : ∀ copy, s.part.cal.editor ≠ .editing copy) :
    AnswersWith (.calWriteHeader tag h) s tag 0x06 (.refused .state 0) s.part ∧
      AnswersWith (.calWriteShift tag n e) s tag 0x07 (.refused .state 0) s.part ∧
      AnswersWith (.calWriteProfile tag n f) s tag 0x08 (.refused .state 0) s.part ∧
      AnswersWith (.calWriteWindow tag n w) s tag 0x09 (.refused .state 0) s.part :=
  ⟨.of_refused rfl rfl rfl r (Part.calWrite_of_closed _ editor), .of_refused rfl rfl rfl r (Part.calWrite_of_closed _ editor),
    .of_refused rfl rfl rfl r (Part.calWrite_of_closed _ editor), .of_refused rfl rfl rfl r (Part.calWrite_of_closed _ editor)⟩

/-- Settles O34: the items of the validation by their groups, and each move of the editor in each of its states. -/
theorem theEditorOpensClosesAndDrops : Obligations.TheEditorOpensClosesAndDrops := by
  refine ⟨fun copy => ⟨copy.failures_pairwise, copy.mem_failures⟩, fun s tag n h e f w copy r => ?_⟩
  intro withEditor
  refine ⟨fun noEdit => ⟨?_, ?_, ?_⟩, fun editing => ⟨?_, fun valid => ?_, fun item rest fails => ?_, ?_⟩,
    fun pending => ⟨?_, ?_, ?_⟩, fun closed => calWrites_refused tag n h e f w r ?_⟩
  · exact .of_setEditor rfl rfl rfl r _ (Part.doCalOpen_of_noEdit noEdit)
  · exact .of_refused rfl rfl rfl r (Part.doCalClose_of_closed fun _ => by simp [Part.taken, noEdit])
  · exact .of_refused rfl rfl rfl r (Part.doCalDrop_of_noEdit noEdit)
  · exact .of_refused rfl rfl rfl r (Part.doCalOpen_of_open (by simp [Part.taken, editing]))
  · exact .of_setEditor rfl rfl rfl r _ (Part.doCalClose_of_valid editing valid)
  · exact .of_refused rfl rfl rfl r (Part.doCalClose_of_failing editing fails)
  · exact .of_setEditor rfl rfl rfl r _ (Part.doCalDrop_of_open (by simp [Part.taken, editing]))
  · exact .of_refused rfl rfl rfl r (Part.doCalOpen_of_open (by simp [Part.taken, pending]))
  · exact .of_refused rfl rfl rfl r (Part.doCalClose_of_closed fun _ => by simp [Part.taken, pending])
  · exact .of_setEditor rfl rfl rfl r _ (Part.doCalDrop_of_open (by simp [Part.taken, pending]))
  · rcases closed with noEdit | pending
    · simp [noEdit]
    · simp [pending]

/-! ### Clamped fields -/

theorem clampN_from_zero (hi v : Nat) : clampN 0 hi v = min v hi := by rw [clampN_zero, Nat.min_comm]

theorem clampN_from (lo hi v : Nat) : clampN lo hi v = max lo (min v hi) := by rw [clampN, Nat.min_comm]

/-- A figure clamped from 1 is cut at 0 and above its range. -/
theorem outside_one (hi v : Nat) (h : 1 ≤ hi) : outside 1 hi v = decide (v = 0 ∨ hi < v) := by
  simp only [outside_eq 1 hi v h, Nat.lt_one_iff]

theorem setpointCut_eq (h : Half) : setpointCut h = setpointIsCut h := outsideZ_eq 0 350 _ (by decide)

/-- The first check that fails refuses, those before it passing. -/
theorem checks_refuse_at {α : Type} (before : List (Bool × Code × Nat)) {after : List (Bool × Code × Nat)} {bad : Bool}
    {code : Code} {field : Nat} {v : α} {cut : Byte} (pass : ∀ x ∈ before, x.1 = false) (fails : bad = true) :
    checks (before ++ (bad, code, field) :: after) v cut = .refuse code field := by
  subst fails
  exact checks_refuse before after code field v cut pass

/-! ### Header and profiles (R18, R20) -/

/-- The header that CAL_WRITE_HEADER's fields store. -/
def headerStored (h : HeaderFields) : Header :=
  { idleSetpoint := setpointStored h.idleSetpoint, idleLight := min h.idleLight.toNat 100
    idleVent := min h.idleVent.toNat 3, presenceLight := min h.presenceLight.toNat 100
    presenceHold := max 1 (min h.presenceHold.toNat 120), doorLight := min h.doorLight.toNat 100
    outdoor := h.outdoor.toNat, curtainThreshold := max (-500) (min 300 h.curtainThreshold.toInt)
    runOn := min h.runOn.toNat 300, fallbackActive := decide (h.fallbackPhase = 2)
    fallbackProfile := h.fallbackProfile.toNat }

/-- The field of a header first cut. -/
def headerCut (h : HeaderFields) : Byte :=
  firstCut [(1, setpointIsCut h.idleSetpoint), (2, decide (100 < h.idleLight.toNat)),
    (3, decide (3 < h.idleVent.toNat)), (4, decide (100 < h.presenceLight.toNat)),
    (5, decide (h.presenceHold.toNat = 0 ∨ 120 < h.presenceHold.toNat)), (6, decide (100 < h.doorLight.toNat)),
    (8, decide (h.curtainThreshold.toInt < -500 ∨ 300 < h.curtainThreshold.toInt)),
    (9, decide (300 < h.runOn.toNat))]

/-- The header's checks in their order, and its fields clamped. -/
theorem headerOperands_eq (h : HeaderFields) :
    headerOperands h =
      checks
        [(decide (19 < h.outdoor.toNat), .index, 7),
          (decide (h.fallbackPhase ≠ 0) && decide (h.fallbackPhase ≠ 2), .range, 10),
          (decide (7 < h.fallbackProfile.toNat), .index, 11)]
        (headerStored h) (headerCut h) := by
  simp only [headerOperands, clampN_from_zero, clampN_from 1, outside_zero, outside_one 120 _ (by decide), setpointCut_eq,
    outsideZ_eq (-500) 300 _ (by decide), signed]
  rfl

/-- A fallback phase that is known passes its check. -/
theorem fallbackPhase_known {phase : Byte} (known : phase = 0 ∨ phase = 2) :
    (decide (phase ≠ 0) && decide (phase ≠ 2)) = false := by
  rcases known with rfl | rfl <;> decide

theorem headerOperands_accept {h : HeaderFields} (outdoor : h.outdoor.toNat ≤ 19)
    (phase : h.fallbackPhase = 0 ∨ h.fallbackPhase = 2) (profile : h.fallbackProfile.toNat ≤ 7) :
    headerOperands h = .accept (headerStored h) (headerCut h) := by
  rw [headerOperands_eq]
  exact checks_accept _ _ _ (by simp only [List.forall_mem_cons, fallbackPhase_known phase]; simp [outdoor, profile])

theorem headerOperands_outdoor {h : HeaderFields} (outdoor : 19 < h.outdoor.toNat) :
    headerOperands h = .refuse .index 7 := checks_refuse_at [] (by simp) (by simp [outdoor])

theorem headerOperands_phase {h : HeaderFields} (outdoor : h.outdoor.toNat ≤ 19) (idle : h.fallbackPhase ≠ 0)
    (active : h.fallbackPhase ≠ 2) : headerOperands h = .refuse .range 10 :=
  checks_refuse_at [_] (by simp [outdoor]) (by simp only [decide_eq_true idle, decide_eq_true active, Bool.and_self])

theorem headerOperands_profile {h : HeaderFields} (outdoor : h.outdoor.toNat ≤ 19)
    (phase : h.fallbackPhase = 0 ∨ h.fallbackPhase = 2) (profile : 7 < h.fallbackProfile.toNat) :
    headerOperands h = .refuse .index 11 :=
  checks_refuse_at [_, _] (by simp only [List.forall_mem_cons, fallbackPhase_known phase]; simp [outdoor])
    (by simp [profile])

/-- The profile that CAL_WRITE_PROFILE's fields store. -/
def profileStored (f : ProfileFields) : Profile :=
  { setActive := setpointStored f.setActive, setWarmup := setpointStored f.setWarmup
    setWinddown := setpointStored f.setWinddown, lightActive := min f.lightActive.toNat 100
    lightOther := min f.lightOther.toNat 100, ventActive := min f.ventActive.toNat 3
    ventWinddown := min f.ventWinddown.toNat 3, lead := min f.lead.toNat 120, hold := min f.hold.toNat 60
    doorLimit := max 1 (min f.doorLimit.toNat 120) }

/-- The field of a profile first cut. -/
def profileCut (f : ProfileFields) : Byte :=
  firstCut [(2, setpointIsCut f.setActive), (3, setpointIsCut f.setWarmup), (4, setpointIsCut f.setWinddown),
    (5, decide (100 < f.lightActive.toNat)), (6, decide (100 < f.lightOther.toNat)),
    (7, decide (3 < f.ventActive.toNat)), (8, decide (3 < f.ventWinddown.toNat)), (9, decide (120 < f.lead.toNat)),
    (10, decide (60 < f.hold.toNat)), (11, decide (f.doorLimit.toNat = 0 ∨ 120 < f.doorLimit.toNat))]

theorem profileOperands_accept {n : Byte} (f : ProfileFields) (number : n.toNat ≤ 7) :
    profileOperands n f = .accept (profileStored f) (profileCut f) := by
  simp only [profileOperands, clampN_from_zero, clampN_from 1, outside_zero, outside_one 120 _ (by decide), setpointCut_eq]
  exact checks_accept _ _ _ (by simp [number])

theorem profileOperands_number {n : Byte} (f : ProfileFields) (number : 7 < n.toNat) :
    profileOperands n f = .refuse .index 1 := if_pos (decide_eq_true number)

/-- Settles O35: the operands clamped and checked, and the write of the edit copy they make. -/
theorem headersAndProfilesAreWrittenInTheEditCopy : Obligations.HeadersAndProfilesAreWrittenInTheEditCopy := by
  intro s tag n h f copy r editing withCopy
  refine ⟨fun outdoor phase profile => ?_, fun outdoor => ?_, fun outdoor idle active => ?_,
    fun outdoor phase profile => ?_, fun number => ?_, fun number => ?_⟩
  · exact .of_setEditor rfl rfl rfl r _ (Part.calWrite_accepted _ editing (headerOperands_accept outdoor phase profile))
  · exact .of_refused rfl rfl rfl r (Part.calWrite_refused _ editing (headerOperands_outdoor outdoor))
  · exact .of_refused rfl rfl rfl r (Part.calWrite_refused _ editing (headerOperands_phase outdoor idle active))
  · exact .of_refused rfl rfl rfl r (Part.calWrite_refused _ editing (headerOperands_profile outdoor phase profile))
  · exact .of_setEditor rfl rfl rfl r _ (Part.calWrite_accepted _ editing (profileOperands_accept f number))
  · exact .of_refused rfl rfl rfl r (Part.calWrite_refused _ editing (profileOperands_number f number))

/-! ### Shift entries and limit windows (R19, R21) -/

theorem notFlag_of_flag {b : Byte} (flag : b.toNat ≤ 1) : notFlag b = false := decide_eq_false (Nat.not_lt.2 flag)

theorem notFlag_of_beyond {b : Byte} (beyond : 1 < b.toNat) : notFlag b = true := decide_eq_true beyond

/-- The entry that CAL_WRITE_SHIFT's fields store. -/
def shiftStored (f : ShiftFields) : Shift :=
  { inUse := decide (f.inUse = 1), days := f.days.setWidth 7, start := min f.start.toNat 1439
    length := max 1 (min f.length.toNat 960), profile := f.profile.toNat, zones := f.zones.setWidth 12 }

/-- The shift entry's checks in their order, and its fields clamped. -/
theorem shiftOperands_eq (n : Byte) (f : ShiftFields) :
    shiftOperands n f =
      checks
        [(decide (41 < n.toNat), .index, 1), (notFlag f.inUse, .range, 2), (decide (7 < f.profile.toNat), .index, 6)]
        (shiftStored f)
        (firstCut [(4, decide (1439 < f.start.toNat)), (5, decide (f.length.toNat = 0 ∨ 960 < f.length.toNat))]) := by
  simp only [shiftOperands, clampN_from_zero, clampN_from 1, outside_zero, outside_one 960 _ (by decide)]
  rfl

/-- The window that CAL_WRITE_WINDOW's fields store. -/
def windowStored (w : WindowFields) : LimitWindow :=
  { inUse := decide (w.inUse = 1), days := w.days.setWidth 7, start := min w.start.toNat 1439
    stop := max 1 (min w.stop.toNat 1440), limit := w.limit.toNat }

/-- The limit window's checks in their order, and its fields clamped. -/
theorem windowOperands_eq (n : Byte) (w : WindowFields) :
    windowOperands n w =
      checks [(decide (7 < n.toNat), .index, 1), (notFlag w.inUse, .range, 2)] (windowStored w)
        (firstCut [(4, decide (1439 < w.start.toNat)), (5, decide (w.stop.toNat = 0 ∨ 1440 < w.stop.toNat))]) := by
  simp only [windowOperands, clampN_from_zero, clampN_from 1, outside_zero, outside_one 1440 _ (by decide)]
  rfl

/-- Settles O36: the operands clamped and checked in their order, and the write of the edit copy they make. -/
theorem shiftsAndWindowsAreWrittenInTheEditCopy : Obligations.ShiftsAndWindowsAreWrittenInTheEditCopy := by
  intro s tag n f w copy r editing withCopy
  refine ⟨fun number flag profile => ?_, fun number => ?_, fun number flag => ?_, fun number flag profile => ?_,
    fun number flag => ?_, fun number => ?_, fun number flag => ?_⟩
  · refine .of_setEditor rfl rfl rfl r _ (Part.calWrite_accepted _ editing ((shiftOperands_eq n f).trans ?_))
    exact checks_accept _ _ _ (by simp [number, notFlag_of_flag flag, profile])
  · refine .of_refused rfl rfl rfl r (Part.calWrite_refused _ editing ?_)
    exact checks_refuse_at [] (by simp) (by simp [number])
  · refine .of_refused rfl rfl rfl r (Part.calWrite_refused _ editing ?_)
    exact checks_refuse_at [_] (by simp [number]) (notFlag_of_beyond flag)
  · refine .of_refused rfl rfl rfl r (Part.calWrite_refused _ editing ?_)
    exact checks_refuse_at [_, _] (by simp [number, notFlag_of_flag flag]) (by simp [profile])
  · refine .of_setEditor rfl rfl rfl r _ (Part.calWrite_accepted _ editing ((windowOperands_eq n w).trans ?_))
    exact checks_accept _ _ _ (by simp [number, notFlag_of_flag flag])
  · refine .of_refused rfl rfl rfl r (Part.calWrite_refused _ editing ?_)
    exact checks_refuse_at [] (by simp) (by simp [number])
  · refine .of_refused rfl rfl rfl r (Part.calWrite_refused _ editing ?_)
    exact checks_refuse_at [_] (by simp [number]) (notFlag_of_beyond flag)

end Sys2Proof.Machine
end

section
/-! SUPPORT. A zone's overrides set and cancelled by request: the zone's record and its hand-off, the notices in their queue, and
the answer at the end of the event (R34 to R38). -/

namespace Sys2Proof.Machine

/-! ### The notices in their queue -/

/-- A notice of a kind that the mask leaves out is not created (R193). -/
theorem Part.post_of_masked (s : Part) {kind : NoticeKind} (subject : Nat) (detail : List Byte)
    (masked : ¬ s.link.mask.getLsbD (kind.code - 1) = true) : s.post kind subject detail = s := if_neg masked

/-- A notice that the mask admits joins the queue, stamped (R15, R193). -/
theorem Part.post_notices (s : Part) {kind : NoticeKind} (subject : Nat) (detail : List Byte)
    (admits : s.link.mask.getLsbD (kind.code - 1) = true) :
    (s.post kind subject detail).link.notices =
      enqueueNotice s.link.notices (Posting.stamped { kind := kind, subject := subject, detail := detail } s.clock) := by
  simp [Part.post, admits, Posting.stamped, fourBytes]

/-- Where the queue loses its oldest, the mark set on the next moves no kind. -/
theorem markGap_filter_length (queue : List Notice) (kind : NoticeKind) :
    ((markGap queue).filter fun n => decide (n.kind = kind)).length =
      (queue.filter fun n => decide (n.kind = kind)).length := by
  cases queue with
  | nil => rfl
  | cons n rest =>
    simp only [markGap, List.filter_cons]
    split <;> simp

/-- A notice of another kind joins without adding one of this kind. -/
theorem enqueueNotice_filter_length {queue : List Notice} {n : Notice} {kind : NoticeKind} (other : n.kind ≠ kind) :
    ((enqueueNotice queue n).filter fun m => decide (m.kind = kind)).length ≤
      (queue.filter fun m => decide (m.kind = kind)).length := by
  unfold enqueueNotice
  split
  · simp [List.filter_append, other]
  · rw [List.filter_append, List.length_append, markGap_filter_length]
    simpa [other] using ((List.drop_sublist 1 queue).filter fun m : Notice => decide (m.kind = kind)).length_le

/-- A notice joins at the end of its queue. -/
theorem enqueueNotice_ends (queue : List Notice) (n : Notice) : ∃ front, enqueueNotice queue n = front ++ [n] := by
  unfold enqueueNotice
  split <;> exact ⟨_, rfl⟩

/-- The notice at the end of a queue stands before the next that joins, but for the mark of a lost one. -/
theorem enqueueNotice_after (front : List Notice) (n m : Notice) :
    ∃ front' n', enqueueNotice (front ++ [n]) m = front' ++ n' :: [m] ∧ n'.kind = n.kind ∧ n'.subject = n.subject ∧
      n'.detail = n.detail := by
  by_cases room : (front ++ [n]).length < Config.noticePlaces
  · exact ⟨front, n, by rw [enqueueNotice_of_room m room, List.append_assoc]; rfl, rfl, rfl, rfl⟩
  · have lost : enqueueNotice (front ++ [n]) m = markGap ((front ++ [n]).drop 1) ++ [m] := if_neg room
    match front with
    | [] => exact absurd (show 1 < 32 by decide) room
    | [_] => exact absurd (show 2 < 32 by decide) room
    | _ :: b :: rest => exact ⟨{ b with gap := true } :: rest, n, by rw [lost]; simp [markGap], rfl, rfl, rfl⟩

/-! ### One zone handed -/

/-- A zone whose standing did not change is not handed. -/
theorem Part.handZone_of_same {s : Part} {z : Nat} {old : Standing} (same : s.effective z = old) :
    s.handZone z old false = s := by
  simp [Part.handZone, same]

/-- A zone whose standing changed is handed, and its PHASE posted. -/
theorem Part.handZone_of_changed {s : Part} {z : Nat} {old : Standing} (always : Bool) (changed : s.effective z ≠ old) :
    s.handZone z old always = (s.handPhase z old).postPhase z old := if_neg changed

/-- The hand-off of a zone adds no OVERRIDE_END notice. -/
theorem Part.handZone_endNotices (s : Part) (z : Nat) (old : Standing) :
    (endNotices (s.handZone z old false)).length ≤ (endNotices s).length := by
  by_cases same : s.effective z = old
  · rw [Part.handZone_of_same same]
  · have link : (s.handPhase z old).link = s.link := by simp
    rw [Part.handZone_of_changed false same, Part.postPhase]
    by_cases admits : (s.handPhase z old).link.mask.getLsbD (NoticeKind.code .phase - 1) = true
    · rw [endNotices, Part.post_notices _ _ _ admits, link]
      exact enqueueNotice_filter_length (by simp [Posting.stamped])
    · rw [Part.post_of_masked _ _ _ admits, endNotices, link]
      rfl

/-- One zone of the part p handed, in a part s that has set its record: the zone conditioner takes the phase up, the rest is left
to be taken, and PHASE is posted where the standing changed (R34, R130, R136). -/
theorem Part.handOne_hands (p s : Part) {z : Nat} (hz : z < 12) (conditioner : s.zc = p.zc)
    (others : ∀ y < 12, y ≠ z → s.calZone y = p.calZone y) :
    PhasesTakenUp p (s.handZone z (p.calZone z).effective false) false ∧
      (s.handZone z (p.calZone z).effective false).due =
        s.due ++ handedOn p (s.handZone z (p.calZone z).effective false) false z ∧
      Posts (phaseTold p (s.handZone z (p.calZone z).effective false) z) s
        (s.handZone z (p.calZone z).effective false) := by
  obtain ⟨this, rest, due⟩ := s.handZone_hands (p.calZone z).effective false hz
  have cal : (s.handZone z (p.calZone z).effective false).cal = s.cal := by simp
  have posts := Part.handZone_posts p (s.handZone z (p.calZone z).effective false) s z false cal.symm
  have zones := s.handZone_conditioner z (p.calZone z).effective false (s.handZone z (p.calZone z).effective false).zc.zones
  generalize s.handZone z (p.calZone z).effective false = q at this rest due cal posts zones ⊢
  have before (y : Nat) : s.zone y = p.zone y := congrArg (fun zc : Conditioner => Tab.get zc.zones y) conditioner
  have now (y : Nat) : s.calZone y = q.calZone y := congrArg (fun c : Calendar => Tab.get c.zones y) cal.symm
  refine ⟨⟨?_, fun y hy => ⟨fun handed => ?_, fun stays => ?_⟩⟩, ?_, posts⟩
  · rw [← conditioner]
    exact zones
  · by_cases which : y = z
    · subst which
      rw [this, Part.zoneTold, Part.effective, now, before]
      exact if_pos handed
    · refine absurd handed ?_
      simp [ZoneHanded, ← now, others y hy which]
  · by_cases which : y = z
    · subst which
      rw [this, Part.zoneTold, Part.effective, now, before]
      exact if_neg stays
    · exact (rest y which).trans (before y)
  · rw [due, dueTold_eq_handedOn cal (before z) this]

/-! ### What an owner's work on a zone leaves -/

/-- Work that sets zone records and hands zones moves nothing else but the notices. -/
theorem ChangesOnly.of_zoneWork {p q : Part} (clock : q.clock = p.clock) (cal : q.cal = { p.cal with zones := q.cal.zones })
    (mu : q.mu = p.mu) (dl : q.dl = p.dl) (air : q.air = p.air) (lb : q.lb = p.lb) (running : q.running = p.running)
    (still : q.link.still = p.link.still) : ChangesOnly [.zonePhases, .conditioner, .notices, .handed] p q := by
  have link {α : Type} (figure : Link → α) (reads : ∀ l : Link, figure l = figure l.still) :
      figure q.link = figure p.link := by
    rw [reads, still, ← reads]
  intro piece other
  cases piece
  case clock => exact clock
  case runningCalendar => exact (congrArg Calendar.running cal :)
  case editor => exact (congrArg Calendar.editor cal :)
  case limitWindow => exact ⟨(congrArg Calendar.activeWindow cal :), (congrArg Calendar.handedLimit cal :)⟩
  case measurement => exact mu
  case doorLine => exact dl
  case airQuality => exact air
  case budget => exact lb
  case running => exact running
  case receiver =>
    exact ⟨link (·.receiver) fun _ => rfl, link (·.holding) fun _ => rfl, link (·.errors) fun _ => rfl⟩
  case settings =>
    exact ⟨link (·.store) fun _ => rfl, link (·.storeGood) fun _ => rfl, link (·.saving) fun _ => rfl,
      link (·.unsaved) fun _ => rfl, link (·.startCause) fun _ => rfl, link (·.source) fun _ => rfl,
      link (·.speed) fun _ => rfl, link (·.mask) fun _ => rfl⟩
  case sending => exact fun _ => link (·.transmitter) fun _ => rfl
  case replies =>
    exact ⟨link (·.outgoing) fun _ => rfl, link (·.inHand) fun _ => rfl, link (·.deferredMeasure) fun _ => rfl,
      link (·.deferredSave) fun _ => rfl⟩
  all_goals exact absurd (by simp) other

/-- A claim of fewer pieces changed is the stronger one. -/
theorem ChangesOnly.mono {few more : List Piece} {p q : Part} (h : ChangesOnly few p q) (sub : few ⊆ more) :
    ChangesOnly more p q := fun piece other => h piece fun member => other (sub member)

/-! ### The answer at the end of the event -/

/-- The part at the end of an event that readied a reply. -/
def Part.answered (s : Part) (r : Reply) : Part := Part.close { s with link := s.link.ready r }

section
variable {p q : Part} {tag kind : Byte} (r : Reply)

theorem Part.answered_unsent (s : Part) (r : Reply) : (s.answered r).link.unsent = s.link.unsent :=
  (Part.close_unsent _).trans (Link.ready_unsent _ _)

/-- What the owner's work posts is what the event posts. -/
theorem Posts.answered {ws : List Posting} (posts : Posts ws (p.taken tag kind) q) : Posts ws p (q.answered r) :=
  fun room => (q.answered_unsent r).trans (posts room)

variable (order : q.link.waiting ≠ [] → q.link.replies ≠ [])
include order

/-- The reply of an idle transmitter goes before the notices: their queue stays (R190). -/
theorem Part.answered_notices : (q.answered r).link.notices = q.link.notices :=
  (congrArg Link.notices (Link.ready_kick_aside q.link r order) :)

/-- Beside what the owner's work moves the event moves the replies alone. -/
theorem ChangesOnly.answered {pieces : List Piece} (moved : ChangesOnly pieces (p.taken tag kind) q) :
    ChangesOnly (.replies :: pieces) p (q.answered r) := by
  have link {α : Type} (figure : Link → α) (reads : ∀ l : Link, figure l = figure l.aside) :
      figure (q.answered r).link = figure q.link := by
    rw [reads q.link, ← Link.ready_kick_aside q.link r order, ← reads]
    rfl
  intro piece other
  simp only [List.mem_cons, not_or] at other
  have same := moved piece other.2
  cases piece
  case replies => exact absurd rfl other.1
  case notices => exact (q.answered_unsent r).trans same
  case receiver =>
    obtain ⟨receiver, holding, errors⟩ := same
    exact ⟨(link (·.receiver) fun _ => rfl).trans receiver, (link (·.holding) fun _ => rfl).trans holding,
      (link (·.errors) fun _ => rfl).trans errors⟩
  case settings =>
    obtain ⟨store, storeGood, saving, unsaved, startCause, source, speed, mask⟩ := same
    exact ⟨(link (·.store) fun _ => rfl).trans store, (link (·.storeGood) fun _ => rfl).trans storeGood,
      (link (·.saving) fun _ => rfl).trans saving, (link (·.unsaved) fun _ => rfl).trans unsaved,
      (link (·.startCause) fun _ => rfl).trans startCause, (link (·.source) fun _ => rfl).trans source,
      (link (·.speed) fun _ => rfl).trans speed, (link (·.mask) fun _ => rfl).trans mask⟩
  case sending =>
    exact fun sends => Part.close_sending (s := { q with link := q.link.ready r })
      ((Link.ready_transmitter _ _).trans (same sends)) sends
  all_goals exact same

end

end Sys2Proof.Machine
end

section
/-! SUPPORT. The statements of the overrides set and cancelled by request (R34 to R38). -/

namespace Sys2Proof.Machine

/-! ### A zone's record in the calendar unit -/

theorem Part.calZone_setCalZone (s : Part) {z : Nat} (x : CalZone) (hz : z < 12) : (s.setCalZone z x).calZone z = x :=
  Tab.get_put_same _ _ _ hz

theorem Part.calZone_setCalZone_other (s : Part) {z y : Nat} (x : CalZone) (other : y ≠ z) :
    (s.setCalZone z x).calZone y = s.calZone y := Tab.get_put_other _ _ _ _ other.symm

theorem Part.calZone_of_cal {p q : Part} (cal : q.cal = p.cal) (z : Nat) : q.calZone z = p.calZone z :=
  congrArg (fun c : Calendar => Tab.get c.zones z) cal

/-! ### The operands of an override (R35, R36) -/

theorem overrideMinutes_eq (d : Half) : overrideMinutes d = minutesStored d := clampN_from 1 720 _

theorem durationCut_eq (d : Half) : durationCut d = decide (d.toNat = 0 ∨ 720 < d.toNat) := outside_one 720 _ (by decide)

section
variable (s : Part) {zone b : Byte} (d : Half)

theorem Part.doOverrideActive_done (within : zone.toNat ≤ 11) (profile : b.toNat ≤ 7) :
    Part.doOverrideActive zone b d s =
      (s.setPhaseOverride zone.toNat { kind := .active b.toNat, minutes := minutesStored d },
        .done (firstCut [(4, decide (d.toNat = 0 ∨ 720 < d.toNat))]) (u16 (minutesStored d))) := by
  rw [← overrideMinutes_eq, ← durationCut_eq]
  exact s.outcome_accept _ _ (checks_accept _ _ _ (by simp [within, profile]))

theorem Part.doOverrideIdle_done (within : zone.toNat ≤ 11) :
    Part.doOverrideIdle zone d s =
      (s.setPhaseOverride zone.toNat { kind := .idle, minutes := minutesStored d },
        .done (firstCut [(4, decide (d.toNat = 0 ∨ 720 < d.toNat))]) (u16 (minutesStored d))) := by
  rw [← overrideMinutes_eq, ← durationCut_eq]
  exact s.outcome_accept _ _ (checks_accept _ _ _ (by simp [within]))

theorem Part.doOverrideLight_done (within : zone.toNat ≤ 11) :
    Part.doOverrideLight zone b d s =
      (s.setLightOverride zone.toNat { level := min b.toNat 100, minutes := minutesStored d },
        .done (firstCut [(3, decide (100 < b.toNat)), (4, decide (d.toNat = 0 ∨ 720 < d.toNat))])
          (u16 (minutesStored d))) := by
  rw [← overrideMinutes_eq, ← durationCut_eq, ← outside_zero, ← clampN_from_zero]
  exact s.outcome_accept _ _ (checks_accept _ _ _ (by simp [within]))

/-- A zone above 11 is refused before anything else is checked. -/
theorem Part.doOverride_zone (beyond : 11 < zone.toNat) :
    Part.doOverrideActive zone b d s = (s, .refused .index 1) ∧ Part.doOverrideIdle zone d s = (s, .refused .index 1) ∧
      Part.doOverrideLight zone b d s = (s, .refused .index 1) :=
  ⟨s.outcome_refuse _ _ (checks_refuse_at [] (by simp) (by simp [beyond])),
    s.outcome_refuse _ _ (checks_refuse_at [] (by simp) (by simp [beyond])),
    s.outcome_refuse _ _ (checks_refuse_at [] (by simp) (by simp [beyond]))⟩

theorem Part.doOverrideActive_profile (within : zone.toNat ≤ 11) (beyond : 7 < b.toNat) :
    Part.doOverrideActive zone b d s = (s, .refused .index 3) :=
  s.outcome_refuse _ _ (checks_refuse_at [_] (by simp [within]) (by simp [beyond]))

end

/-! ### Work on a zone, answered -/

/-- The link port's order of replies is that of a part with the same replies. -/
theorem State.Ready.order {s : State} (r : s.Ready) {q : Part} {tag kind : Byte}
    (still : q.link.still = (s.part.taken tag kind).link.still) : q.link.waiting ≠ [] → q.link.replies ≠ [] := by
  have waiting : q.link.waiting = s.part.link.waiting := (congrArg (·.waiting) still :)
  have replies : q.link.replies = s.part.link.replies := (congrArg (·.replies) still :)
  rw [waiting, replies]
  exact r.inOrder

/-- A request whose owner's work on the request's part keeps its link port but for notices is answered at the end of the event. -/
theorem Answers.of_zoneWork {i : Instr} {s : State} {tag kind : Byte} {cut : Byte} {data : List Byte} {q : Part}
    {pieces : List Piece} {after : Part → Prop} (catalogue : inCatalogue i = true) (hasTag : bodyTag (encodeRequest i) = tag)
    (hasKind : bodyKind (encodeRequest i) = kind) (r : s.Ready)
    (work : Part.serve i (s.part.taken tag kind) = (q, .done cut data))
    (still : q.link.still = (s.part.taken tag kind).link.still)
    (moved : ChangesOnly pieces (s.part.taken tag kind) q)
    (closed : ∀ reply, (q.link.waiting ≠ [] → q.link.replies ≠ []) →
      ChangesOnly (.replies :: pieces) s.part (q.answered reply) → after (q.answered reply)) :
    Answers i s tag kind (.done cut data) after :=
  .of_serve_closed catalogue hasTag hasKind r (by simp) work (Link.outgoing_of_still still :)
    (closed _ (r.order still) (moved.answered _ (r.order still)))

/-! ### A phase override set (R35) -/

/-- What a part has of a phase override of zone z set in another. -/
structure PhaseOverrideSet (z : Nat) (o : PhaseOverride) (p q : Part) : Prop where
  zone : q.calZone z =
    { p.calZone z with
      phaseOverride := some o
      effective := { phase := o.kind.phase, profile := o.kind.profile, source := .override } }
  others : ∀ y < 12, y ≠ z → q.calZone y = p.calZone y
  ends : (endNotices q).length ≤ (endNotices p).length
  posts : Posts (phaseTold p q z) p q
  phases : PhasesTakenUp p q false
  due : q.due = p.due ++ handedOn p q false z

theorem Part.setPhaseOverride_set (p : Part) {z : Nat} (o : PhaseOverride) (hz : z < 12) :
    PhaseOverrideSet z o p (p.setPhaseOverride z o) ∧
      ChangesOnly [.zonePhases, .conditioner, .notices, .handed] p (p.setPhaseOverride z o) := by
  let record : CalZone := { p.calZone z with phaseOverride := some o, effective := effectiveOf (p.calZone z).calendar (some o) }
  have others : ∀ y < 12, y ≠ z → (p.setCalZone z record).calZone y = p.calZone y := fun y _ other =>
    p.calZone_setCalZone_other record other
  obtain ⟨phases, due, posts⟩ := Part.handOne_hands p (p.setCalZone z record) hz rfl others
  have ends := (p.setCalZone z record).handZone_endNotices z (p.calZone z).effective
  have cal : ((p.setCalZone z record).handZone z (p.calZone z).effective false).cal = (p.setCalZone z record).cal := by simp
  change PhasesTakenUp p (p.setPhaseOverride z o) false at phases
  change (p.setPhaseOverride z o).due = _ ++ handedOn p (p.setPhaseOverride z o) false z at due
  change Posts (phaseTold p (p.setPhaseOverride z o) z) _ (p.setPhaseOverride z o) at posts
  change (p.setPhaseOverride z o).cal = _ at cal
  refine ⟨{ phases, due, ends, posts := posts.of_link rfl, zone := ?_, others := fun y hy other => ?_ }, ?_⟩
  · rw [Part.calZone_of_cal cal, p.calZone_setCalZone record hz]
    rfl
  · rw [Part.calZone_of_cal cal, others y hy other]
  · refine ChangesOnly.of_zoneWork (by simp) ?_ (by simp) (by simp) (by simp) (by simp) (by simp) (by simp)
    rw [cal]
    rfl

/-- The override stands as its owner's work set it when the request has been answered. -/
theorem PhaseOverrideSet.answered {z : Nat} {o : PhaseOverride} {p q : Part} {tag kind : Byte} (r : Reply)
    (order : q.link.waiting ≠ [] → q.link.replies ≠ []) (set : PhaseOverrideSet z o (p.taken tag kind) q) :
    PhaseOverrideSet z o p (q.answered r) where
  zone := set.zone
  others := set.others
  ends := by
    rw [endNotices, Part.answered_notices r order]
    exact set.ends
  posts := set.posts.answered r
  phases := set.phases
  due := set.due

/-- A request whose owner sets a phase override is answered, and leaves the zone's record and hand-off alone changed. -/
theorem Answers.of_setPhaseOverride {i : Instr} {s : State} {tag kind : Byte} {z : Nat} {o : PhaseOverride} {cut : Byte}
    {data : List Byte} (catalogue : inCatalogue i = true) (hasTag : bodyTag (encodeRequest i) = tag)
    (hasKind : bodyKind (encodeRequest i) = kind) (r : s.Ready) (hz : z < 12)
    (work : Part.serve i (s.part.taken tag kind) = ((s.part.taken tag kind).setPhaseOverride z o, .done cut data)) :
    Answers i s tag kind (.done cut data) fun q =>
      PhaseOverrideSet z o s.part q ∧ ChangesOnly [.zonePhases, .conditioner, .replies, .notices, .handed] s.part q := by
  obtain ⟨set, moved⟩ := (s.part.taken tag kind).setPhaseOverride_set o hz
  have still : ((s.part.taken tag kind).setPhaseOverride z o).link.still = (s.part.taken tag kind).link.still := by simp
  exact .of_zoneWork catalogue hasTag hasKind r work still moved fun reply order changes =>
    ⟨set.answered reply order, changes.mono (by decide)⟩

/-- Settles O37: the operands in their order, the record set and handed at once for a phase (`PhaseOverrideSet`), and stored
with its evaluation due for a light. -/
theorem overridesAreSetForTheirMinutes : Obligations.OverridesAreSetForTheirMinutes := by
  refine ⟨fun s tag zone b d r beyond i form => ?refused, fun s tag zone b d r within => ?set⟩
  case refused =>
    obtain ⟨active, idle, light⟩ := (s.part.taken tag 0x0F).doOverride_zone (b := b) d beyond
    simp only [List.mem_cons, List.not_mem_nil, or_false] at form
    rcases form with rfl | rfl | rfl
    · exact .of_refused rfl rfl rfl r active
    · exact .of_refused rfl rfl rfl r idle
    · exact .of_refused rfl rfl rfl r light
  case set =>
    intro cut z replyData others
    have hz : z < 12 := Nat.lt_succ_of_le within
    have after {o : PhaseOverride} {q : Part} (h : PhaseOverrideSet z o s.part q ∧
        ChangesOnly [.zonePhases, .conditioner, .replies, .notices, .handed] s.part q) : others q := by
      obtain ⟨set, moved⟩ := h
      exact ⟨set.others, set.ends, set.posts, set.phases, set.due, moved⟩
    refine ⟨fun profile => ?_, fun beyond => ?_, ?_, ?_⟩
    · have answers := Answers.of_setPhaseOverride (i := .zoneOverridePhaseActive tag zone b d) rfl rfl rfl r hz
        (Part.doOverrideActive_done _ d within profile)
      exact answers.imp fun q h => ⟨h.1.zone, after h⟩
    · exact .of_refused rfl rfl rfl r (Part.doOverrideActive_profile _ d within beyond)
    · have answers := Answers.of_setPhaseOverride (i := .zoneOverridePhaseIdle tag zone d) rfl rfl rfl r hz
        (Part.doOverrideIdle_done _ d within)
      exact answers.imp fun q h => ⟨h.1.zone, after h⟩
    · exact AnswersWith.of_serve rfl rfl rfl r (by simp) (Part.doOverrideLight_done _ d within) ⟨rfl, rfl, rfl⟩

/-! ### OVERRIDE_END before PHASE (R38) -/

/-- A part whose notices end in OVERRIDE_END of zone z hands the zone: the notice stands last but for the zone's PHASE. -/
theorem Part.endNoticed_of_handZone (p s : Part) {z : Nat} {front : List Notice} {n : Notice}
    (mask : s.link.mask = p.link.mask) (ends : s.link.notices = front ++ [n]) (kind : n.kind = .overrideEnd)
    (subject : n.subject = z) : EndNoticed p (s.handZone z (p.calZone z).effective false) z n.detail := by
  intro admits
  have now : ((s.handZone z (p.calZone z).effective false).calZone z).effective = s.effective z :=
    congrArg CalZone.effective (Part.calZone_of_cal (by simp) z)
  rw [now]
  by_cases same : s.effective z = (p.calZone z).effective
  · rw [Part.handZone_of_same same]
    exact ⟨front, n, [], ends, kind, subject, rfl, by simp [same], by simp⟩
  · have link : (s.handPhase z (p.calZone z).effective).link = s.link := by simp
    rw [Part.handZone_of_changed false same, Part.postPhase]
    by_cases posted : p.link.mask.getLsbD 0 = true
    · rw [Part.post_notices _ _ _ (by rw [link, mask]; exact posted), link, ends]
      obtain ⟨front', n', notices, kind', subject', detail'⟩ := enqueueNotice_after front n _
      exact ⟨front', n', _, notices, kind'.trans kind, subject'.trans subject, detail', by simp [posted, same],
        by simp [Posting.stamped]⟩
    · rw [Part.post_of_masked _ _ _ (by rw [link, mask]; exact posted), link]
      exact ⟨front, n, [], ends, kind, subject, rfl, (if_neg fun told => posted told.1).symm, by simp⟩

/-- OVERRIDE_END of zone z, posted and admitted, ends the notices. -/
theorem Part.postOverrideEnd_notices (s : Part) (z : Nat) (light cancelled : Bool) (what : Nat)
    (admits : s.link.mask.getLsbD 1 = true) :
    ∃ front n, (s.postOverrideEnd z light cancelled what).link.notices = front ++ [n] ∧ n.kind = .overrideEnd ∧
      n.subject = z ∧ n.detail = (endTold z light cancelled what (s.effective z).phase).detail := by
  rw [Part.postOverrideEnd, Part.post_notices _ _ _ admits]
  obtain ⟨front, notices⟩ := enqueueNotice_ends s.link.notices (Posting.stamped
    { kind := .overrideEnd, subject := z
      detail := flagByte light ++ flagByte cancelled ++ u8 what ++ u8 (s.effective z).phase.code } s.clock)
  exact ⟨front, _, notices, rfl, rfl, rfl⟩

/-! ### A phase override cancelled (R37) -/

section
variable (s : Part) {zone : Byte}

/-- A cancel for a zone above 11 is refused. -/
theorem Part.doCancel_zone (beyond : 11 < zone.toNat) :
    Part.doCancelPhase zone s = (s, .refused .index 1) ∧ Part.doCancelLight zone s = (s, .refused .index 1) :=
  ⟨if_pos beyond, if_pos beyond⟩

theorem Part.doCancelPhase_of_some {o : PhaseOverride} (within : zone.toNat ≤ 11)
    (inForce : (s.calZone zone.toNat).phaseOverride = some o) :
    Part.doCancelPhase zone s = (s.cancelPhase zone.toNat o, .done 0 (1 :: u16 o.minutes)) := by
  simp only [Part.doCancelPhase, Nat.not_lt.2 within, if_false, inForce]
  rfl

theorem Part.doCancelPhase_of_none (within : zone.toNat ≤ 11) (none : (s.calZone zone.toNat).phaseOverride = none) :
    Part.doCancelPhase zone s = (s, .done 0 [0, 0xFF, 0xFF]) := by
  simp only [Part.doCancelPhase, Nat.not_lt.2 within, if_false, none]
  rfl

theorem Part.doCancelLight_of_some {l : LightOverride} (within : zone.toNat ≤ 11)
    (inForce : (s.calZone zone.toNat).lightOverride = some l) :
    Part.doCancelLight zone s = (s.cancelLight zone.toNat l, .done 0 (1 :: u16 l.minutes)) := by
  simp only [Part.doCancelLight, Nat.not_lt.2 within, if_false, inForce]
  rfl

theorem Part.doCancelLight_of_none (within : zone.toNat ≤ 11) (none : (s.calZone zone.toNat).lightOverride = none) :
    Part.doCancelLight zone s = (s, .done 0 [0, 0xFF, 0xFF]) := by
  simp only [Part.doCancelLight, Nat.not_lt.2 within, if_false, none]
  rfl

end

/-- What a part has of a phase override o of zone z cancelled in another. -/
structure PhaseOverrideCancelled (z : Nat) (o : PhaseOverride) (p q : Part) : Prop where
  zone : q.calZone z = { p.calZone z with phaseOverride := none }.resolved (p.calendarPhase z)
  others : ∀ y < 12, y ≠ z → q.calZone y = p.calZone y
  noticed : EndNoticed p q z (endTold z false true o.kind.phase.code (q.calZone z).effective.phase).detail
  posts : Posts (endTold z false true o.kind.phase.code (q.calZone z).effective.phase :: phaseTold p q z) p q
  phases : PhasesTakenUp p q false
  due : q.due = p.due ++ handedOn p q false z

theorem Part.cancelPhase_cancelled (p : Part) {z : Nat} (o : PhaseOverride) (hz : z < 12) :
    PhaseOverrideCancelled z o p (p.cancelPhase z o) ∧
      ChangesOnly [.zonePhases, .conditioner, .notices, .handed] p (p.cancelPhase z o) := by
  let record : CalZone := { p.calZone z with phaseOverride := none }.resolved (p.calendarPhase z)
  let ended : Part := (p.setCalZone z record).postOverrideEnd z false true o.kind.phase.code
  have endedCal : ended.cal = (p.setCalZone z record).cal := by simp [ended]
  have endedStill : ended.link.still = p.link.still := by simp [ended]
  have others : ∀ y < 12, y ≠ z → ended.calZone y = p.calZone y := fun y _ other =>
    (Part.calZone_of_cal endedCal y).trans (p.calZone_setCalZone_other record other)
  obtain ⟨phases, due, posts⟩ := Part.handOne_hands p ended hz (by simp [ended]) others
  have cal : (ended.handZone z (p.calZone z).effective false).cal = (p.setCalZone z record).cal := by simpa using endedCal
  have told := (p.setCalZone z record).postOverrideEnd_posts z false true o.kind.phase.code
  have noticed := (p.setCalZone z record).postOverrideEnd_notices z false true o.kind.phase.code
  have standing : (p.setCalZone z record).effective z = record.effective :=
    congrArg CalZone.effective (p.calZone_setCalZone record hz)
  rw [standing] at told noticed
  change PhasesTakenUp p (p.cancelPhase z o) false at phases
  change (p.cancelPhase z o).due = _ ++ handedOn p (p.cancelPhase z o) false z at due
  change Posts (phaseTold p (p.cancelPhase z o) z) _ (p.cancelPhase z o) at posts
  change (p.cancelPhase z o).cal = _ at cal
  have zone : (p.cancelPhase z o).calZone z = record :=
    (Part.calZone_of_cal cal z).trans (p.calZone_setCalZone record hz)
  refine ⟨{ phases, zone, due := ?due, others := fun y hy other => ?others, noticed := ?noticed, posts := ?posts }, ?moved⟩
  case due =>
    rw [due]
    simp [ended]
  case others => rw [Part.calZone_of_cal cal, ← Part.calZone_of_cal endedCal, others y hy other]
  case noticed =>
    rw [zone]
    intro admits
    obtain ⟨front, n, notices, kind, subject, detail⟩ := noticed admits
    have hands := Part.endNoticed_of_handZone p ended (Link.mask_of_still endedStill) notices kind subject
    rw [detail] at hands
    exact hands admits
  case posts =>
    rw [zone]
    have first : Posts [_] p ended := told.of_link rfl
    refine first.append posts (Link.mask_of_still endedStill) ?_ (Link.transmitter_of_still endedStill)
    simp [ended]
  case moved =>
    refine ChangesOnly.of_zoneWork (by simp) ?_ (by simp) (by simp) (by simp) (by simp) (by simp) (by simp)
    rw [cal]
    rfl

/-- The cancel stands as its owner's work left it when the request has been answered. -/
theorem PhaseOverrideCancelled.answered {z : Nat} {o : PhaseOverride} {p q : Part} {tag kind : Byte} (r : Reply)
    (order : q.link.waiting ≠ [] → q.link.replies ≠ []) (cancelled : PhaseOverrideCancelled z o (p.taken tag kind) q) :
    PhaseOverrideCancelled z o p (q.answered r) where
  zone := cancelled.zone
  others := cancelled.others
  noticed := by
    rw [EndNoticed, Part.answered_notices r order]
    exact cancelled.noticed
  posts := cancelled.posts.answered r
  phases := cancelled.phases
  due := cancelled.due

/-! ### A light override cancelled (R37) -/

/-- What a part has of a light override l of zone z cancelled in another. -/
structure LightOverrideCancelled (z : Nat) (l : LightOverride) (p q : Part) : Prop where
  zone : q.calZone z = { p.calZone z with lightOverride := none }
  others : ∀ y < 12, y ≠ z → q.calZone y = p.calZone y
  noticed : EndNoticed p q z (endTold z true true l.level (q.calZone z).effective.phase).detail
  posts : Posts [endTold z true true l.level (q.calZone z).effective.phase] p q
  due : q.due = p.due ++ [.evaluate z]
  zc : q.zc = p.zc

theorem Part.cancelLight_cancelled (p : Part) {z : Nat} (l : LightOverride) (hz : z < 12) :
    LightOverrideCancelled z l p (p.cancelLight z l) ∧
      ChangesOnly [.zonePhases, .conditioner, .notices, .handed] p (p.cancelLight z l) := by
  let record : CalZone := { p.calZone z with lightOverride := none }
  let ended : Part := (p.setCalZone z record).postOverrideEnd z true true l.level
  have cal : ended.cal = (p.setCalZone z record).cal := by simp [ended]
  have still : ended.link.still = p.link.still := by simp [ended]
  have zone : ended.calZone z = record := (Part.calZone_of_cal cal z).trans (p.calZone_setCalZone record hz)
  have told := (p.setCalZone z record).postOverrideEnd_posts z true true l.level
  have noticed := (p.setCalZone z record).postOverrideEnd_notices z true true l.level
  have standing : (p.setCalZone z record).effective z = (p.calZone z).effective :=
    (congrArg CalZone.effective (p.calZone_setCalZone record hz) :)
  rw [standing] at told noticed
  have is : p.cancelLight z l = ended.owe (.evaluate z) := rfl
  have same : ended.effective z = (p.calZone z).effective := (congrArg CalZone.effective zone :)
  rw [is]
  refine ⟨{ zone, others := fun y _ other => ?others, noticed := ?noticed, posts := ?posts, due := ?due
            zc := by simp [ended] }, ?moved⟩
  case others => exact (Part.calZone_of_cal cal y).trans (p.calZone_setCalZone_other record other)
  case noticed =>
    intro admits
    obtain ⟨front, n, notices, kind, subject, detail⟩ := noticed admits
    have hands := Part.endNoticed_of_handZone p ended (Link.mask_of_still still) notices kind subject
    rw [detail, Part.handZone_of_same same, ← same] at hands
    exact hands admits
  case posts =>
    have posts : Posts [_] p ended := told.of_link rfl
    rw [← same] at posts
    exact posts
  case due =>
    rw [Part.due_owe]
    simp [ended]
  case moved =>
    refine ChangesOnly.of_zoneWork (by simp [ended]) ?_ (by simp [ended]) (by simp [ended]) (by simp [ended])
      (by simp [ended]) (by simp [ended]) (by simp [ended])
    rw [Part.owe_cal, cal]
    rfl

theorem LightOverrideCancelled.answered {z : Nat} {l : LightOverride} {p q : Part} {tag kind : Byte} (r : Reply)
    (order : q.link.waiting ≠ [] → q.link.replies ≠ []) (cancelled : LightOverrideCancelled z l (p.taken tag kind) q) :
    LightOverrideCancelled z l p (q.answered r) where
  zone := cancelled.zone
  others := cancelled.others
  noticed := by
    rw [EndNoticed, Part.answered_notices r order]
    exact cancelled.noticed
  posts := cancelled.posts.answered r
  due := cancelled.due
  zc := cancelled.zc

/-- Settles O38: each cancel's record, hand-off and notices (`PhaseOverrideCancelled`, `LightOverrideCancelled`), to the end of
the event. -/
theorem overridesAreCancelledAtOnce : Obligations.OverridesAreCancelledAtOnce := by
  refine ⟨fun s tag zone r beyond i form => ?refused, fun s tag zone o l r within => ?cancel⟩
  case refused =>
    obtain ⟨phase, light⟩ := (s.part.taken tag 0x0F).doCancel_zone beyond
    simp only [List.mem_cons, List.not_mem_nil, or_false] at form
    rcases form with rfl | rfl
    · exact .of_refused rfl rfl rfl r phase
    · exact .of_refused rfl rfl rfl r light
  case cancel =>
    intro z phaseAfter others
    have hz : z < 12 := Nat.lt_succ_of_le within
    have sub : [Piece.replies, .zonePhases, .conditioner, .notices, .handed] ⊆
        [.zonePhases, .conditioner, .replies, .notices, .handed] := by decide
    refine ⟨fun inForce => ?phase, fun none => ?noPhase, fun inForce => ?light, fun none => ?noLight⟩
    case phase =>
      obtain ⟨cancelled, moved⟩ := (s.part.taken tag 0x0F).cancelPhase_cancelled o hz
      refine .of_zoneWork rfl rfl rfl r (Part.doCancelPhase_of_some _ within inForce) (by simp) moved
        fun reply order changes => ?_
      obtain ⟨zone, rest, noticed, posts, phases, due⟩ := cancelled.answered reply order
      refine ⟨?_, ?_, ?_, ?_, phases, due, noticed, posts, rest, changes.mono sub⟩
      all_goals
        rw [zone]
        rfl
    case noPhase =>
      exact AnswersWith.of_serve rfl rfl rfl r (by simp) (Part.doCancelPhase_of_none _ within none) ⟨rfl, rfl, rfl⟩
    case light =>
      obtain ⟨cancelled, moved⟩ := (s.part.taken tag 0x0F).cancelLight_cancelled l hz
      refine .of_zoneWork rfl rfl rfl r (Part.doCancelLight_of_some _ within inForce) (by simp) moved
        fun reply order changes => ?_
      obtain ⟨zone, rest, noticed, posts, due, zc⟩ := cancelled.answered reply order
      exact ⟨zone, due, zc, noticed, posts, rest, changes.mono sub⟩
    case noLight =>
      exact AnswersWith.of_serve rfl rfl rfl r (by simp) (Part.doCancelLight_of_none _ within none) ⟨rfl, rfl, rfl⟩

end Sys2Proof.Machine
end

section
/-! SUPPORT. What one event moves of the part: the pieces that each shared operation moves, and how those of two operations, one after
the other, join. -/

namespace Sys2Proof.Machine

/-! ### Pieces moved one after another -/

/-- What two parts share with a third in turn, the first and the last share. -/
theorem Piece.Same.trans {p q r : Part} {piece : Piece} (first : piece.Same p q) (second : piece.Same q r) :
    piece.Same p r := by
  cases piece
  case sending =>
    intro sends
    have sent : q.link.transmitter = p.link.transmitter := first sends
    exact (second (sent ▸ sends)).trans sent
  all_goals simp_all [Piece.Same]

/-- What two operations move, one after the other. -/
theorem ChangesOnly.trans {few more : List Piece} {p q r : Part} (first : ChangesOnly few p q)
    (second : ChangesOnly more q r) : ChangesOnly (few ++ more) p r := fun piece other => by
  simp only [List.mem_append, not_or] at other
  exact (first piece other.1).trans (second piece other.2)

/-- Nothing done moves nothing. -/
theorem ChangesOnly.refl (p : Part) : ChangesOnly [] p p := fun piece _ => by cases piece <;> simp [Piece.Same]

/-- Work inside the measurement unit moves it alone. -/
theorem ChangesOnly.of_mu (p : Part) (mu : Measurement) : ChangesOnly [.measurement] p { p with mu := mu } :=
  fun piece other => by cases piece <;> simp_all [Piece.Same]

/-- Work inside the air quality unit moves it alone. -/
theorem ChangesOnly.of_air (p : Part) (air : AirQuality) : ChangesOnly [.airQuality] p { p with air := air } :=
  fun piece other => by cases piece <;> simp_all [Piece.Same]

/-- Events handed on, and those taken, move their list alone. -/
theorem ChangesOnly.of_due (p : Part) (due : List Due) : ChangesOnly [.handed] p { p with due := due } :=
  fun piece other => by cases piece <;> simp_all [Piece.Same]

/-- A post moves the notices alone. -/
theorem ChangesOnly.post (p : Part) (kind : NoticeKind) (subject : Nat) (detail : List Byte) :
    ChangesOnly [.notices] p (p.post kind subject detail) := by
  unfold Part.post
  split
  · exact fun piece other => by cases piece <;> simp_all [Piece.Same, Link.outgoing]
  · exact (ChangesOnly.refl p).mono (by simp)

/-- Unsaved changes stand among the settings. -/
theorem ChangesOnly.markUnsaved (p : Part) : ChangesOnly [.settings] p p.markUnsaved :=
  fun piece other => by cases piece <;> simp_all [Piece.Same, Part.markUnsaved, Link.outgoing, Link.unsent]

/-- A request taken into the hand moves the request in hand alone. -/
theorem ChangesOnly.taken (p : Part) (tag kind : Byte) : ChangesOnly [.replies] p (p.taken tag kind) :=
  fun piece other => by cases piece <;> simp_all [Piece.Same, Part.taken, Link.unsent]

/-- A reply that becomes ready moves the replies alone. -/
theorem ChangesOnly.ready (p : Part) (r : Reply) : ChangesOnly [.replies] p { p with link := p.link.ready r } := by
  unfold Link.ready
  split <;> exact fun piece other => by cases piece <;> simp_all [Piece.Same, Link.unsent]

/-- At the end of an event an idle transmitter may pick its next frame, which moves no other piece. -/
theorem ChangesOnly.close (p : Part) : ChangesOnly [] p p.close := fun piece _ => by
  cases piece
  case sending => exact Part.close_sending rfl
  all_goals simp [Piece.Same, Part.close]

theorem ChangesOnly.closed {pieces : List Piece} {p q : Part} (moved : ChangesOnly pieces p q) :
    ChangesOnly pieces p q.close := (moved.trans (.close q)).mono (by simp)

end Sys2Proof.Machine
end

section
/-! SUPPORT. The second of the timers that have no row, and the requests that store timings and scan lists or clear flags. -/

namespace Sys2Proof.Machine

/-! ### A second on an empty queue -/

/-- A second moves timers of four units, and of each unit its timers alone. -/
theorem ChangesOnly.second (p : Part) : ChangesOnly [.measurement, .doorLine, .conditioner, .budget] p p.second :=
  fun piece other => by cases piece <;> simp_all [Piece.Same, Part.second]

theorem Part.second_zone (p : Part) {z : Nat} (hz : z < 12) :
    p.second.zone z = { p.zone z with timer := (p.zone z).timer - 1, presence := runDown (p.zone z).presence } :=
  Tab.get_each _ _ _ hz

theorem Part.second_runOn (p : Part) {a : Nat} (first : 1 ≤ a) (last : a ≤ 48) :
    p.second.runOn a = runDown (p.runOn a) := Tab.get_each _ _ _ (by omega)

theorem Part.second_load (p : Part) {i : Nat} (hi : i < 128) :
    p.second.lb.load i =
      { p.lb.load i with minOn := runDown (p.lb.load i).minOn, minOff := runDown (p.lb.load i).minOff } :=
  Tab.get_each _ _ _ hi

/-- Settles O3: the second that an empty queue lets pass, unit by unit. -/
theorem anEmptyQueueLetsASecondPass : Obligations.AnEmptyQueueLetsASecondPass := by
  intro s empty
  rw [step_of_empty empty]
  refine ⟨fun held => ?held, fun runs => ⟨s.idle, rfl, ?runs⟩⟩
  case held => simp [State.idle, held]
  case runs =>
    have passes : s.idle = { s with part := s.part.second } := by simp [State.idle, runs]
    rw [passes]
    exact ⟨empty, ChangesOnly.second s.part, rfl, rfl, rfl, fun z hz => s.part.second_zone hz,
      fun a first last => s.part.second_runOn first last, rfl, fun i hi => s.part.second_load hi⟩

/-! ### FLAGS_CLEAR (R60) -/

/-- Settles O42: the table of channels that the clearing leaves. -/
theorem flagsClearReportsAndClears : Obligations.FlagsClearReportsAndClears := by
  intro s tag mask r
  refine ⟨(s.part.mu.clearFlags mask).channels, fun c hc => Tab.get_build _ _ _ hc, ?_⟩
  exact AnswersWith.of_serve rfl rfl rfl r (by simp) rfl ⟨rfl, rfl, rfl⟩

/-! ### Timings (R92, R115, R152) -/

section
variable (s : Part) (saves : s.link.saving = none)
include saves

theorem Part.doZoneWriteTiming_done (interval : Byte) (hold : Half) :
    Part.doZoneWriteTiming interval hold s =
      (Part.markUnsaved { s with zc := { s.zc with interval := max 5 (min 120 interval.toNat), hold := min 3600 hold.toNat } },
        .done (firstCut [(2, decide (interval.toNat < 5 ∨ 120 < interval.toNat)), (3, decide (3600 < hold.toNat))]) []) := by
  rw [← outside_eq 5 120 _ (by decide), ← outside_zero, ← clampN_zero]
  exact Part.configWrite_done saves rfl

theorem Part.doGroupWriteHold_done (limit : Half) :
    Part.doGroupWriteHold limit s =
      (Part.markUnsaved { s with air := { s.air with hold := min 600 limit.toNat } },
        .done (firstCut [(2, decide (600 < limit.toNat))]) []) := by
  rw [← outside_zero, ← clampN_zero]
  exact Part.configWrite_done saves rfl

theorem Part.doStationTimeout_done (timeout : Half) :
    Part.doStationTimeout timeout s =
      (Part.markUnsaved { s with dl := { s.dl with timeout := max 30 (min 300 timeout.toNat) } },
        .done (firstCut [(2, decide (timeout.toNat < 30 ∨ 300 < timeout.toNat))]) []) := by
  rw [← outside_eq 30 300 _ (by decide)]
  exact Part.configWrite_done saves rfl

end

/-! ### SCAN_WRITE (R49) -/

theorem scanLengthWrong_iff (count : Byte) (entries : List Byte) :
    scanLengthWrong count entries = true ↔ count.toNat = 0 ∨ 32 < count.toNat ∨ count.toNat ≠ entries.length := by
  simp [scanLengthWrong, or_assoc, eq_comm (a := entries.length)]

/-- A list whose entries all name channels has no bad entry. -/
theorem badEntry_of_all (field : Nat) {entries : List Byte} (all : ∀ e ∈ entries, e.toNat ≤ 20) :
    badEntry field entries = none := by
  induction entries generalizing field with
  | nil => rfl
  | cons e rest ih =>
    simp only [List.forall_mem_cons] at all
    rw [badEntry, if_neg (by omega)]
    exact ih _ all.2

/-- The first entry above 20 is the bad one, at its own field. -/
theorem badEntry_of_first (field : Nat) {before : List Byte} (e : Byte) (after : List Byte)
    (pass : ∀ x ∈ before, x.toNat ≤ 20) (beyond : 20 < e.toNat) :
    badEntry field (before ++ e :: after) = some (field + before.length) := by
  induction before generalizing field with
  | nil => exact if_pos beyond
  | cons x rest ih =>
    simp only [List.forall_mem_cons] at pass
    rw [List.cons_append, badEntry, if_neg (by omega), ih _ pass.2, List.length_cons]
    congr 1
    omega

/-- A list whose entries all name channels is accepted with its periods clamped. -/
theorem scanOperands_accept {entries : List Byte} (period fast : Byte) (all : badEntry 2 entries = none) :
    scanOperands entries period fast =
      (let p := max 1 (min 60 period.toNat)
       let f := min p (max 1 (min 60 fast.toNat))
       .accept { entries := entries.map BitVec.toNat, period := p, fast := f }
         (firstCut
           [(2 + entries.length, decide (p ≠ period.toNat)), (3 + entries.length, decide (f ≠ fast.toNat))])) := by
  rw [scanOperands, all]
  rfl

section
variable (s : Part) {count : Byte} {entries : List Byte} (period fast : Byte)

theorem Part.doScanWrite_length (wrong : scanLengthWrong count entries = true) :
    Part.doScanWrite count entries period fast s = (s, .refused .length 0) := if_pos wrong

variable (fits : ¬ scanLengthWrong count entries = true) (saves : s.link.saving = none)
include fits saves

theorem Part.doScanWrite_entry {field : Nat} (bad : badEntry 2 entries = some field) :
    Part.doScanWrite count entries period fast s = (s, .refused .index field) :=
  (if_neg fits).trans (Part.configWrite_refused saves (s.outcome_refuse _ _ (by simp [scanOperands, bad])))

theorem Part.doScanWrite_done (all : badEntry 2 entries = none) :
    Part.doScanWrite count entries period fast s =
      (let p := max 1 (min 60 period.toNat)
       let f := min p (max 1 (min 60 fast.toNat))
       (Part.markUnsaved
          { s with mu := { s.mu with staged := some (entries.map fun e => e.toNat), period := p, fast := f } },
        .done (firstCut [(2 + entries.length, decide (p ≠ period.toNat)), (3 + entries.length, decide (f ≠ fast.toNat))])
          [])) :=
  (if_neg fits).trans (Part.configWrite_done saves (s.outcome_accept _ _ (scanOperands_accept period fast all)))

end

/-- Settles O39: each write's operands clamped and checked, and what its owner stores. -/
theorem scanListAndTimingsAreStoredClamped : Obligations.ScanListAndTimingsAreStoredClamped := by
  intro s tag count period fast interval entries h w
  have saves (kind : Byte) : (s.part.taken tag kind).link.saving = none := w.noSave
  intro p f link scan
  refine ⟨fun some few counted all => ?_, fun wrong => ?_, fun few counted before e after split pass beyond => ?_, ?_, ?_, ?_⟩
  · have fits : ¬ scanLengthWrong count entries = true := by rw [scanLengthWrong_iff]; omega
    exact .of_serve rfl rfl rfl w.ready (by simp)
      (Part.doScanWrite_done _ period fast fits (saves _) (badEntry_of_all 2 all)) ⟨rfl, rfl, rfl⟩
  · exact .of_refused rfl rfl rfl w.ready (Part.doScanWrite_length _ period fast ((scanLengthWrong_iff _ _).2 wrong))
  · have fits : ¬ scanLengthWrong count entries = true := by
      have one : 0 < entries.length := by simp [split]
      rw [scanLengthWrong_iff]
      omega
    exact .of_refused rfl rfl rfl w.ready
      (Part.doScanWrite_entry _ period fast fits (saves _) (split ▸ badEntry_of_first 2 e after pass beyond))
  · exact .of_serve rfl rfl rfl w.ready (by simp) (Part.doZoneWriteTiming_done _ (saves _) interval h) ⟨rfl, rfl, rfl⟩
  · exact .of_serve rfl rfl rfl w.ready (by simp) (Part.doGroupWriteHold_done _ (saves _) h) ⟨rfl, rfl, rfl⟩
  · exact .of_serve rfl rfl rfl w.ready (by simp) (Part.doStationTimeout_done _ (saves _) h) ⟨rfl, rfl, rfl⟩

end Sys2Proof.Machine
end

section
/-! SUPPORT. The measurement unit: what a write of a channel's record, the start of a conversion, the choice of the next one and a
request of the priority list leave of it (R46 to R50). -/

namespace Sys2Proof.Machine

/-- Beyond its end a table reads the default. -/
theorem Tab.get_beyond {α : Type} [Inhabited α] {size : Nat} (v : Vector α size) {i : Nat} (h : size ≤ i) :
    Tab.get v i = default := by
  simp [Tab.get, Vector.getD, Nat.not_lt.2 h]

namespace Measurement

variable (m : Measurement)

/-! ### A channel's record -/

theorem channel_setChannel {c : Nat} (ch : Channel) (hc : c < 21) : (m.setChannel c ch).channel c = ch :=
  Tab.get_put_same _ _ _ hc

theorem channel_setChannel_other {c k : Nat} (ch : Channel) (other : k ≠ c) : (m.setChannel c ch).channel k = m.channel k :=
  Tab.get_put_other _ _ _ _ other.symm

/-- Two writes of one record: the last stands. -/
theorem setChannel_setChannel (c : Nat) (a b : Channel) : (m.setChannel c a).setChannel c b = m.setChannel c b := by
  simp [setChannel, Tab.put]

/-! ### The start of a conversion (R46) -/

/-- The record of a channel whose conversion starts: a pending clear empties its history. -/
def converting (ch : Channel) : Channel := if ch.clearPending then { ch with history := [], clearPending := false } else ch

theorem startConversion_channel (c k : Nat) (priority measure : Bool) :
    (m.startConversion c priority measure).channel k = if k = c then converting (m.channel k) else m.channel k := by
  have started : (m.startConversion c priority measure).channel k = (m.setChannel c (converting (m.channel c))).channel k := rfl
  rw [started]
  by_cases same : k = c
  · subst same
    rw [if_pos rfl]
    by_cases hk : k < 21
    · exact m.channel_setChannel _ hk
    · have none (v : Vector Channel 21) : Tab.get v k = default := Tab.get_beyond v (Nat.not_lt.1 hk)
      simp only [channel, none]
      rfl
  · rw [if_neg same, m.channel_setChannel_other _ same]

theorem startConversion_started (c : Nat) (priority measure : Bool) :
    ConversionStarted m (m.startConversion c priority measure) c priority measure := by
  refine ⟨rfl, ?_, fun k _ other => ?_⟩ <;> rw [startConversion_channel]
  · exact if_pos rfl
  · exact if_neg other

/-! ### The choice of the next conversion (R48) -/

section
variable {m}

theorem nextEntry_of_first (k : Nat) {before : List Nat} {c : Nat} (after : List Nat)
    (disabled : ∀ x ∈ before, (m.channel x).cfg.enabled = false) (enabled : (m.channel c).cfg.enabled = true) :
    m.nextEntry (before ++ c :: after) k = some (c, k + before.length + 1) := by
  induction before generalizing k with
  | nil => exact if_pos enabled
  | cons x rest ih =>
    simp only [List.forall_mem_cons] at disabled
    rw [List.cons_append, nextEntry, if_neg (by simp [disabled.1]), ih _ disabled.2, List.length_cons]
    congr 2
    omega

theorem nextEntry_of_none (k : Nat) {entries : List Nat} (disabled : ∀ x ∈ entries, (m.channel x).cfg.enabled = false) :
    m.nextEntry entries k = none := by
  induction entries generalizing k with
  | nil => rfl
  | cons x rest ih =>
    simp only [List.forall_mem_cons] at disabled
    rw [nextEntry, if_neg (by simp [disabled.1]), ih _ disabled.2]

theorem chooseNext_of_priority {e : PriorityEntry} {rest : List PriorityEntry} (waits : m.priority = e :: rest) :
    m.chooseNext = { m with priority := rest }.startConversion e.channel true e.measure := by
  rw [chooseNext, waits]

theorem chooseNext_of_between (none : m.priority = []) (between : m.round = .between) :
    m.chooseNext = { m with converter := .none } := by
  rw [chooseNext, none, between]

theorem chooseNext_of_entry {k c : Nat} {before after : List Nat} (none : m.priority = []) (inRound : m.round = .inRound k)
    (entries : m.active.drop k = before ++ c :: after) (disabled : ∀ x ∈ before, (m.channel x).cfg.enabled = false)
    (enabled : (m.channel c).cfg.enabled = true) :
    m.chooseNext = { m with round := .inRound (k + before.length + 1) }.startConversion c false false := by
  simp only [chooseNext, none, inRound, entries, nextEntry_of_first k after disabled enabled]

theorem chooseNext_of_roundEnd {k : Nat} (none : m.priority = []) (inRound : m.round = .inRound k)
    (disabled : ∀ x ∈ m.active.drop k, (m.channel x).cfg.enabled = false) :
    m.chooseNext = { m with round := .between, converter := .none } := by
  simp only [chooseNext, none, inRound, nextEntry_of_none k disabled]

end

/-- The choice leaves the converter idle and the records alone, or starts one conversion. -/
theorem chooseNext_cases :
    (m.chooseNext.converter = none ∧ m.chooseNext.channels = m.channels) ∨
      ∃ (m' : Measurement) (c : Nat) (priority measure : Bool),
        m.chooseNext = m'.startConversion c priority measure ∧ m'.channels = m.channels := by
  unfold chooseNext
  split
  · exact .inr ⟨_, _, _, _, rfl, rfl⟩
  · split
    · exact .inl ⟨rfl, rfl⟩
    · split
      · exact .inr ⟨_, _, _, _, rfl, rfl⟩
      · exact .inl ⟨rfl, rfl⟩

/-- The choice empties the history of the channel it takes, where a clear is pending, and moves no other record. -/
theorem chooseNext_channel (k : Nat) :
    m.chooseNext.channel k =
      if m.chooseNext.converter.map (·.channel) = some k ∧ (m.channel k).clearPending = true then
        { m.channel k with history := [], clearPending := false }
      else m.channel k := by
  rcases m.chooseNext_cases with ⟨idle, channels⟩ | ⟨m', c, priority, measure, starts, channels⟩
  · rw [idle, channel, channels]
    simp [channel]
  · have converter : m.chooseNext.converter.map (·.channel) = some c := by
      rw [starts]
      rfl
    have now : m.chooseNext.channel k = if k = c then converting (m.channel k) else m.channel k := by
      rw [starts, startConversion_channel, channel, channels, ← channel]
    simp only [now, converter, Option.some_inj]
    by_cases taken : k = c
    · simp [taken, converting]
    · simp [taken, Ne.symm taken]

/-- The choice moves no configuration. -/
theorem chooseNext_cfg (k : Nat) : (m.chooseNext.channel k).cfg = (m.channel k).cfg := by
  rw [chooseNext_channel]
  split <;> rfl

@[simp] theorem chooseNext_keeps :
    m.chooseNext.active = m.active ∧ m.chooseNext.staged = m.staged ∧ m.chooseNext.period = m.period ∧
      m.chooseNext.fast = m.fast ∧ m.chooseNext.outstanding = m.outstanding ∧ m.chooseNext.scanTimer = m.scanTimer ∧
      m.chooseNext.fastTimer = m.fastTimer := by
  unfold chooseNext
  (repeat' split) <;> exact ⟨rfl, rfl, rfl, rfl, rfl, rfl, rfl⟩

/-- The head of the priority list is taken, where there is one. -/
theorem chooseNext_priority : m.chooseNext.priority = m.priority.tail := by
  cases waits : m.priority with
  | cons e rest =>
    rw [chooseNext_of_priority waits]
    rfl
  | nil =>
    simp only [chooseNext, waits]
    (repeat' split) <;> rfl

/-! ### A request of the priority list (R50) -/

theorem listed_iff (c : Nat) : m.listed c = true ↔ ∃ e ∈ m.priority, e.channel = c := by
  simp [listed]

section
variable {m} {c : Nat} (measure : Bool)

theorem request_of_listed (listed : ∃ e ∈ m.priority, e.channel = c) :
    m.request c measure =
      some { m with
        priority := m.priority.map fun e => if e.channel = c then { e with measure := e.measure || measure } else e } :=
  if_pos ((m.listed_iff c).2 listed)

variable (unlisted : ¬ ∃ e ∈ m.priority, e.channel = c)
include unlisted

theorem request_of_busy (room : m.priority.length < 8) (busy : m.converter.isSome = true) :
    m.request c measure = some { m with priority := m.priority ++ [{ channel := c, measure := measure }] } := by
  have works : m.converter.isNone = false := by simpa [← Option.isSome_iff_ne_none] using busy
  simp only [request, (m.listed_iff c).not.2 unlisted, show m.priority.length < Config.priorityPlaces from room, works, if_true,
    Bool.false_eq_true, if_false]

theorem request_of_idle (room : m.priority.length < 8) (idle : m.converter = none) :
    m.request c measure =
      some (Measurement.chooseNext { m with priority := m.priority ++ [{ channel := c, measure := measure }] }) := by
  simp only [request, (m.listed_iff c).not.2 unlisted, show m.priority.length < Config.priorityPlaces from room, idle,
    Option.isNone_none, if_true, Bool.false_eq_true, if_false]

theorem request_of_full (full : 8 ≤ m.priority.length) : m.request c measure = none := by
  rw [request, if_neg ((m.listed_iff c).not.2 unlisted), if_neg (show ¬ _ < Config.priorityPlaces from Nat.not_lt.2 full)]

end

end Measurement

end Sys2Proof.Machine
end

section
/-! SUPPORT. MEASURE and the timers of the measurement unit (R42, R47 to R52). -/

namespace Sys2Proof.Machine

/-! ### A request taken at once, whatever its verdict -/

/-- Where a request of the catalogue that is taken at once leads, from its owner's work. -/
theorem exec_of_serve {i : Instr} {s : State} {v : Verdict} {tag kind : Byte} {q : Part}
    (catalogue : inCatalogue i = true) (hasTag : bodyTag (encodeRequest i) = tag)
    (hasKind : bodyKind (encodeRequest i) = kind) (r : s.Ready) (work : Part.serve i (s.part.taken tag kind) = (q, v)) :
    exec i s = .next { s with part := (Part.settle tag kind (q, v)).close } := by
  subst hasTag hasKind
  rw [exec_request i s catalogue, State.request, State.act_runs s _ r.runs, Part.request, if_pos ⟨r.free, r.noneHeld⟩, ← work]
  rfl

/-- What a part that an event becomes is known to have, the event ends with. -/
theorem Becomes.ends {c : Instr} {s : State} {p : Part} {after : Part → Prop} (becomes : Becomes c s p) (h : after p.close) :
    Ends c s after := ⟨_, becomes, rfl, h⟩

/-! ### MEASURE (R52) -/

/-- A MEASURE whose owner defers its reply leaves its tag deferred and no request in hand. -/
theorem measure_becomes {s : State} {tag n : Byte} {m : Measurement} (r : s.Ready)
    (work : Part.serve (.measure tag n) (s.part.taken tag 0x13) = ({ s.part.taken tag 0x13 with mu := m }, .deferred)) :
    Becomes (.measure tag n) s
      { s.part with mu := m, link := { s.part.link with deferredMeasure := some tag } } := by
  have defers : ({ s.part.link with inHand := some (tag, 0x13) } : Link).defer tag 0x13 =
      { s.part.link with deferredMeasure := some tag } := by
    rw [Link.defer, if_pos rfl, ← r.free]
  refine (exec_of_serve (i := .measure tag n) rfl rfl rfl r work).trans ?_
  rw [← defers]
  rfl

section
variable (s : Part) {n : Byte}

theorem Part.doMeasure_beyond (beyond : 20 < n.toNat) : Part.doMeasure n s = (s, .refused .index 1) := if_pos beyond

variable (within : n.toNat ≤ 20)
include within

theorem Part.doMeasure_disabled (disabled : (s.channel n.toNat).cfg.enabled = false) :
    Part.doMeasure n s = (s, .refused .state 1) := by
  rw [Part.doMeasure, if_neg (Nat.not_lt.2 within), Part.measure, if_pos (by simp [disabled])]

variable (enabled : (s.channel n.toNat).cfg.enabled = true)
include enabled

theorem Part.doMeasure_outstanding (outstanding : s.mu.outstanding.isSome = true) :
    Part.doMeasure n s = (s, .refused .busy 0) := by
  rw [Part.doMeasure, if_neg (Nat.not_lt.2 within), Part.measure, if_neg (by simp [enabled]), if_pos outstanding]

variable (free : s.mu.outstanding = none)
include free

theorem Part.doMeasure_full (full : s.mu.request n.toNat true = none) : Part.doMeasure n s = (s, .refused .busy 0) := by
  rw [Part.doMeasure, if_neg (Nat.not_lt.2 within), Part.measure, if_neg (by simp [enabled]), if_neg (by simp [free]), full]

theorem Part.doMeasure_deferred {m : Measurement} (joins : s.mu.request n.toNat true = some m) :
    Part.doMeasure n s = ({ s with mu := { m with outstanding := some n.toNat } }, .deferred) := by
  rw [Part.doMeasure, if_neg (Nat.not_lt.2 within), Part.measure, if_neg (by simp [enabled]), if_neg (by simp [free]), joins]

end

/-- A MEASURE that joins moves the unit and the deferred tag alone. -/
theorem ChangesOnly.of_measure (p : Part) (mu : Measurement) (tag : Option Byte) :
    ChangesOnly [.measurement, .replies] p { p with mu := mu, link := { p.link with deferredMeasure := tag } } :=
  fun piece other => by cases piece <;> simp_all [Piece.Same, Link.unsent]

/-- Settles O41: the refusals in their order, and each way into the priority list. -/
theorem measureJoinsThePriorityList : Obligations.MeasureJoinsThePriorityList := by
  intro s tag n r c mu listed accepted link
  have joins {m : Measurement} (accept : accepted) (request : mu.request c true = some m) :
      Becomes (.measure tag n) s { s.part with mu := { m with outstanding := some c }, link := link } := by
    obtain ⟨within, enabled, free⟩ := accept
    exact measure_becomes r (Part.doMeasure_deferred (s.part.taken tag 0x13) within enabled free request)
  refine ⟨fun accept merges => ?_, fun accept unlisted room busy => ?_, fun accept empty idle => ?_, fun beyond => ?_,
    fun within disabled => ?_, fun within enabled outstanding => ?_, fun accept unlisted full => ?_⟩
  · simpa using joins accept (Measurement.request_of_listed true merges)
  · exact joins accept (Measurement.request_of_busy true unlisted room busy)
  · have request : mu.request c true =
        some (Measurement.startConversion { mu with priority := [] } c true true) := by
      rw [Measurement.request_of_idle true (by simp [empty]) (by simp [empty]) idle, empty,
        Measurement.chooseNext_of_priority rfl]
    refine (joins accept request).ends ⟨Measurement.startConversion_started { mu with priority := [] } c true true, rfl, rfl,
      Link.kick_outgoing _, Link.kick_deferredMeasure _, ?_⟩
    exact (ChangesOnly.of_measure s.part _ (some tag)).closed
  · exact .of_refused rfl rfl rfl r (Part.doMeasure_beyond _ beyond)
  · exact .of_refused rfl rfl rfl r (Part.doMeasure_disabled _ within disabled)
  · exact .of_refused rfl rfl rfl r (Part.doMeasure_outstanding _ within enabled outstanding)
  · obtain ⟨within, enabled, free⟩ := accept
    exact .of_refused rfl rfl rfl r
      (Part.doMeasure_full _ within enabled free (Measurement.request_of_full true unlisted full))

/-! ### A round started (R47) -/

section
variable {m : Measurement}

theorem Measurement.startRound_of_busy (busy : m.converter.isSome = true) :
    m.startRound = { m with active := m.staged.getD m.active, staged := none, round := .inRound 0 } := by
  have works : m.converter.isNone = false := by simpa [← Option.isSome_iff_ne_none] using busy
  simp only [Measurement.startRound, works, Bool.false_eq_true, if_false]

theorem Measurement.startRound_of_idle (idle : m.converter = none) :
    m.startRound =
      Measurement.chooseNext { m with active := m.staged.getD m.active, staged := none, round := .inRound 0 } := by
  simp only [Measurement.startRound, idle, Option.isNone_none, if_true]

end

theorem Part.scanExpires_inRound {s : Part} {k : Nat} (inRound : s.mu.round = .inRound k) :
    s.scanExpires = { s with mu := { s.mu with scanTimer := s.mu.period } } := by
  simp only [Part.scanExpires, inRound]

theorem Part.scanExpires_between {s : Part} (between : s.mu.round = .between) :
    s.scanExpires = { s with mu := Measurement.startRound { s.mu with scanTimer := s.mu.period } } := by
  simp only [Part.scanExpires, between]

/-! ### The fast-scan timer (R51) -/

/-- Channel k stands in the priority list or is being converted, or the list is full. -/
def Measurement.Serves (m : Measurement) (k : Nat) : Prop :=
  (∃ e ∈ m.priority, e.channel = k) ∨ (∃ v, m.converter = some v ∧ v.channel = k) ∨ 8 ≤ m.priority.length

/-- The fast-scan timer asks a conversion of channel c. -/
def Part.FastWanted (p : Part) (c : Nat) : Prop :=
  (p.channel c).cfg.enabled = true ∧ (p.channel c).cfg.kind = .gas ∧ (p.gasOf c).member = true ∧ 2 ≤ (p.gasOf c).level

/-- An idle converter with a channel listed takes the head of the list: every channel listed is served then. -/
theorem Measurement.chooseNext_serves {m : Measurement} {k : Nat} (listed : ∃ e ∈ m.priority, e.channel = k) :
    m.chooseNext.Serves k := by
  obtain ⟨e, member, rfl⟩ := listed
  cases waits : m.priority with
  | nil => simp [waits] at member
  | cons head rest =>
    rw [Measurement.chooseNext_of_priority waits]
    rcases List.mem_cons.1 (waits ▸ member) with rfl | behind
    · exact .inr (.inl ⟨_, rfl, rfl⟩)
    · exact .inl ⟨e, behind, rfl⟩

/-- A request of the list leaves its own channel served, and every channel that was. -/
theorem Measurement.request_serves (m : Measurement) (c : Nat) :
    ((m.request c false).getD m).Serves c ∧ ∀ k, m.Serves k → ((m.request c false).getD m).Serves k := by
  by_cases listed : ∃ e ∈ m.priority, e.channel = c
  · have merged : m.request c false = some m := by
      rw [Measurement.request_of_listed false listed]
      simp
    rw [merged]
    exact ⟨.inl listed, fun k served => served⟩
  by_cases full : 8 ≤ m.priority.length
  · rw [Measurement.request_of_full false listed full]
    exact ⟨.inr (.inr full), fun k served => served⟩
  have room : m.priority.length < 8 := by omega
  have tail : ∃ e ∈ m.priority ++ [{ channel := c, measure := false }], e.channel = c := by simp
  have front {k : Nat} (h : ∃ e ∈ m.priority, e.channel = k) :
      ∃ e ∈ m.priority ++ [{ channel := c, measure := false }], e.channel = k := by
    obtain ⟨e, member, channel⟩ := h
    exact ⟨e, List.mem_append_left _ member, channel⟩
  cases works : m.converter with
  | none =>
    rw [Measurement.request_of_idle false listed room works]
    refine ⟨Measurement.chooseNext_serves tail, fun k served => ?_⟩
    rcases served with waits | ⟨v, taken, -⟩ | full'
    · exact Measurement.chooseNext_serves (front waits)
    · simp [works] at taken
    · exact absurd full' full
  | some v =>
    rw [Measurement.request_of_busy false listed room (by simp [works])]
    refine ⟨.inl tail, fun k served => ?_⟩
    rcases served with waits | taken | full'
    · exact .inl (front waits)
    · exact .inr (.inl taken)
    · exact absurd full' full

/-- A request of the list moves no configuration and no timer. -/
theorem Measurement.request_keeps (m : Measurement) (c : Nat) :
    (∀ k, (((m.request c false).getD m).channel k).cfg = (m.channel k).cfg) ∧
      ((m.request c false).getD m).fastTimer = m.fastTimer := by
  unfold Measurement.request
  split
  · exact ⟨fun _ => rfl, rfl⟩
  · split
    · dsimp only
      split
      · exact ⟨Measurement.chooseNext_cfg _, (by simp)⟩
      · exact ⟨fun _ => rfl, rfl⟩
    · exact ⟨fun _ => rfl, rfl⟩

/-- While a conversion is in flight a request joins the tail of the list, or leaves the unit. -/
theorem Measurement.request_of_flight {m : Measurement} (c : Nat) (busy : m.converter.isSome = true) :
    (m.request c false).getD m = m ∨
      (m.request c false).getD m = { m with priority := m.priority ++ [{ channel := c, measure := false }] } := by
  by_cases listed : ∃ e ∈ m.priority, e.channel = c
  · rw [Measurement.request_of_listed false listed]
    simp
  by_cases room : m.priority.length < 8
  · rw [Measurement.request_of_busy false listed room busy]
    exact .inr rfl
  · rw [Measurement.request_of_full false listed (Nat.not_lt.1 room)]
    exact .inl rfl

/-- What the fast-scan timer's requests for the channels of a list, in turn, make of a part. -/
structure FastRequested (l : List Nat) (p q : Part) : Prop where
  part : q = { p with mu := q.mu }
  cfg : ∀ k, (q.channel k).cfg = (p.channel k).cfg
  timer : q.mu.fastTimer = p.mu.fastTimer
  stays : ∀ k, p.mu.Serves k → q.mu.Serves k
  asked : ∀ k ∈ l, p.FastWanted k → q.mu.Serves k
  queued : p.mu.converter.isSome = true → ∃ added : List Nat, added.Sublist l ∧ (∀ k ∈ added, p.FastWanted k) ∧
    q.mu = { p.mu with priority := p.mu.priority ++ added.map fun k => { channel := k, measure := false } }

/-- A channel is asked for by its configuration and its gas record alone. -/
theorem FastRequested.wanted_iff {l : List Nat} {p q : Part} (asks : FastRequested l p q) (k : Nat) :
    q.FastWanted k ↔ p.FastWanted k := by
  have air : q.air = p.air := (congrArg Part.air asks.part :)
  unfold Part.FastWanted Part.gasOf
  rw [asks.cfg, air]

theorem FastRequested.nil (p : Part) : FastRequested [] p p where
  part := rfl
  cfg _ := rfl
  timer := rfl
  stays _ served := served
  asked _ member := absurd member (by simp)
  queued _ := ⟨[], by simp, by simp, by simp⟩

/-- One channel's turn. -/
theorem Part.fastRequest_requested (p : Part) (c : Nat) : FastRequested [c] p (p.fastRequest c) := by
  have wanted_iff : ((p.channel c).cfg.joins && (p.gasOf c).member && decide (2 ≤ (p.gasOf c).level)) = true ↔
      p.FastWanted c := by
    simp [Part.FastWanted, ChanConfig.joins, and_assoc]
  by_cases wanted : p.FastWanted c
  · have asks : p.fastRequest c = { p with mu := (p.mu.request c false).getD p.mu } := if_pos (wanted_iff.2 wanted)
    obtain ⟨cfg, timer⟩ := p.mu.request_keeps c
    obtain ⟨own, others⟩ := p.mu.request_serves c
    rw [asks]
    refine ⟨rfl, cfg, timer, others, fun k member _ => ?_, fun busy => ?_⟩
    · rw [List.mem_singleton.1 member]
      exact own
    · rcases Measurement.request_of_flight c busy with same | joins
      · exact ⟨[], by simp, by simp, same.trans (by simp)⟩
      · exact ⟨[c], List.Sublist.refl _, by simpa using wanted, joins⟩
  · have passes : p.fastRequest c = p := if_neg (wanted_iff.not.2 wanted)
    rw [passes]
    refine { FastRequested.nil p with asked := fun k member asked => ?_, queued := fun _ => ⟨[], by simp, by simp, by simp⟩ }
    rw [List.mem_singleton.1 member] at asked
    exact absurd asked wanted

/-- The turns of two lists, one after the other. -/
theorem FastRequested.append {l l' : List Nat} {p q r : Part} (first : FastRequested l p q) (second : FastRequested l' q r) :
    FastRequested (l ++ l') p r where
  part := by rw [second.part, first.part]
  cfg k := (second.cfg k).trans (first.cfg k)
  timer := second.timer.trans first.timer
  stays k served := second.stays k (first.stays k served)
  asked k member wanted := by
    rcases List.mem_append.1 member with early | late
    · exact second.stays k (first.asked k early wanted)
    · exact second.asked k late ((first.wanted_iff k).2 wanted)
  queued busy := by
    obtain ⟨early, sub, wants, mu⟩ := first.queued busy
    obtain ⟨late, sub', wants', mu'⟩ := second.queued (by rw [mu]; exact busy)
    refine ⟨early ++ late, sub.append sub', fun k member => ?_, by rw [mu', mu]; simp⟩
    rcases List.mem_append.1 member with h | h
    · exact wants k h
    · exact (first.wanted_iff k).1 (wants' k h)

theorem Part.fastRequests_requested (l : List Nat) (p : Part) : FastRequested l p (p.forEach l Part.fastRequest) := by
  induction l generalizing p with
  | nil => exact .nil p
  | cons c rest ih => exact (p.fastRequest_requested c).append (ih _)

/-- Settles O43: the scan timer by the state of the round, the fast-scan timer by the turns of its channels
(`FastRequested`), and the ages. -/
theorem scanTimersStartRoundsAndRequests : Obligations.ScanTimersStartRoundsAndRequests := by
  intro s runs mu active
  refine ⟨fun k inRound => .of_act (exec_scanTimerExpiry s) runs (Part.scanExpires_inRound inRound),
    fun v between works => ?busy, fun between idle empty => ?idle, ?fast, ?age⟩
  case busy =>
    have busy : mu.converter.isSome = true := by simp [works]
    refine .of_act (exec_scanTimerExpiry s) runs ((Part.scanExpires_between between).trans ?_)
    exact congrArg (fun m => { s.part with mu := m })
      (Measurement.startRound_of_busy (m := { mu with scanTimer := mu.period }) busy)
  case idle =>
    let begun : Measurement := { mu with scanTimer := mu.period, active := active, staged := none, round := .inRound 0 }
    have starts : s.part.scanExpires = { s.part with mu := begun.chooseNext } :=
      (Part.scanExpires_between between).trans (congrArg (fun m => { s.part with mu := m })
        (Measurement.startRound_of_idle (m := { mu with scanTimer := mu.period }) idle))
    obtain ⟨active', staged, -, -, -, timer, -⟩ := begun.chooseNext_keeps
    refine .of_act (exec_scanTimerExpiry s) runs ?_
    rw [starts]
    refine ⟨timer, active', staged, begun.chooseNext_priority.trans (congrArg List.tail empty),
      fun before c after entries enabled disabled => ?_, fun disabled => ?_, (ChangesOnly.of_mu s.part _).closed⟩
    · change ConversionStarted mu begun.chooseNext c false false ∧ begun.chooseNext.round = _
      rw [Measurement.chooseNext_of_entry (m := begun) empty rfl entries disabled enabled]
      exact ⟨Measurement.startConversion_started { begun with round := _ } c false false,
        congrArg (fun k => Round.inRound (k + 1)) (Nat.zero_add _)⟩
    · change begun.chooseNext.round = _ ∧ begun.chooseNext.converter = _ ∧ begun.chooseNext.channels = _
      rw [Measurement.chooseNext_of_roundEnd (m := begun) empty rfl disabled]
      exact ⟨rfl, rfl, rfl⟩
  case fast =>
    have asks : FastRequested (List.range 20) { s.part with mu := { mu with fastTimer := mu.fast } } s.part.fastExpires :=
      Part.fastRequests_requested _ _
    refine .of_act (exec_fastScanTimerExpiry s) runs ?_
    generalize s.part.fastExpires = q at asks ⊢
    refine ⟨asks.timer, fun c hc wanted => asks.asked c (List.mem_range.2 hc) wanted, fun busy => ?_, ?_⟩
    · obtain ⟨added, sub, wants, unit⟩ := asks.queued busy
      change q.mu.converter = _ ∧ q.mu.channels = _ ∧ ∃ added : List Nat, q.mu.priority = _ ∧ _
      rw [unit]
      exact ⟨rfl, rfl, added, rfl, List.pairwise_lt_range.sublist sub, fun c member =>
        ⟨List.mem_range.1 (sub.subset member), wants c member⟩⟩
    · have moves : q = { s.part with mu := q.mu } := asks.part
      exact ((congrArg (ChangesOnly _ s.part) moves).mpr (.of_mu s.part _)).closed
  case age =>
    exact .of_act (exec_validAgeSecond s) runs
      ⟨fun c hc => Tab.get_each _ _ _ hc, rfl, (ChangesOnly.of_mu s.part _).closed⟩

end Sys2Proof.Machine
end

section
/-! SUPPORT. The result of a conversion: what it makes of its channel's record, and what it posts, answers and hands on (R52 to
R61). -/

namespace Sys2Proof.Machine

/-! ### The record (R53 to R59) -/

theorem badRaw_iff (cfg : ChanConfig) (raw : Nat) : badRaw cfg raw = true ↔ cfg.rail = true ∧ (raw = 0 ∨ raw = 4095) := by
  simp [badRaw]

/-- The filter's places and the gain are powers of two by their codes. -/
theorem Depth.count_eq (d : Depth) : d.count = 2 ^ d.code := by cases d <;> rfl

theorem Gain.doubled_eq (g : Gain) : g.doubled = 2 ^ g.code := by cases g <;> rfl

/-- A window moved: its edge is latched, where there is one (R59). -/
theorem Channel.moveWindow_eq (ch : Channel) (w : WindowState) :
    ch.moveWindow w =
      { ch with
        window := w
        entered := ch.entered || decide (w ≠ ch.window ∧ w ≠ .clear)
        left := ch.left || decide (w ≠ ch.window ∧ w = .clear) } := by
  unfold Channel.moveWindow
  split
  · rename_i same
    subst same
    simp
  · rename_i moves
    have moved : w ≠ ch.window := Ne.symm moves
    split <;> simp_all

/-- What a completed conversion makes of the record of its channel, by the configuration that it used. -/
structure Channel.Completed (old new : Channel) (used : ChanConfig) (raw : Nat) : Prop where
  lastRaw : new.lastRaw = raw
  cfg : new.cfg = old.cfg
  clearPending : new.clearPending = old.clearPending
  bad : badRaw used raw = true →
    new.badRun = min 255 (old.badRun + 1) ∧ new.goodRun = 0 ∧ new.value = old.value ∧ new.age = old.age ∧
    new.known = old.known ∧ new.window = old.window ∧ new.history = old.history ∧
    new.validity = old.validity.afterBad new.badRun
  good : ¬ badRaw used raw = true →
    new.badRun = 0 ∧ new.goodRun = min 255 (old.goodRun + 1) ∧
    new.history = pushHistory old.history (scaled used raw) used.depth.count ∧
    new.validity = old.validity.afterGood new.goodRun ∧
    (new.validity = .valid →
      new.value = filterMean new.history ∧ new.known = true ∧ new.age = some 0 ∧
      new.window = judgeWindow old.cfg old.window new.value) ∧
    (new.validity ≠ .valid →
      new.value = old.value ∧ new.known = old.known ∧ new.age = old.age ∧ new.window = old.window)
  entered : new.entered = (old.entered || decide (new.window ≠ old.window ∧ new.window ≠ .clear))
  left : new.left = (old.left || decide (new.window ≠ old.window ∧ new.window = .clear))

/-- A bad raw makes no channel VALID (R55). -/
theorem Validity.afterBad_ne_valid (v : Validity) (badRun : Nat) : v.afterBad badRun ≠ .valid := by
  cases v <;> simp only [Validity.afterBad] <;> (try split) <;> decide

/-- The validity table after a bad raw and after a good one (R55). -/
theorem Validity.afterBad_eq (v : Validity) (badRun : Nat) :
    v.afterBad badRun = match v with
      | .unseen => .unseen
      | .fault => .fault
      | _ => if 3 ≤ badRun then .fault else .suspect := by cases v <;> rfl

theorem Validity.afterGood_eq (v : Validity) (goodRun : Nat) :
    v.afterGood goodRun = match v with
      | .unseen => .valid
      | .valid => .valid
      | other => if 2 ≤ goodRun then .valid else other := by cases v <;> rfl

theorem Channel.complete_completed (ch : Channel) (cfg : ChanConfig) (raw : Nat) :
    Channel.Completed ch (ch.complete cfg raw) cfg raw := by
  by_cases bad : badRaw cfg raw = true
  · have takes : ch.complete cfg raw = ch.takeBad raw := by
      rw [Channel.complete, if_pos bad, Channel.judged, if_neg (show ¬ (ch.takeBad raw).validity = .valid from Validity.afterBad_ne_valid _ _)]
    rw [takes]
    exact ⟨rfl, rfl, rfl, fun _ => ⟨rfl, rfl, rfl, rfl, rfl, rfl, rfl, rfl⟩, fun good => absurd bad good, by simp [Channel.takeBad],
      by simp [Channel.takeBad]⟩
  · have takes : ch.complete cfg raw = (ch.takeGood cfg raw).judged := by rw [Channel.complete, if_neg bad]
    rw [takes]
    by_cases valid : ch.validity.afterGood (satAdd 255 ch.goodRun 1) = .valid
    · have judged : (ch.takeGood cfg raw).judged =
          (ch.takeGood cfg raw).moveWindow (judgeWindow ch.cfg ch.window (ch.takeGood cfg raw).value) := by
        simp only [Channel.judged, Channel.takeGood, valid, if_true]
      have good : ch.takeGood cfg raw =
          { ch with
            lastRaw := raw, badRun := 0, goodRun := satAdd 255 ch.goodRun 1
            history := pushHistory ch.history (scaled cfg raw) cfg.depth.count
            validity := ch.validity.afterGood (satAdd 255 ch.goodRun 1)
            value := filterMean (pushHistory ch.history (scaled cfg raw) cfg.depth.count), known := true, age := some 0 } :=
        if_pos valid
      rw [judged, Channel.moveWindow_eq, good]
      exact ⟨rfl, rfl, rfl, fun isBad => absurd isBad bad,
        fun _ => ⟨rfl, rfl, rfl, rfl, fun _ => ⟨rfl, rfl, rfl, rfl⟩, fun other => absurd valid other⟩, rfl, rfl⟩
    · have good : (ch.takeGood cfg raw).judged =
          { ch with
            lastRaw := raw, badRun := 0, goodRun := satAdd 255 ch.goodRun 1
            history := pushHistory ch.history (scaled cfg raw) cfg.depth.count
            validity := ch.validity.afterGood (satAdd 255 ch.goodRun 1) } := by
        simp only [Channel.judged, Channel.takeGood, valid, if_false]
      rw [good]
      exact ⟨rfl, rfl, rfl, fun isBad => absurd isBad bad,
        fun _ => ⟨rfl, rfl, rfl, rfl, fun isValid => absurd isValid valid, fun _ => ⟨rfl, rfl, rfl, rfl⟩⟩, by simp, by simp⟩

/-- The window detector is the one the claims describe (R57, R58). -/
theorem judgeWindow_eq (c : ChanConfig) (w : WindowState) (v : Int) : judgeWindow c w v = windowAfter c w v := by
  unfold judgeWindow windowAfter
  cases c.windowOn
  · rfl
  · cases c.inside <;> cases w <;> rfl

/-! ### Notices and hand-offs -/

/-- A conditional post is a conditional posting. -/
theorem Posts.of_told (b : Prop) [Decidable b] (s : Part) (kind : NoticeKind) (subject : Nat) (detail : List Byte) :
    Posts (told b kind subject detail) s (if b then s.post kind subject detail else s) := by
  unfold told
  split
  · exact Posts.post s kind subject detail
  · exact Posts.nothing rfl

/-- What two parts with the same notices on their way out have been posted is the same. -/
theorem Posts.of_unsent {ws : List Posting} {p q q' : Part} (unsent : q'.link.unsent = q.link.unsent)
    (clock : q'.clock = q.clock) (posts : Posts ws p q) : Posts ws p q' := by
  unfold Posts at posts ⊢
  rwa [unsent, clock]

/-- The SENSOR notice is that of a move into or out of FAULT (R56). -/
theorem Part.noteSensor_posts (s : Part) (c : Nat) (old new : Validity) :
    Posts
      (told (old ≠ new ∧ (old = .fault ∨ new = .fault)) .sensor c
        (u8 old.code ++ u8 new.code ++ u16 (s.channel c).lastRaw)) s (s.noteSensor c old new) := by
  have moves : (new = .fault ∧ old ≠ .fault ∨ old = .fault ∧ new ≠ .fault) ↔ old ≠ new ∧ (old = .fault ∨ new = .fault) := by
    cases old <;> cases new <;> decide
  simp only [Part.noteSensor, moves]
  exact Posts.of_told _ s _ _ _

theorem Part.noteWindow_posts (s : Part) (c : Nat) (old new : WindowState) :
    Posts (told (old ≠ new) .window c (u8 old.code ++ u8 new.code ++ i16 (s.channel c).value)) s
      (s.noteWindow c old new) := by
  have posted : s.noteWindow c old new =
      if old ≠ new then s.post .window c (u8 old.code ++ u8 new.code ++ i16 (s.channel c).value) else s := by
    rw [ite_not]
    rfl
  rw [posted]
  exact Posts.of_told _ s _ _ _

theorem ChangesOnly.noteSensor (s : Part) (c : Nat) (old new : Validity) :
    ChangesOnly [.notices] s (s.noteSensor c old new) := by
  unfold Part.noteSensor
  split
  · exact .post _ _ _ _
  · exact (ChangesOnly.refl s).mono (by simp)

theorem ChangesOnly.noteWindow (s : Part) (c : Nat) (old new : WindowState) :
    ChangesOnly [.notices] s (s.noteWindow c old new) := by
  unfold Part.noteWindow
  split
  · exact (ChangesOnly.refl s).mono (by simp)
  · exact .post _ _ _ _

theorem Part.tellGas_due (s : Part) (cfg : ChanConfig) (c : Nat) :
    (s.tellGas cfg c).due = s.due ++
      if cfg.kind = .gas then [.gas c (s.channel c).value (s.channel c).validity (s.channel c).age] else [] := by
  simp only [Part.tellGas]
  split
  · rfl
  · simp

theorem Part.tellEdge_due (s : Part) (c : Nat) (old new : WindowState) :
    (s.tellEdge c old new).due = s.due ++
      if c < 20 ∧ (old = .low ↔ new ≠ .low) then [.freezeEdge c (decide (new = .low))] else [] := by
  have edge : (decide (old = .low) ≠ decide (new = .low)) ↔ (old = .low ↔ new ≠ .low) := by
    cases old <;> cases new <;> decide
  simp only [Part.tellEdge, edge]
  split
  · rfl
  · simp

theorem ChangesOnly.tellGas (s : Part) (cfg : ChanConfig) (c : Nat) : ChangesOnly [.handed] s (s.tellGas cfg c) := by
  simp only [Part.tellGas]
  split
  · exact .of_due s _
  · exact (ChangesOnly.refl s).mono (by simp)

theorem ChangesOnly.tellEdge (s : Part) (c : Nat) (old new : WindowState) :
    ChangesOnly [.handed] s (s.tellEdge c old new) := by
  unfold Part.tellEdge
  split
  · exact .of_due s _
  · exact (ChangesOnly.refl s).mono (by simp)

/-! ### The deferred MEASURE answered (R52) -/

/-- The link port with the deferred MEASURE answered, where one is deferred. -/
def Link.measureAnswered (l : Link) (v : Verdict) : Link :=
  match l.deferredMeasure with
  | none => l
  | some tag => { l with deferredMeasure := none }.ready (v.reply tag 0x13 false)

theorem Part.answerMeasure_eq (s : Part) (v : Verdict) :
    s.answerMeasure v = { s with mu := { s.mu with outstanding := none }, link := s.link.measureAnswered v } := by
  cases deferred : s.link.deferredMeasure <;> simp only [Part.answerMeasure, Link.measureAnswered, deferred]

/-- The answer moves replies and the deferred tag alone of the link port. -/
@[simp] theorem Link.measureAnswered_keeps (l : Link) (v : Verdict) :
    (l.measureAnswered v).unsent = l.unsent ∧ (l.measureAnswered v).transmitter = l.transmitter ∧
      (l.measureAnswered v).mask = l.mask ∧ (l.measureAnswered v).notices = l.notices ∧
      (l.measureAnswered v).deferredMeasure = none := by
  unfold Link.measureAnswered
  split
  · rename_i none
    exact ⟨rfl, rfl, rfl, rfl, none⟩
  · unfold Link.ready
    split <;> exact ⟨rfl, rfl, rfl, rfl, rfl⟩

theorem Link.measureAnswered_outgoing {l : Link} {tag : Byte} (v : Verdict) (deferred : l.deferredMeasure = some tag) :
    (l.measureAnswered v).outgoing = l.outgoing ++ [v.body tag 0x13] := by
  simp only [Link.measureAnswered, deferred]
  exact Link.ready_outgoing _ _

theorem ChangesOnly.answerMeasure (s : Part) (v : Verdict) :
    ChangesOnly [.measurement, .replies] s (s.answerMeasure v) := by
  have moved (p : Part) : ChangesOnly [.replies] p { p with link := p.link.measureAnswered v } := by
    unfold Link.measureAnswered
    split
    · exact (ChangesOnly.refl p).mono (by simp)
    · unfold Link.ready
      split <;> exact fun piece other => by cases piece <;> simp_all [Piece.Same, Link.unsent]
  rw [Part.answerMeasure_eq]
  exact (ChangesOnly.of_mu s { s.mu with outstanding := none }).trans (moved _)

/-! ### The result processed (R61) -/

theorem Part.channel_setChannel (s : Part) {c : Nat} (ch : Channel) (hc : c < 21) : (s.setChannel c ch).channel c = ch :=
  s.mu.channel_setChannel ch hc

theorem Part.channel_setChannel_other (s : Part) {c k : Nat} (ch : Channel) (other : k ≠ c) :
    (s.setChannel c ch).channel k = s.channel k := s.mu.channel_setChannel_other ch other

theorem Part.channel_of_mu {p q : Part} (mu : q.mu = p.mu) (c : Nat) : q.channel c = p.channel c :=
  congrArg (fun m : Measurement => m.channel c) mu

/-- What a result posts: SENSOR for a move into or out of FAULT, then WINDOW for an edge (R56, R59). -/
def resultTold (c : Nat) (old new : Channel) : List Posting :=
  told (old.validity ≠ new.validity ∧ (old.validity = .fault ∨ new.validity = .fault)) .sensor c
      (u8 old.validity.code ++ u8 new.validity.code ++ u16 new.lastRaw) ++
    told (old.window ≠ new.window) .window c (u8 old.window.code ++ u8 new.window.code ++ i16 new.value)

/-- What a result hands on: a GAS channel's to the air quality unit, and the ALARM_LOW edge (R59, R61). -/
def resultHanded (c : Nat) (used : ChanConfig) (old new : Channel) : List Due :=
  (if used.kind = .gas then [.gas c new.value new.validity new.age] else []) ++
    if c < 20 ∧ (old.window = .low ↔ new.window ≠ .low) then [.freezeEdge c (decide (new.window = .low))] else []

/-- The data of a MEASURE answered (R52). -/
def measureReply (c : Nat) (ch : Channel) : List Byte :=
  u8 c ++ u16 ch.lastRaw ++ i16 ch.value ++ u8 ch.validity.code ++ u8 ch.badRun ++ u8 ch.goodRun ++ u8 ch.window.code

/-- What the result of conversion v, whose channel's record becomes `new`, makes of a part. -/
structure ResultProcessed (v : Conversion) (new : Channel) (p q : Part) : Prop where
  mu : q.mu = { p.mu.setChannel v.channel new with outstanding := if v.measure then none else p.mu.outstanding }
  due : q.due = p.due ++ resultHanded v.channel v.cfg (p.channel v.channel) new
  posts : Posts (resultTold v.channel (p.channel v.channel) new) p q
  unanswered : v.measure = false → q.link.outgoing = p.link.outgoing
  answered : v.measure = true → q.link.deferredMeasure = none ∧ ∀ tag, p.link.deferredMeasure = some tag →
    q.link.outgoing = p.link.outgoing ++ [(Verdict.done 0 (measureReply v.channel new)).body tag 0x13]
  moved : ChangesOnly [.measurement, .replies, .notices, .handed] p q

/-- The notices of a result, its record stored. -/
def Part.resultNoted (s : Part) (c : Nat) (new : Channel) : Part :=
  ((s.setChannel c new).noteSensor c (s.channel c).validity new.validity).noteWindow c (s.channel c).window new.window

theorem Part.resultNoted_noted (s : Part) {c : Nat} (new : Channel) (hc : c < 21) :
    (s.resultNoted c new).mu = s.mu.setChannel c new ∧ (s.resultNoted c new).due = s.due ∧
      Posts (resultTold c (s.channel c) new) s (s.resultNoted c new) ∧
      (s.resultNoted c new).link.still = s.link.still ∧
      ChangesOnly [.measurement, .notices] s (s.resultNoted c new) := by
  let stored := s.setChannel c new
  let sensed := stored.noteSensor c (s.channel c).validity new.validity
  have record : stored.channel c = new := s.channel_setChannel new hc
  have same : sensed.mu = stored.mu := by simp [sensed]
  have still : sensed.link.still = stored.link.still := by simp [sensed]
  have sensor := stored.noteSensor_posts c (s.channel c).validity new.validity
  have window := sensed.noteWindow_posts c (s.channel c).window new.window
  rw [record] at sensor
  rw [Part.channel_of_mu same, record] at window
  refine ⟨?_, ?_, ?_, ?_, ?_⟩
  · exact (Part.noteWindow_keeps sensed c _ _).2.2.1.trans same
  · simp [Part.resultNoted]
  · exact (sensor.append window (Link.mask_of_still still) (by simp [sensed]) (Link.transmitter_of_still still)).of_link rfl
  · simp [Part.resultNoted]
  · exact (((ChangesOnly.of_mu s _).trans (.noteSensor stored c _ _)).trans (.noteWindow sensed c _ _)).mono (by simp)

/-- The MEASURE attached to a conversion of channel c, where one is, answered. -/
def Part.resultAnswered (s : Part) (c : Nat) (measure : Bool) : Part :=
  if measure then s.answerMeasure (.done 0 (s.measureData c)) else s

theorem Part.resultAnswered_answered (s : Part) (c : Nat) (measure : Bool) :
    (s.resultAnswered c measure).mu = { s.mu with outstanding := if measure then none else s.mu.outstanding } ∧
      (s.resultAnswered c measure).due = s.due ∧ (s.resultAnswered c measure).clock = s.clock ∧
      (s.resultAnswered c measure).link.unsent = s.link.unsent ∧
      (measure = false → (s.resultAnswered c measure).link.outgoing = s.link.outgoing) ∧
      (measure = true → (s.resultAnswered c measure).link.deferredMeasure = none ∧
        ∀ tag, s.link.deferredMeasure = some tag → (s.resultAnswered c measure).link.outgoing =
          s.link.outgoing ++ [(Verdict.done 0 (measureReply c (s.channel c))).body tag 0x13]) ∧
      ChangesOnly [.measurement, .replies] s (s.resultAnswered c measure) := by
  cases measure
  · exact ⟨rfl, rfl, rfl, rfl, fun _ => rfl, fun attached => by simp at attached, (ChangesOnly.refl s).mono (by simp)⟩
  · have answers : s.resultAnswered c true = s.answerMeasure (.done 0 (measureReply c (s.channel c))) := rfl
    have moved := ChangesOnly.answerMeasure s (.done 0 (measureReply c (s.channel c)))
    rw [answers]
    rw [Part.answerMeasure_eq] at moved ⊢
    exact ⟨rfl, rfl, rfl, by simp, fun none => by simp at none,
      fun _ => ⟨by simp, fun tag deferred => Link.measureAnswered_outgoing _ deferred⟩, moved⟩

theorem Part.processResult_processed (s : Part) (v : Conversion) (nanovolts : Int) (hc : v.channel < 21) :
    ResultProcessed v ((s.channel v.channel).complete v.cfg (rawOf nanovolts v.cfg.gain)) s
      (s.processResult v nanovolts) := by
  let new := (s.channel v.channel).complete v.cfg (rawOf nanovolts v.cfg.gain)
  obtain ⟨mu, due, posts, still, moved⟩ := s.resultNoted_noted new hc
  let noted := s.resultNoted v.channel new
  obtain ⟨mu', due', clock, unsent, unanswered, answered, moved'⟩ := noted.resultAnswered_answered v.channel v.measure
  let replied := noted.resultAnswered v.channel v.measure
  have processes : s.processResult v nanovolts =
      (replied.tellGas v.cfg v.channel).tellEdge v.channel (s.channel v.channel).window new.window := rfl
  have record : noted.channel v.channel = new := by
    rw [Part.channel_of_mu (p := s.setChannel v.channel new) mu, s.channel_setChannel new hc]
  have record' : replied.channel v.channel = new := by
    rw [← record, Part.channel, Part.channel, mu']
    rfl
  have outgoing : noted.link.outgoing = s.link.outgoing := Link.outgoing_of_still still
  have deferred : noted.link.deferredMeasure = s.link.deferredMeasure := (congrArg (·.deferredMeasure) still :)
  rw [processes]
  constructor
  case mu =>
    have told : ((replied.tellGas v.cfg v.channel).tellEdge v.channel (s.channel v.channel).window new.window).mu =
        replied.mu := by simp
    exact told.trans (mu'.trans (congrArg
      (fun m : Measurement => { m with outstanding := if v.measure then none else m.outstanding }) mu))
  case due =>
    rw [Part.tellEdge_due, Part.tellGas_due, record', due', due, List.append_assoc]
    rfl
  case posts => exact posts.of_unsent (by simpa using unsent) (by simpa using clock)
  case unanswered => exact fun none => by simpa [outgoing] using unanswered none
  case answered =>
    intro attached
    obtain ⟨none, replies⟩ := answered attached
    rw [record, outgoing, deferred] at replies
    exact ⟨by simpa using none, by simpa using replies⟩
  case moved =>
    exact (((moved.trans moved').trans (.tellGas replied v.cfg v.channel)).trans (.tellEdge _ v.channel _ _)).mono (by simp)

/-! ### The next conversion (R46, R48) -/

/-- The conversion that follows one that has ended, in a unit with the lists, the round and the configurations of p's. -/
structure NextChosen (p q : Measurement) : Prop where
  priority : ∀ e rest, p.priority = e :: rest → q.priority = rest ∧
    q.converter = some { channel := e.channel, priority := true, cfg := (p.channel e.channel).cfg, measure := e.measure
                         discard := false }
  between : p.priority = [] → p.round = .between → q.converter = none ∧ q.round = .between
  entry : ∀ k, p.priority = [] → p.round = .inRound k → ∀ before x after, p.active.drop k = before ++ x :: after →
    (p.channel x).cfg.enabled = true → (∀ y ∈ before, (p.channel y).cfg.enabled = false) →
    q.round = .inRound (k + before.length + 1) ∧
      q.converter =
        some { channel := x, priority := false, cfg := (p.channel x).cfg, measure := false, discard := false }
  roundEnd : ∀ k, p.priority = [] → p.round = .inRound k → (∀ y ∈ p.active.drop k, (p.channel y).cfg.enabled = false) →
    q.round = .between ∧ q.converter = none

theorem Measurement.chooseNext_chosen {p m : Measurement} (priority : m.priority = p.priority) (round : m.round = p.round)
    (active : m.active = p.active) (cfg : ∀ k, (m.channel k).cfg = (p.channel k).cfg) : NextChosen p m.chooseNext where
  priority e rest waits := by
    rw [Measurement.chooseNext_of_priority (priority.trans waits), ← cfg]
    exact ⟨rfl, rfl⟩
  between empty stands := by
    rw [Measurement.chooseNext_of_between (priority.trans empty) (round.trans stands)]
    exact ⟨rfl, round.trans stands⟩
  entry k empty stands before x after entries enabled disabled := by
    simp only [← cfg] at enabled disabled ⊢
    rw [Measurement.chooseNext_of_entry (priority.trans empty) (round.trans stands) (active ▸ entries) disabled enabled]
    exact ⟨rfl, rfl⟩
  roundEnd k empty stands disabled := by
    simp only [← cfg, ← active] at disabled
    rw [Measurement.chooseNext_of_roundEnd (priority.trans empty) (round.trans stands) disabled]
    exact ⟨rfl, rfl⟩

theorem Part.completeConversion_of_discard {s : Part} {v : Conversion} (nanovolts : Int) (flight : s.mu.converter = some v)
    (discard : v.discard = true) : s.completeConversion nanovolts = s.nextConversion := by
  rw [Part.completeConversion, flight]
  exact congrArg Part.nextConversion (if_pos discard)

theorem Part.completeConversion_of_kept {s : Part} {v : Conversion} (nanovolts : Int) (flight : s.mu.converter = some v)
    (kept : v.discard = false) : s.completeConversion nanovolts = (s.processResult v nanovolts).nextConversion := by
  rw [Part.completeConversion, flight]
  exact congrArg Part.nextConversion (if_neg (by simp [kept]))

/-- The converter's next conversion moves no record but for the history that it empties. -/
theorem Part.nextConversion_channel (s : Part) (k : Nat) :
    s.nextConversion.channel k =
      if s.nextConversion.mu.converter.map (·.channel) = some k ∧ (s.channel k).clearPending = true then
        { s.channel k with history := [], clearPending := false }
      else s.channel k := Measurement.chooseNext_channel { s.mu with converter := none } k

theorem Part.nextConversion_outstanding (s : Part) : s.nextConversion.mu.outstanding = s.mu.outstanding :=
  (Measurement.chooseNext_keeps { s.mu with converter := none }).2.2.2.2.1

theorem ChangesOnly.nextConversion (s : Part) : ChangesOnly [.measurement] s s.nextConversion := .of_mu s _

/-- Between p and q the conversion of channel k starts with a clear pending. -/
abbrev Part.Empties (p q : Part) (k : Nat) : Prop :=
  q.mu.converter.map (·.channel) = some k ∧ (p.channel k).clearPending = true

/-- What the end of conversion v, not discarded, whose channel's record becomes `done`, makes of a part, the next conversion
started. -/
structure ConversionEnded (v : Conversion) (done : Channel) (p q : Part) : Prop where
  record : q.channel v.channel =
    { done with
      history := if p.Empties q v.channel then [] else done.history
      clearPending := if p.Empties q v.channel then false else done.clearPending }
  others : ∀ k, k ≠ v.channel →
    q.channel k = if p.Empties q k then { p.channel k with history := [], clearPending := false } else p.channel k
  next : NextChosen p.mu q.mu
  due : q.due = p.due ++ resultHanded v.channel v.cfg (p.channel v.channel) done
  posts : Posts (resultTold v.channel (p.channel v.channel) done) p q
  outstanding : q.mu.outstanding = if v.measure then none else p.mu.outstanding
  unanswered : v.measure = false → q.link.outgoing = p.link.outgoing
  answered : v.measure = true → q.link.deferredMeasure = none ∧ ∀ tag, p.link.deferredMeasure = some tag →
    q.link.outgoing = p.link.outgoing ++ [(Verdict.done 0 (measureReply v.channel done)).body tag 0x13]
  moved : ChangesOnly [.measurement, .replies, .notices, .handed] p q

theorem ResultProcessed.ended {v : Conversion} {done : Channel} {p r : Part} (hc : v.channel < 21)
    (processed : ResultProcessed v done p r) (cfg : done.cfg = (p.channel v.channel).cfg)
    (clearPending : done.clearPending = (p.channel v.channel).clearPending) :
    ConversionEnded v done p r.nextConversion.close := by
  obtain ⟨mu, due, posts, unanswered, answered, moved⟩ := processed
  have own : r.channel v.channel = done := by
    rw [Part.channel, mu]
    exact p.channel_setChannel done hc
  have others {k : Nat} (other : k ≠ v.channel) : r.channel k = p.channel k := by
    rw [Part.channel, mu]
    exact p.channel_setChannel_other done other
  have configs (k : Nat) : (r.channel k).cfg = (p.channel k).cfg := by
    by_cases same : k = v.channel
    · rw [same, own, cfg]
    · rw [others same]
  have link : r.nextConversion.link = r.link := by simp
  constructor
  case record =>
    have whole := r.nextConversion_channel v.channel
    rw [own, clearPending] at whole
    refine whole.trans ?_
    by_cases empties : p.Empties r.nextConversion.close v.channel
    · rw [if_pos empties, if_pos empties]
      exact if_pos empties
    · rw [if_neg empties, if_neg empties]
      exact if_neg empties
  case others =>
    intro k other
    have whole := r.nextConversion_channel k
    rw [others other] at whole
    exact whole
  case next =>
    exact Measurement.chooseNext_chosen (by simp [mu, Measurement.setChannel]) (by simp [mu, Measurement.setChannel])
      (by simp [mu, Measurement.setChannel]) configs
  case due => exact due
  case posts => exact (posts.of_unsent (q' := r.nextConversion) (by rw [link]) (by simp)).closed
  case outstanding => exact r.nextConversion_outstanding.trans (congrArg Measurement.outstanding mu)
  case unanswered => exact fun none => (Link.kick_outgoing _).trans (unanswered none)
  case answered =>
    intro attached
    obtain ⟨none, replies⟩ := answered attached
    exact ⟨(Link.kick_deferredMeasure _).trans none, fun tag deferred => (Link.kick_outgoing _).trans (replies tag deferred)⟩
  case moved => exact ((moved.trans (.nextConversion r)).mono (by simp)).closed

/-- Settles O44: the result processed and the next conversion started (`ConversionEnded`), by what the result makes of the record
(`Channel.Completed`); or the result discarded and the next conversion started (`NextChosen`). -/
theorem aConversionIsJudgedFilteredAndWindowed : Obligations.AConversionIsJudgedFilteredAndWindowed := by
  intro s nanovolts v runs flight hc c old raw bad scaledValue longer history
  refine .of_act (exec_conversionComplete nanovolts s) runs ?_
  have rawIs : rawOf nanovolts v.cfg.gain = raw := by
    simp only [rawOf, Gain.doubled_eq, clampZ]
    push_cast
    rfl
  have filtered : pushHistory old.history (scaled v.cfg raw) v.cfg.depth.count = history := by
    rw [Depth.count_eq]
    rfl
  cases discard : v.discard with
  | true =>
    have next : NextChosen s.part.mu s.part.nextConversion.mu := Measurement.chooseNext_chosen rfl rfl rfl fun _ => rfl
    rw [Part.completeConversion_of_discard nanovolts flight discard]
    refine ⟨fun k _ _ => s.part.nextConversion_channel k, fun _ => ⟨rfl, Link.kick_outgoing _, ?_⟩, fun kept => by simp at kept,
      next.priority, next.between, fun k empty stands => ⟨next.entry k empty stands, next.roundEnd k empty stands⟩,
      (ChangesOnly.nextConversion s.part).closed.mono (by simp)⟩
    exact (Posts.nothing rfl : Posts [] s.part s.part.nextConversion).closed
  | false =>
    have completed := old.complete_completed v.cfg (rawOf nanovolts v.cfg.gain)
    have ended := (s.part.processResult_processed v nanovolts hc).ended hc completed.cfg completed.clearPending
    rw [← Part.completeConversion_of_kept nanovolts flight discard] at ended
    rw [rawIs] at completed ended
    generalize (s.part.completeConversion nanovolts).close = q at ended ⊢
    change ConversionEnded v (old.complete v.cfg raw) s.part q at ended
    generalize old.complete v.cfg raw = done at ended completed
    obtain ⟨record, others, next, due, posts, outstanding, unanswered, answered, moved⟩ := ended
    intro new emptied
    refine ⟨fun k _ other => others k (by simpa using other), fun dropped => by simp at dropped, fun _ => ?_, next.priority,
      next.between, fun k empty stands => ⟨next.entry k empty stands, next.roundEnd k empty stands⟩, moved⟩
    change new = _ at record
    clear_value new
    subst record
    refine ⟨completed.lastRaw, completed.cfg, ?_, fun isBad => ?_, fun isGood => ?_, ?_, completed.entered, completed.left,
      ?_, fun none => ⟨?_, unanswered none⟩, fun attached => ?_⟩
    · exact congrArg (fun pending => if emptied c then false else pending) completed.clearPending
    · obtain ⟨badRun, goodRun, value, age, known, window, kept, validity⟩ := completed.bad ((badRaw_iff _ _).2 isBad)
      exact ⟨badRun, goodRun, value, age, known, window, congrArg (fun h => if emptied c then [] else h) kept,
        validity.trans (Validity.afterBad_eq _ _)⟩
    · obtain ⟨badRun, goodRun, grows, validity, valid, invalid⟩ := completed.good ((badRaw_iff _ _).not.2 isGood)
      rw [filtered] at grows
      refine ⟨badRun, goodRun, congrArg (fun h => if emptied c then [] else h) grows,
        validity.trans (Validity.afterGood_eq _ _), fun isValid => ?_, invalid⟩
      obtain ⟨value, known, age, window⟩ := valid isValid
      rw [grows] at value
      exact ⟨value, known, age, window.trans (judgeWindow_eq _ _ _)⟩
    · simp only [resultTold, completed.lastRaw] at posts
      exact posts
    · rw [due, resultHanded, ← List.append_assoc]
    · rw [outstanding, none]
      rfl
    · obtain ⟨noTag, replies⟩ := answered attached
      rw [measureReply, completed.lastRaw] at replies
      exact ⟨by rw [outstanding, attached]; rfl, noTag, replies⟩

end Sys2Proof.Machine
end

section
/-! SUPPORT. A channel's configuration written: its operands, what it makes of the channel's record, and what it posts, answers and
hands on (R43 to R45, R147). -/

namespace Sys2Proof.Machine

/-! ### The operands (R43) -/

/-- The configuration that CHAN_WRITE's fields store. -/
def channelConfig (f : ChannelFields) : ChanConfig :=
  { kind := (ChanKind.ofCode f.kind.toNat).getD .generic, enabled := flagOf f.enabled
    gain := (Gain.ofCode f.gain.toNat).getD .one, settle := max 1 (min 31 f.settle.toNat), scaleLo := signed f.scaleLo
    scaleHi := signed f.scaleHi, depth := (Depth.ofCode f.depth.toNat).getD .d1, rail := flagOf f.rail
    windowOn := flagOf f.windowOn, inside := flagOf f.sense, lo := signed f.lo, hi := signed f.hi
    lowHyst := min 32767 f.lowHyst.toNat, highHyst := min 32767 f.highHyst.toNat, group := f.group.toNat
    t1 := signed f.t1, t2 := signed f.t2, t3 := signed f.t3, rise := min 32767 f.rise.toNat
    fall := min 32767 f.fall.toNat }

/-- The field of a channel's configuration first cut. -/
def channelCut (f : ChannelFields) : Byte :=
  firstCut [(5, decide (f.settle.toNat = 0 ∨ 31 < f.settle.toNat)), (14, decide (32767 < f.lowHyst.toNat)),
    (15, decide (32767 < f.highHyst.toNat)), (20, decide (32767 < f.rise.toNat)), (21, decide (32767 < f.fall.toNat))]

/-- CHAN_WRITE's checks. -/
def channelChecks (n : Byte) (f : ChannelFields) : List (Bool × Code × Nat) :=
  [(decide (20 < n.toNat), .index, 1), (decide (4 < f.kind.toNat), .range, 2), (notFlag f.enabled, .range, 3),
    (decide (3 < f.gain.toNat), .range, 4), (decide (3 < f.depth.toNat), .range, 8), (notFlag f.rail, .range, 9),
    (notFlag f.windowOn, .range, 10), (notFlag f.sense, .range, 11), (kindMisplaced n f.kind, .conflict, 2),
    (decide (f.kind = 1) && decide (5 < f.group.toNat), .index, 16),
    (decide (f.kind = 1) && !ladderAscends f, .conflict, 17),
    (flagOf f.windowOn && decide (signed f.hi ≤ signed f.lo), .conflict, 12)]

theorem channelOperands_eq (n : Byte) (f : ChannelFields) :
    channelOperands n f = checks (channelChecks n f) (channelConfig f) (channelCut f) := by
  simp only [channelOperands, clampN_zero, outside_zero, outside_one 31 _ (by decide)]
  rfl

/-- A check fails exactly on its condition, with the condition's refusal. -/
def Checks (check : Bool × Code × Nat) (condition : Prop × Code × Nat) : Prop :=
  (check.1 = true ↔ condition.1) ∧ check.2 = condition.2

theorem kindMisplaced_iff (n kind : Byte) (within : n.toNat ≤ 20) :
    kindMisplaced n kind = true ↔ n.toNat ≤ 19 ∧ kind = 4 ∨ n.toNat = 20 ∧ kind ≠ 4 := by
  by_cases last : n.toNat = 20
  · simp [kindMisplaced, last]
  · have external : n.toNat ≤ 19 := by omega
    simp [kindMisplaced, last, external]

/-- On a channel 0..20 the checks are the conditions of R43, one by one. -/
theorem channelChecks_check (n : Byte) (f : ChannelFields) (within : n.toNat ≤ 20) :
    List.Forall₂ Checks (channelChecks n f) (channelRefusals n f) := by
  refine .cons ⟨decide_eq_true_iff, rfl⟩ <| .cons ⟨decide_eq_true_iff, rfl⟩ <| .cons ⟨decide_eq_true_iff, rfl⟩ <|
    .cons ⟨decide_eq_true_iff, rfl⟩ <| .cons ⟨decide_eq_true_iff, rfl⟩ <| .cons ⟨decide_eq_true_iff, rfl⟩ <|
    .cons ⟨decide_eq_true_iff, rfl⟩ <| .cons ⟨decide_eq_true_iff, rfl⟩ <| .cons ⟨kindMisplaced_iff n f.kind within, rfl⟩ <|
    .cons ⟨?group, rfl⟩ <| .cons ⟨?ladder, rfl⟩ <| .cons ⟨?window, rfl⟩ .nil
  case group => exact (Bool.and_eq_true _ _).to_iff.trans (and_congr decide_eq_true_iff decide_eq_true_iff)
  case ladder =>
    have ascends : ladderAscends f = true ↔ f.t1.toInt < f.t2.toInt ∧ f.t2.toInt < f.t3.toInt :=
      (Bool.and_eq_true _ _).to_iff.trans (and_congr decide_eq_true_iff decide_eq_true_iff)
    rw [Bool.and_eq_true, Bool.not_eq_true', ← Bool.not_eq_true, ascends]
    exact and_congr decide_eq_true_iff Iff.rfl
  case window => exact (Bool.and_eq_true _ _).to_iff.trans (and_congr decide_eq_true_iff decide_eq_true_iff)

/-- Checks that all pass accept. -/
theorem checks_accept_of {α : Type} {l : List (Bool × Code × Nat)} {conditions : List (Prop × Code × Nat)}
    (check : List.Forall₂ Checks l conditions) (pass : ∀ x ∈ conditions, ¬ x.1) (v : α) (cut : Byte) :
    checks l v cut = .accept v cut := by
  induction check with
  | nil => rfl
  | cons head _ ih =>
    simp only [List.forall_mem_cons] at pass
    rw [checks, if_neg (head.1.not.2 pass.1)]
    exact ih pass.2

/-- The first condition that holds refuses. -/
theorem checks_refuse_of {α : Type} {before after : List (Prop × Code × Nat)} {fault : Prop × Code × Nat}
    {l : List (Bool × Code × Nat)} (check : List.Forall₂ Checks l (before ++ fault :: after))
    (pass : ∀ x ∈ before, ¬ x.1) (fails : fault.1) (v : α) (cut : Byte) :
    checks l v cut = .refuse fault.2.1 fault.2.2 := by
  induction before generalizing l with
  | nil =>
    obtain ⟨x, rest, head, -, rfl⟩ := List.forall₂_cons_right_iff.1 check
    obtain ⟨iff, same⟩ := head
    rw [← same]
    exact if_pos (iff.2 fails)
  | cons y before ih =>
    obtain ⟨x, rest, head, tail, rfl⟩ := List.forall₂_cons_right_iff.1 check
    simp only [List.forall_mem_cons] at pass
    rw [checks, if_neg (head.1.not.2 pass.1)]
    exact ih tail pass.2

/-- CHAN_WRITE's fields are refused by the first condition of R43 that holds. -/
theorem channelOperands_refuse {n : Byte} {f : ChannelFields} {before after : List (Prop × Code × Nat)}
    {fault : Prop × Code × Nat} (split : channelRefusals n f = before ++ fault :: after) (pass : ∀ x ∈ before, ¬ x.1)
    (fails : fault.1) : channelOperands n f = .refuse fault.2.1 fault.2.2 := by
  rw [channelOperands_eq]
  by_cases within : n.toNat ≤ 20
  · exact checks_refuse_of (split ▸ channelChecks_check n f within) pass fails _ _
  · have beyond : 20 < n.toNat := Nat.not_le.1 within
    cases before with
    | nil =>
      obtain ⟨rfl, -⟩ := List.cons.inj split
      exact if_pos (decide_eq_true beyond)
    | cons x rest =>
      obtain ⟨rfl, -⟩ := List.cons.inj split
      exact absurd beyond (pass _ List.mem_cons_self)

theorem channelFieldsPass_iff (n : Byte) (f : ChannelFields) :
    ChannelFieldsPass n f ↔ ∀ x ∈ channelRefusals n f, ¬ x.1 := by
  have place (within : n.toNat ≤ 20) :
      (n.toNat = 20 ↔ f.kind = 4) ↔ ¬ (n.toNat ≤ 19 ∧ f.kind = 4 ∨ n.toNat = 20 ∧ f.kind ≠ 4) := by
    by_cases last : n.toNat = 20
    · simp [last]
    · have external : n.toNat ≤ 19 := by omega
      simp [last, external]
  have gas : (f.kind = 1 → f.group.toNat ≤ 5 ∧ f.t1.toInt < f.t2.toInt ∧ f.t2.toInt < f.t3.toInt) ↔
      ¬ (f.kind = 1 ∧ 5 < f.group.toNat) ∧ ¬ (f.kind = 1 ∧ ¬ (f.t1.toInt < f.t2.toInt ∧ f.t2.toInt < f.t3.toInt)) := by
    rw [not_and, not_and_not_right, Nat.not_lt, imp_and]
  have window : (f.windowOn = 1 → f.lo.toInt < f.hi.toInt) ↔ ¬ (f.windowOn = 1 ∧ f.hi.toInt ≤ f.lo.toInt) := by
    rw [not_and, Int.not_le]
  have none : ∀ x ∈ ([] : List (Prop × Code × Nat)), ¬ x.1 := by simp
  simp only [ChannelFieldsPass, channelRefusals, List.forall_mem_cons, iff_true_intro none, and_true, gas, window, and_assoc]
  simp only [Nat.not_lt]
  exact and_congr_right fun within => by rw [place within]

theorem channelOperands_accept {n : Byte} {f : ChannelFields} (pass : ChannelFieldsPass n f) :
    channelOperands n f = .accept (channelConfig f) (channelCut f) := by
  rw [channelOperands_eq]
  exact checks_accept_of (channelChecks_check n f pass.1) ((channelFieldsPass_iff n f).1 pass) _ _

theorem ChanKind.code_ofCode {k : Nat} (known : k ≤ 4) : ((ChanKind.ofCode k).getD .generic).code = k := by
  interval_cases k <;> rfl

theorem Gain.code_ofCode {k : Nat} (known : k ≤ 3) : ((Gain.ofCode k).getD .one).code = k := by
  interval_cases k <;> rfl

theorem Depth.code_ofCode {k : Nat} (known : k ≤ 3) : ((Depth.ofCode k).getD .d1).code = k := by
  interval_cases k <;> rfl

theorem channelConfig_stored {n : Byte} {f : ChannelFields} (pass : ChannelFieldsPass n f) :
    ChannelStored f (channelConfig f) := by
  obtain ⟨-, kind, -, gain, depth, -⟩ := pass
  exact ⟨ChanKind.code_ofCode kind, rfl, Gain.code_ofCode gain, rfl, rfl, rfl, Depth.code_ofCode depth, rfl, rfl, rfl, rfl, rfl,
    rfl, rfl, rfl, rfl, rfl, rfl, rfl, rfl⟩

/-- A channel whose fields make it GAS has a gas record. -/
theorem channelConfig_gas {n : Byte} {f : ChannelFields} (pass : ChannelFieldsPass n f)
    (gas : (channelConfig f).kind = .gas) : n.toNat < 20 := by
  obtain ⟨within, known, -, -, -, -, -, -, board, -⟩ := pass
  have code : 1 = f.kind.toNat := by
    rw [← ChanKind.code_ofCode known]
    exact (congrArg ChanKind.code gas).symm
  have other : n.toNat ≠ 20 := fun last => by
    rw [board.1 last] at code
    exact absurd code (by decide)
  omega

end Sys2Proof.Machine
end

section
/-! SUPPORT. A channel's configuration stored: its record, its window and its dynamic state, the notices and the freeze edge
(R44, R45). -/

namespace Sys2Proof.Machine

/-! ### The record (R44, R45) -/

/-- A window that returns to CLEAR latches its edge, where there is one. -/
theorem Channel.moveWindow_clear (ch : Channel) :
    ch.moveWindow .clear = { ch with window := .clear, left := ch.left || decide (ch.window ≠ .clear) } := by
  rw [Channel.moveWindow_eq]
  simp [eq_comm (a := WindowState.clear)]

/-- A configuration of a channel that is disabled in place of one that is enabled. -/
def ChanConfig.Disables (old cfg : ChanConfig) : Prop := old.enabled = true ∧ cfg.enabled = false

/-- The configuration clears the window: the channel is disabled, or a window field changes. -/
def ChanConfig.ClearsWindow (old cfg : ChanConfig) : Prop := old.Disables cfg ∨ WindowFieldsDiffer old cfg

theorem disables_iff (old cfg : ChanConfig) : (old.enabled && !cfg.enabled) = true ↔ old.Disables cfg := by
  simp [ChanConfig.Disables]

theorem changesWindow_iff (old cfg : ChanConfig) : changesWindow old cfg = true ↔ WindowFieldsDiffer old cfg := by
  simp only [changesWindow, WindowFieldsDiffer, Bool.or_eq_true, decide_eq_true_eq, or_assoc, ne_comm (b := cfg.windowOn),
    ne_comm (b := cfg.inside), ne_comm (b := cfg.lo), ne_comm (b := cfg.hi), ne_comm (b := cfg.lowHyst),
    ne_comm (b := cfg.highHyst)]

theorem changesGas_iff (old cfg : ChanConfig) : changesGas old cfg = true ↔ GasFieldsDiffer old cfg := by
  simp only [changesGas, GasFieldsDiffer, Bool.and_eq_true, Bool.or_eq_true, decide_eq_true_eq, or_assoc,
    ne_comm (b := cfg.kind), ne_comm (b := cfg.group), ne_comm (b := cfg.t1), ne_comm (b := cfg.t2), ne_comm (b := cfg.t3),
    ne_comm (b := cfg.rise), ne_comm (b := cfg.fall)]

theorem clearsHistory_eq (old cfg : ChanConfig) :
    clearsHistory old cfg =
      decide (cfg.gain ≠ old.gain ∨ cfg.scaleLo ≠ old.scaleLo ∨ cfg.scaleHi ≠ old.scaleHi ∨ cfg.depth ≠ old.depth) := by
  simp only [clearsHistory, Bool.decide_or, Bool.or_assoc, ne_comm]

/-- The record with a configuration stored, before its changed fields take effect. -/
def Channel.configured (old : Channel) (cfg : ChanConfig) : Channel :=
  { old with cfg := cfg, clearPending := old.clearPending || clearsHistory old.cfg cfg }

/-- What a configuration written makes of its channel's record. -/
structure Channel.Rewritten (old : Channel) (cfg : ChanConfig) (new : Channel) : Prop where
  stored : new.cfg = cfg
  results : new.lastRaw = old.lastRaw ∧ new.value = old.value ∧ new.entered = old.entered
  disabled : old.cfg.Disables cfg →
    new.validity = .unseen ∧ new.known = false ∧ new.history = [] ∧ new.clearPending = false ∧ new.badRun = 0 ∧
      new.goodRun = 0 ∧ new.age = none
  kept : ¬ old.cfg.Disables cfg →
    new.validity = old.validity ∧ new.known = old.known ∧ new.history = old.history ∧ new.badRun = old.badRun ∧
      new.goodRun = old.goodRun ∧ new.age = old.age ∧
      new.clearPending = (old.clearPending || clearsHistory old.cfg cfg)
  cleared : old.cfg.ClearsWindow cfg → new.window = .clear ∧ new.left = (old.left || decide (old.window ≠ .clear))
  uncleared : ¬ old.cfg.ClearsWindow cfg → new.window = old.window ∧ new.left = old.left

/-! ### The window cleared (R44) -/

/-- A window cleared: its record, its edge handed on, its notice. -/
structure WindowCleared (c : Nat) (p q : Part) : Prop where
  mu : q.mu = p.mu.setChannel c ((p.channel c).moveWindow .clear)
  due : q.due = p.due ++ if c < 20 ∧ (p.channel c).window = .low then [.freezeEdge c false] else []
  posts : Posts
    (told ((p.channel c).window ≠ .clear) .window c
      (u8 (p.channel c).window.code ++ u8 WindowState.clear.code ++ i16 (p.channel c).value)) p q
  still : q.link.still = p.link.still
  moved : ChangesOnly [.measurement, .notices, .handed] p q

theorem Part.clearWindow_cleared (p : Part) {c : Nat} (hc : c < 21) : WindowCleared c p (p.clearWindow c) := by
  let cleared := p.setChannel c ((p.channel c).moveWindow .clear)
  let noted := cleared.noteWindow c (p.channel c).window .clear
  have record : cleared.channel c = (p.channel c).moveWindow .clear := p.channel_setChannel _ hc
  have clears : p.clearWindow c = noted.tellEdge c (p.channel c).window .clear := rfl
  rw [clears]
  constructor
  case mu => simp [noted, cleared, Part.setChannel]
  case due =>
    have edge : (noted.tellEdge c (p.channel c).window .clear).due = noted.due ++ _ := Part.tellEdge_due _ _ _ _
    simpa [noted, cleared, Part.setChannel] using edge
  case posts =>
    have posts := cleared.noteWindow_posts c (p.channel c).window .clear
    rw [record, Channel.moveWindow_clear] at posts
    exact (posts.of_link (p := p) rfl).of_unsent (by simp [noted]) (by simp [noted])
  case still => simp [noted, cleared]
  case moved =>
    exact (((ChangesOnly.of_mu p _).trans (.noteWindow cleared c _ _)).trans (.tellEdge noted c _ _)).mono (by simp)

/-! ### The channel disabled (R45) -/

/-- The part with channel c disabled, its MEASURE not yet answered. -/
def Part.silenced (p : Part) (c : Nat) : Part :=
  let cleared := p.clearWindow c
  let noted := (cleared.setChannel c (cleared.channel c).disabled).noteSensor c (cleared.channel c).validity .unseen
  { noted with mu := noted.mu.forget c }

theorem Part.disableChannel_eq (p : Part) (c : Nat) :
    p.disableChannel c =
      if (p.silenced c).mu.outstanding = some c then (p.silenced c).answerMeasure (.refused .state 1) else p.silenced c := rfl

/-- A channel disabled: its record, its requests forgotten, its window's edge handed on, its notices. -/
structure Silenced (c : Nat) (p q : Part) : Prop where
  mu : q.mu = (p.mu.setChannel c ((p.channel c).moveWindow .clear).disabled).forget c
  due : q.due = p.due ++ if c < 20 ∧ (p.channel c).window = .low then [.freezeEdge c false] else []
  posts : Posts
    (told ((p.channel c).window ≠ .clear) .window c
        (u8 (p.channel c).window.code ++ u8 WindowState.clear.code ++ i16 (p.channel c).value) ++
      told ((p.channel c).validity = .fault) .sensor c
        (u8 (p.channel c).validity.code ++ u8 Validity.unseen.code ++ u16 (p.channel c).lastRaw)) p q
  still : q.link.still = p.link.still
  moved : ChangesOnly [.measurement, .notices, .handed] p q

theorem Part.silenced_silenced (p : Part) {c : Nat} (hc : c < 21) : Silenced c p (p.silenced c) := by
  obtain ⟨mu, due, window, still, moved⟩ := p.clearWindow_cleared hc
  let cleared := p.clearWindow c
  let stored := cleared.setChannel c (cleared.channel c).disabled
  let noted := stored.noteSensor c (p.channel c).validity .unseen
  have record : cleared.channel c = (p.channel c).moveWindow .clear := by
    rw [Part.channel_of_mu (p := p.setChannel c _) mu, p.channel_setChannel _ hc]
  have results : (stored.channel c).lastRaw = (p.channel c).lastRaw := by
    rw [cleared.channel_setChannel _ hc, record, Channel.moveWindow_clear]
    rfl
  have validity : (cleared.channel c).validity = (p.channel c).validity := by rw [record, Channel.moveWindow_clear]
  have fault : (p.channel c).validity ≠ .unseen ∧ ((p.channel c).validity = .fault ∨ Validity.unseen = .fault) ↔
      (p.channel c).validity = .fault := by
    cases (p.channel c).validity <;> decide
  have silences : p.silenced c = { noted with mu := noted.mu.forget c } := by
    simp only [noted, ← validity]
    rfl
  rw [silences]
  constructor
  case mu =>
    have forgotten : noted.mu = stored.mu := by simp [noted]
    have twice : stored.mu = p.mu.setChannel c ((p.channel c).moveWindow .clear).disabled := by
      rw [← Measurement.setChannel_setChannel p.mu c ((p.channel c).moveWindow .clear), ← mu, ← record]
      rfl
    exact congrArg (Measurement.forget · c) (forgotten.trans twice)
  case due => exact (by simp [noted, stored, Part.setChannel] : noted.due = cleared.due).trans due
  case posts =>
    have sensor := stored.noteSensor_posts c (p.channel c).validity .unseen
    simp only [results, fault] at sensor
    have last : Posts _ cleared { noted with mu := noted.mu.forget c } := (sensor.of_link rfl).of_unsent rfl rfl
    exact window.append last (Link.mask_of_still still) (Part.noteSensor_keeps stored c _ _).1.symm
      (Link.transmitter_of_still still)
  case still => exact (by simp [noted, stored, Part.setChannel] : noted.link.still = cleared.link.still).trans still
  case moved =>
    exact (((moved.trans (.of_mu cleared _)).trans (.noteSensor stored c _ _)).trans (.of_mu noted _)).mono (by simp)

/-! ### The requests of a channel forgotten (R45) -/

section
variable (m : Measurement) (c : Nat)

theorem Measurement.forget_priority : ∀ e ∈ (m.forget c).priority, e.channel ≠ c := fun _ waits =>
  of_decide_eq_true (List.mem_filter.1 waits).2

theorem Measurement.forget_converter :
    ∀ v, (m.forget c).converter = some v → v.channel = c → v.discard = true := by
  intro v flight own
  obtain ⟨w, -, rfl⟩ := Option.map_eq_some_iff.1 flight
  by_cases of : w.channel = c
  · rw [if_pos of]
  · rw [if_neg of] at own
    exact absurd own of

end

/-! ### The configuration stored (R44, R45) -/

section
variable {old : Channel} {cfg : ChanConfig}

theorem Channel.rewritten_disabled (disables : old.cfg.Disables cfg) :
    old.Rewritten cfg ((old.configured cfg).moveWindow .clear).disabled where
  stored := by rw [Channel.moveWindow_clear]; rfl
  results := by rw [Channel.moveWindow_clear]; exact ⟨rfl, rfl, rfl⟩
  disabled _ := ⟨rfl, rfl, rfl, rfl, rfl, rfl, rfl⟩
  kept stays := absurd disables stays
  cleared _ := by rw [Channel.moveWindow_clear]; exact ⟨rfl, rfl⟩
  uncleared stays := absurd (.inl disables) stays

theorem Channel.rewritten_cleared (stays : ¬ old.cfg.Disables cfg) (differs : WindowFieldsDiffer old.cfg cfg) :
    old.Rewritten cfg ((old.configured cfg).moveWindow .clear) := by
  rw [Channel.moveWindow_clear]
  exact ⟨rfl, ⟨rfl, rfl, rfl⟩, fun disables => absurd disables stays, fun _ => ⟨rfl, rfl, rfl, rfl, rfl, rfl, rfl⟩,
    fun _ => ⟨rfl, rfl⟩, fun same => absurd (.inr differs) same⟩

theorem Channel.rewritten_kept (same : ¬ old.cfg.ClearsWindow cfg) : old.Rewritten cfg (old.configured cfg) :=
  ⟨rfl, ⟨rfl, rfl, rfl⟩, fun disables => absurd (.inl disables) same, fun _ => ⟨rfl, rfl, rfl, rfl, rfl, rfl, rfl⟩,
    fun clears => absurd clears same, fun _ => ⟨rfl, rfl⟩⟩

end

theorem told_of_not {b : Prop} [Decidable b] (none : ¬ b) (kind : NoticeKind) (subject : Nat) (detail : List Byte) :
    told b kind subject detail = [] := if_neg none

/-- What a configuration stored posts: WINDOW for a window that clears, then SENSOR for a FAULT channel disabled. -/
def configTold (c : Nat) (old new : Channel) : List Posting :=
  told (new.window ≠ old.window) .window c (u8 old.window.code ++ u8 new.window.code ++ i16 old.value) ++
    told (old.cfg.enabled = true ∧ new.cfg.enabled = false ∧ old.validity = .fault) .sensor c
      (u8 old.validity.code ++ u8 Validity.unseen.code ++ u16 old.lastRaw)

/-- What a configuration stored in channel c makes of a part, its MEASURE and the air quality unit apart. -/
structure ConfigStored (c : Nat) (cfg : ChanConfig) (p q : Part) : Prop where
  record : (p.channel c).Rewritten cfg (q.channel c)
  others : ∀ k, k ≠ c → q.channel k = p.channel k
  forgets : (p.channel c).cfg.Disables cfg →
    (∀ e ∈ q.mu.priority, e.channel ≠ c) ∧ ∀ v, q.mu.converter = some v → v.channel = c → v.discard = true
  keeps : ¬ (p.channel c).cfg.Disables cfg → q.mu.priority = p.mu.priority ∧ q.mu.converter = p.mu.converter
  edge : (p.channel c).cfg.ClearsWindow cfg →
    q.due = p.due ++ if c < 20 ∧ (p.channel c).window = .low then [.freezeEdge c false] else []
  noEdge : ¬ (p.channel c).cfg.ClearsWindow cfg → q.due = p.due
  posts : Posts (configTold c (p.channel c) (q.channel c)) p q
  mask : q.link.mask = p.link.mask
  transmitter : q.link.transmitter = p.link.transmitter
  moved : ChangesOnly [.measurement, .replies, .notices, .handed] p q

/-- A MEASURE answered after it moves nothing that a configuration stored says. -/
theorem ConfigStored.answerMeasure {c : Nat} {cfg : ChanConfig} {p q : Part} (stored : ConfigStored c cfg p q) (v : Verdict) :
    ConfigStored c cfg p (q.answerMeasure v) := by
  have moved := ChangesOnly.answerMeasure q v
  rw [Part.answerMeasure_eq] at moved ⊢
  exact {
    record := stored.record
    others := stored.others
    forgets := stored.forgets
    keeps := stored.keeps
    edge := stored.edge
    noEdge := stored.noEdge
    posts := Posts.of_unsent (q := q) (by simp) rfl stored.posts
    mask := by simpa using stored.mask
    transmitter := by simpa using stored.transmitter
    moved := (stored.moved.trans moved).mono (by simp) }

/-- The part with a configuration stored in channel c, before its changed fields take effect. -/
def Part.configured (p : Part) (c : Nat) (cfg : ChanConfig) : Part := p.setChannel c ((p.channel c).configured cfg)

section
variable (p : Part) {c : Nat} (hc : c < 21) {cfg : ChanConfig}
include hc

theorem Part.configured_channel : (p.configured c cfg).channel c = (p.channel c).configured cfg :=
  p.channel_setChannel _ hc

theorem Part.silenced_stored (disables : (p.channel c).cfg.Disables cfg) :
    ConfigStored c cfg p ((p.configured c cfg).silenced c) := by
  obtain ⟨mu, due, posts, still, moved⟩ := (p.configured c cfg).silenced_silenced hc
  rw [p.configured_channel hc] at mu due posts
  let new := (((p.channel c).configured cfg).moveWindow .clear).disabled
  have stored : ((p.configured c cfg).silenced c).mu = (p.mu.setChannel c new).forget c :=
    mu.trans (congrArg (Measurement.forget · c) (p.mu.setChannel_setChannel c _ _))
  have record : ((p.configured c cfg).silenced c).channel c = new := by
    rw [Part.channel, stored]
    exact p.mu.channel_setChannel _ hc
  have rewritten : (p.channel c).Rewritten cfg new := Channel.rewritten_disabled disables
  constructor
  case record => exact record ▸ rewritten
  case others =>
    intro k other
    rw [Part.channel, stored]
    exact p.mu.channel_setChannel_other _ other
  case forgets =>
    rw [stored]
    exact fun _ => ⟨Measurement.forget_priority _ c, Measurement.forget_converter _ c⟩
  case keeps => exact fun stays => absurd disables stays
  case edge => exact fun _ => due
  case noEdge => exact fun same => absurd (.inl disables) same
  case posts =>
    have off : new.cfg.enabled = false := rewritten.stored.symm ▸ disables.2
    have window : new.window = .clear := (rewritten.cleared (.inl disables)).1
    rw [record]
    simp only [configTold, disables.1, off, window, true_and, ne_comm (a := WindowState.clear)]
    exact posts.of_link rfl
  case mask => exact Link.mask_of_still still
  case transmitter => exact Link.transmitter_of_still still
  case moved => exact ((ChangesOnly.of_mu p _).trans moved).mono (by simp)

theorem Part.clearWindow_stored (stays : ¬ (p.channel c).cfg.Disables cfg)
    (differs : WindowFieldsDiffer (p.channel c).cfg cfg) : ConfigStored c cfg p ((p.configured c cfg).clearWindow c) := by
  obtain ⟨mu, due, posts, still, moved⟩ := (p.configured c cfg).clearWindow_cleared hc
  rw [p.configured_channel hc] at mu due posts
  let new := ((p.channel c).configured cfg).moveWindow .clear
  have stored : ((p.configured c cfg).clearWindow c).mu = p.mu.setChannel c new :=
    mu.trans (p.mu.setChannel_setChannel c _ _)
  have record : ((p.configured c cfg).clearWindow c).channel c = new := by
    rw [Part.channel, stored]
    exact p.mu.channel_setChannel _ hc
  have rewritten : (p.channel c).Rewritten cfg new := Channel.rewritten_cleared stays differs
  constructor
  case record => exact record ▸ rewritten
  case others =>
    intro k other
    rw [Part.channel, stored]
    exact p.mu.channel_setChannel_other _ other
  case forgets => exact fun disables => absurd disables stays
  case keeps =>
    rw [stored]
    exact fun _ => ⟨rfl, rfl⟩
  case edge => exact fun _ => due
  case noEdge => exact fun same => absurd (.inr differs) same
  case posts =>
    have none : ¬ ((p.channel c).cfg.enabled = true ∧ new.cfg.enabled = false ∧ (p.channel c).validity = .fault) :=
      fun ⟨on, off, _⟩ => stays ⟨on, rewritten.stored ▸ off⟩
    have window : new.window = .clear := (rewritten.cleared (.inr differs)).1
    rw [record, configTold, told_of_not none, List.append_nil]
    simp only [window, ne_comm (a := WindowState.clear)]
    exact posts.of_link rfl
  case mask => exact Link.mask_of_still still
  case transmitter => exact Link.transmitter_of_still still
  case moved => exact ((ChangesOnly.of_mu p _).trans moved).mono (by simp)

theorem Part.configured_stored (same : ¬ (p.channel c).cfg.ClearsWindow cfg) :
    ConfigStored c cfg p (p.configured c cfg) := by
  have record := p.configured_channel hc (cfg := cfg)
  have rewritten : (p.channel c).Rewritten cfg ((p.channel c).configured cfg) := Channel.rewritten_kept same
  constructor
  case record => exact record ▸ rewritten
  case others => exact fun k other => p.channel_setChannel_other _ other
  case forgets => exact fun disables => absurd (.inl disables) same
  case keeps => exact fun _ => ⟨rfl, rfl⟩
  case edge => exact fun clears => absurd clears same
  case noEdge => exact fun _ => rfl
  case posts =>
    have none : ¬ ((p.channel c).cfg.enabled = true ∧ ((p.channel c).configured cfg).cfg.enabled = false ∧
        (p.channel c).validity = .fault) := fun ⟨on, off, _⟩ => same (.inl ⟨on, rewritten.stored ▸ off⟩)
    rw [record, configTold, told_of_not none, told_of_not (by simp [(rewritten.uncleared same).1])]
    exact Posts.nothing rfl
  case mask => rfl
  case transmitter => rfl
  case moved => exact (ChangesOnly.of_mu p _).mono (by simp)

end

/-- The part with a configuration stored in channel c and the effects of its changed fields inside the measurement unit. -/
def Part.configStored (p : Part) (c : Nat) (cfg : ChanConfig) : Part :=
  if (p.channel c).cfg.enabled && !cfg.enabled then (p.configured c cfg).disableChannel c
  else if changesWindow (p.channel c).cfg cfg then (p.configured c cfg).clearWindow c
  else p.configured c cfg

section
variable (p : Part) {c : Nat} {cfg : ChanConfig}

theorem Part.configStored_of_disables (disables : (p.channel c).cfg.Disables cfg) :
    p.configStored c cfg = (p.configured c cfg).disableChannel c := if_pos ((disables_iff _ _).2 disables)

theorem Part.configStored_of_differs (stays : ¬ (p.channel c).cfg.Disables cfg)
    (differs : WindowFieldsDiffer (p.channel c).cfg cfg) : p.configStored c cfg = (p.configured c cfg).clearWindow c :=
  (if_neg ((disables_iff _ _).not.2 stays)).trans (if_pos ((changesWindow_iff _ _).2 differs))

theorem Part.configStored_of_same (same : ¬ (p.channel c).cfg.ClearsWindow cfg) :
    p.configStored c cfg = p.configured c cfg :=
  (if_neg ((disables_iff _ _).not.2 fun disables => same (.inl disables))).trans
    (if_neg ((changesWindow_iff _ _).not.2 fun differs => same (.inr differs)))

variable (hc : c < 21)
include hc

theorem Part.silenced_outstanding : ((p.configured c cfg).silenced c).mu.outstanding = p.mu.outstanding :=
  (congrArg Measurement.outstanding ((p.configured c cfg).silenced_silenced hc).mu :)

theorem Part.configStored_stored : ConfigStored c cfg p (p.configStored c cfg) := by
  by_cases disables : (p.channel c).cfg.Disables cfg
  · rw [p.configStored_of_disables disables, Part.disableChannel_eq]
    split
    · exact (p.silenced_stored hc disables).answerMeasure _
    · exact p.silenced_stored hc disables
  · by_cases differs : WindowFieldsDiffer (p.channel c).cfg cfg
    · rw [p.configStored_of_differs disables differs]
      exact p.clearWindow_stored hc disables differs
    · have same : ¬ (p.channel c).cfg.ClearsWindow cfg := fun clears => clears.elim disables differs
      rw [p.configStored_of_same same]
      exact p.configured_stored hc same

/-- Where no MEASURE of the channel is outstanding, its disabling moves notices alone of the link port. -/
theorem Part.configStored_still (quiet : ¬ (p.channel c).cfg.Disables cfg ∨ p.mu.outstanding ≠ some c) :
    (p.configStored c cfg).link.still = p.link.still := by
  by_cases disables : (p.channel c).cfg.Disables cfg
  · have none : ((p.configured c cfg).silenced c).mu.outstanding ≠ some c := by
      rw [p.silenced_outstanding hc]
      exact quiet.resolve_left fun stays => stays disables
    rw [p.configStored_of_disables disables, Part.disableChannel_eq, if_neg none]
    exact ((p.configured c cfg).silenced_silenced hc).still
  · by_cases differs : WindowFieldsDiffer (p.channel c).cfg cfg
    · rw [p.configStored_of_differs disables differs]
      exact ((p.configured c cfg).clearWindow_cleared hc).still
    · rw [p.configStored_of_same fun clears => clears.elim disables differs]
      rfl

/-- The MEASURE of a channel disabled is answered STATE (R45). -/
theorem Part.configStored_answered (disables : (p.channel c).cfg.Disables cfg) (waits : p.mu.outstanding = some c)
    {tag : Byte} (deferred : p.link.deferredMeasure = some tag) :
    (p.configStored c cfg).mu.outstanding = none ∧ (p.configStored c cfg).link.deferredMeasure = none ∧
      (p.configStored c cfg).link.outgoing = p.link.outgoing ++ [(Verdict.refused .state 1).body tag 0x13] := by
  have still := ((p.configured c cfg).silenced_silenced hc).still
  have tagged : ((p.configured c cfg).silenced c).link.deferredMeasure = some tag :=
    (congrArg (·.deferredMeasure) still :).trans deferred
  rw [p.configStored_of_disables disables, Part.disableChannel_eq, if_pos ((p.silenced_outstanding hc).trans waits),
    Part.answerMeasure_eq]
  refine ⟨rfl, by simp, ?_⟩
  rw [← show ((p.configured c cfg).silenced c).link.outgoing = p.link.outgoing from Link.outgoing_of_still still]
  exact Link.measureAnswered_outgoing _ tagged

end

end Sys2Proof.Machine
end

section
/-! SUPPORT. The air quality unit's membership taken up (R147), and CHAN_WRITE answered (R43 to R45). -/

namespace Sys2Proof.Machine

/-! ### Membership taken up (R147) -/

theorem ChanConfig.joins_iff (cfg : ChanConfig) : cfg.joins = true ↔ cfg.enabled = true ∧ cfg.kind = .gas := by
  simp [ChanConfig.joins]

/-- A channel that is a member has a gas record. -/
theorem Part.member_within {p : Part} {c : Nat} (member : (p.gasOf c).member = true) : c < 20 := by
  by_contra beyond
  have none : p.gasOf c = default := Tab.get_beyond p.air.gas (Nat.not_lt.1 beyond)
  rw [none] at member
  exact absurd member (by decide)

theorem Part.gasOf_setGas (p : Part) {c : Nat} (g : Gas) (hc : c < 20) : (p.setGas c g).gasOf c = g :=
  Tab.get_put_same _ _ _ hc

theorem Part.gasOf_setGas_other (p : Part) {c k : Nat} (g : Gas) (other : k ≠ c) : (p.setGas c g).gasOf k = p.gasOf k :=
  Tab.get_put_other _ _ _ _ other.symm

/-- What the membership of channel c taken up makes of a part. -/
structure TakenUp (c : Nat) (p q : Part) (demands : List Due) : Prop where
  due : q.due = p.due ++ demands
  gas : GasTakenUp p q c (p.channel c).cfg demands
  left : (p.gasOf c).member = true → ¬ ((p.channel c).cfg.enabled = true ∧ (p.channel c).cfg.kind = .gas) →
    Posts (levelTold c (p.gasOf c).level 0 .config) p q
  unsent : (p.gasOf c).member = false ∨ (p.channel c).cfg.enabled = true ∧ (p.channel c).cfg.kind = .gas → Posts [] p q

section
variable (p : Part) {c : Nat}

theorem Part.takeUp_stays (joins : (p.channel c).cfg.joins = false) (member : (p.gasOf c).member = false) :
    p.takeUp c = p := by
  simp [Part.takeUp, joins, member]

theorem Part.takeUp_same (joins : (p.channel c).cfg.joins = true) (member : (p.gasOf c).member = true)
    (same : (p.gasOf c).group = (p.channel c).cfg.group) : p.takeUp c = p := by
  simp [Part.takeUp, joins, member, same]

theorem Part.takeUp_moves (joins : (p.channel c).cfg.joins = true) (member : (p.gasOf c).member = true)
    (moves : (p.gasOf c).group ≠ (p.channel c).cfg.group) :
    p.takeUp c =
      { p.setGas c { p.gasOf c with group := (p.channel c).cfg.group } with
        due := p.due ++ [.demand (min (p.gasOf c).group (p.channel c).cfg.group),
          .demand (max (p.gasOf c).group (p.channel c).cfg.group)] } := by
  simp [Part.takeUp, joins, member, moves, Part.oweGroups, Part.owe]

theorem Part.takeUp_joins (joins : (p.channel c).cfg.joins = true) (member : (p.gasOf c).member = false) :
    p.takeUp c =
      { p.setGas c { member := true, group := (p.channel c).cfg.group, level := 0, source := .ladder, watch := 0 } with
        due := p.due ++ [.demand (p.channel c).cfg.group] } := by
  simp [Part.takeUp, joins, member, Part.owe]

/-- A member that leaves: the AIR notice of the level that it gives up, then its group's demand. -/
theorem Part.takeUp_leaves (joins : (p.channel c).cfg.joins = false) (member : (p.gasOf c).member = true) :
    ∃ leaver : Part, p.takeUp c = leaver.owe (.demand (p.gasOf c).group) ∧
      leaver.air = (p.setGas c { p.gasOf c with member := false, level := 0, source := .ladder }).air ∧
      leaver.due = p.due ∧ Posts (levelTold c (p.gasOf c).level 0 .config) p leaver := by
  let left := p.setGas c { p.gasOf c with member := false, level := 0, source := .ladder }
  let detail := u8 0 ++ u8 (p.gasOf c).level ++ u8 0 ++ u8 LevelCause.config.code
  refine ⟨if 0 ≠ (p.gasOf c).level then left.post .air c detail else left, ?_, ?_, ?_, ?_⟩
  · simp [Part.takeUp, joins, member, Part.postLevel, eq_comm, left, detail]
  · split <;> simp [left]
  · split <;> simp [left]
  · exact (Posts.of_told _ left _ _ _).of_link rfl

end

/-- The membership of a channel, whose record exists where its configuration is a GAS channel's, taken up. -/
theorem Part.takeUp_takenUp (p : Part) {c : Nat} (within : (p.channel c).cfg.kind = .gas → c < 20) :
    ∃ demands, TakenUp c p (p.takeUp c) demands := by
  cases joins : (p.channel c).cfg.joins <;> cases member : (p.gasOf c).member
  case false.false =>
    have none : ¬ ((p.channel c).cfg.enabled = true ∧ (p.channel c).cfg.kind = .gas) := by simp [← ChanConfig.joins_iff, joins]
    rw [p.takeUp_stays joins member]
    refine ⟨[], by simp, ⟨rfl, fun _ _ _ => rfl, ?_, ?_, ?_, ?_, fun _ _ => ⟨rfl, rfl⟩⟩, ?_, fun _ => Posts.nothing rfl⟩
    all_goals simp [member, none]
  case false.true =>
    have none : ¬ ((p.channel c).cfg.enabled = true ∧ (p.channel c).cfg.kind = .gas) := by simp [← ChanConfig.joins_iff, joins]
    have hc : c < 20 := Part.member_within member
    obtain ⟨leaver, leaves, air, due, posts⟩ := p.takeUp_leaves joins member
    rw [leaves]
    have records (k : Nat) : (leaver.owe (.demand (p.gasOf c).group)).gasOf k =
        (p.setGas c { p.gasOf c with member := false, level := 0, source := .ladder }).gasOf k :=
      congrArg (fun a : AirQuality => Tab.get a.gas k) air
    refine ⟨[.demand (p.gasOf c).group], congrArg (· ++ [Due.demand (p.gasOf c).group]) due,
      ⟨?_, fun k _ other => (records k).trans (p.gasOf_setGas_other _ other),
        fun _ _ => ⟨rfl, (records c).trans (p.gasOf_setGas _ hc)⟩, ?_, ?_, ?_, ?_⟩, fun _ _ => posts, ?_⟩
    case refine_1 =>
      change leaver.air = { p.air with gas := leaver.air.gas }
      rw [air]
      rfl
    all_goals simp [member, none]
  case true.false =>
    have gas := (ChanConfig.joins_iff _).1 joins
    have hc : c < 20 := within gas.2
    rw [p.takeUp_joins joins member]
    refine ⟨[.demand (p.channel c).cfg.group], rfl,
      ⟨rfl, fun _ _ other => p.gasOf_setGas_other _ other, ?_, fun _ _ => ⟨rfl, p.gasOf_setGas _ hc⟩, ?_, ?_, ?_⟩, ?_,
      fun _ => Posts.nothing rfl⟩
    all_goals simp [member, gas]
  case true.true =>
    have gas := (ChanConfig.joins_iff _).1 joins
    have hc : c < 20 := within gas.2
    by_cases same : (p.gasOf c).group = (p.channel c).cfg.group
    · rw [p.takeUp_same joins member same]
      refine ⟨[], by simp, ⟨rfl, fun _ _ _ => rfl, ?_, ?_, ?_, fun _ _ _ => ⟨rfl, rfl⟩, ?_⟩, ?_, fun _ => Posts.nothing rfl⟩
      all_goals simp [member, gas, same]
    · rw [p.takeUp_moves joins member same]
      refine ⟨_, rfl,
        ⟨rfl, fun _ _ other => p.gasOf_setGas_other _ other, ?_, ?_, fun _ _ _ => ⟨rfl, p.gasOf_setGas _ hc⟩, ?_, ?_⟩, ?_,
        fun _ => Posts.nothing rfl⟩
      all_goals simp [member, gas, same]

/-- What a link port has but for its queue of notices, it has where the port is still. -/
theorem Link.figure_of_still {α : Type} {l m : Link} (figure : Link → α) (reads : ∀ l : Link, figure l = figure l.still)
    (still : l.still = m.still) : figure l = figure m := by rw [reads l, reads m, still]

/-- The membership taken up moves the air quality unit, what it posts and what it hands on. -/
theorem ChangesOnly.takeUp (p : Part) (c : Nat) : ChangesOnly [.airQuality, .notices, .handed] p (p.takeUp c) := by
  obtain ⟨clock, cal, mu, dl, zc, lb, running, still, -⟩ := p.takeUp_keeps c
  have figure {α : Type} (f : Link → α) (reads : ∀ l : Link, f l = f l.still) : f (p.takeUp c).link = f p.link :=
    Link.figure_of_still f reads still
  intro piece other
  cases piece
  case receiver =>
    exact ⟨figure (·.receiver) fun _ => rfl, figure (·.holding) fun _ => rfl, figure (·.errors) fun _ => rfl⟩
  case settings =>
    exact ⟨figure (·.store) fun _ => rfl, figure (·.storeGood) fun _ => rfl, figure (·.saving) fun _ => rfl,
      figure (·.unsaved) fun _ => rfl, figure (·.startCause) fun _ => rfl, figure (·.source) fun _ => rfl,
      figure (·.speed) fun _ => rfl, figure (·.mask) fun _ => rfl⟩
  case sending => exact fun _ => Link.transmitter_of_still still
  case replies =>
    exact ⟨Link.outgoing_of_still still, figure (·.inHand) fun _ => rfl, figure (·.deferredMeasure) fun _ => rfl,
      figure (·.deferredSave) fun _ => rfl⟩
  all_goals clear figure still; simp_all [Piece.Same]

/-! ### The channel written (R44, R45, R147) -/

/-- The configuration makes the air quality unit take up the channel's membership (R44, R147). -/
def ChanConfig.Hands (old cfg : ChanConfig) : Prop := GasFieldsDiffer old cfg ∨ old.kind = .gas ∧ old.Disables cfg

theorem hands_iff (old cfg : ChanConfig) :
    (changesGas old cfg || (decide (old.kind = .gas) && old.enabled && !cfg.enabled)) = true ↔ old.Hands cfg := by
  rw [Bool.or_eq_true, changesGas_iff, Bool.and_assoc, Bool.and_eq_true, disables_iff, decide_eq_true_iff]
  rfl

section
variable (p : Part) {c : Nat} {cfg : ChanConfig}

theorem Part.writeChannel_of_hands (hands : (p.channel c).cfg.Hands cfg) :
    p.writeChannel c cfg = (p.configStored c cfg).takeUp c := if_pos ((hands_iff _ _).2 hands)

theorem Part.writeChannel_of_keeps (keeps : ¬ (p.channel c).cfg.Hands cfg) :
    p.writeChannel c cfg = p.configStored c cfg := if_neg ((hands_iff _ _).not.2 keeps)

end

/-- A membership is taken up from the air quality unit alone. -/
theorem GasTakenUp.of_air {p p' q : Part} {c : Nat} {cfg : ChanConfig} {demands : List Due} (air : p'.air = p.air)
    (taken : GasTakenUp p' q c cfg demands) : GasTakenUp p q c cfg demands := by
  have records : p'.gasOf = p.gasOf := congrArg (fun a : AirQuality => Tab.get a.gas) air
  simp only [GasTakenUp, records, air] at taken ⊢
  exact taken

/-- What configuration cfg written to channel c makes of a part, but for its MEASURE. -/
structure ChannelWritten (c : Nat) (cfg : ChanConfig) (p q : Part) : Prop where
  record : (p.channel c).Rewritten cfg (q.channel c)
  others : ∀ k, k ≠ c → q.channel k = p.channel k
  forgets : (p.channel c).cfg.Disables cfg →
    (∀ e ∈ q.mu.priority, e.channel ≠ c) ∧ ∀ v, q.mu.converter = some v → v.channel = c → v.discard = true
  keeps : ¬ (p.channel c).cfg.Disables cfg → q.mu.priority = p.mu.priority ∧ q.mu.converter = p.mu.converter
  handed : ∃ edge demands, q.due = p.due ++ edge ++ demands ∧
    (c < 20 ∧ (p.channel c).window = .low ∧ (p.channel c).cfg.ClearsWindow cfg → edge = [.freezeEdge c false]) ∧
    (¬ (c < 20 ∧ (p.channel c).window = .low ∧ (p.channel c).cfg.ClearsWindow cfg) → edge = []) ∧
    ((p.channel c).cfg.Hands cfg → GasTakenUp p q c cfg demands) ∧
    (¬ (p.channel c).cfg.Hands cfg → demands = [] ∧ q.air = p.air)
  leaves : (p.channel c).cfg.Hands cfg → (p.gasOf c).member = true → ¬ (cfg.enabled = true ∧ cfg.kind = .gas) →
    Posts (configTold c (p.channel c) (q.channel c) ++ levelTold c (p.gasOf c).level 0 .config) p q
  stays : ¬ (p.channel c).cfg.Hands cfg ∨ (p.gasOf c).member = false ∨ cfg.enabled = true ∧ cfg.kind = .gas →
    Posts (configTold c (p.channel c) (q.channel c)) p q

/-- The freeze edge that a configuration stored hands on. -/
theorem ConfigStored.handed {c : Nat} {cfg : ChanConfig} {p q : Part} (stored : ConfigStored c cfg p q) :
    ∃ edge, q.due = p.due ++ edge ∧
      (c < 20 ∧ (p.channel c).window = .low ∧ (p.channel c).cfg.ClearsWindow cfg → edge = [.freezeEdge c false]) ∧
      (¬ (c < 20 ∧ (p.channel c).window = .low ∧ (p.channel c).cfg.ClearsWindow cfg) → edge = []) := by
  by_cases clears : (p.channel c).cfg.ClearsWindow cfg
  · refine ⟨_, stored.edge clears, fun ⟨hc, low, _⟩ => if_pos ⟨hc, low⟩, fun none => if_neg fun ⟨hc, low⟩ => none ⟨hc, low, clears⟩⟩
  · exact ⟨[], by simp [stored.noEdge clears], fun ⟨_, _, so⟩ => absurd so clears, fun _ => rfl⟩

theorem ConfigStored.written {c : Nat} {cfg : ChanConfig} {p q : Part} (stored : ConfigStored c cfg p q)
    (keeps : ¬ (p.channel c).cfg.Hands cfg) : ChannelWritten c cfg p q := by
  obtain ⟨edge, due, hands, none⟩ := stored.handed
  exact {
    record := stored.record
    others := stored.others
    forgets := stored.forgets
    keeps := stored.keeps
    handed := ⟨edge, [], by simpa using due, hands, none, fun so => absurd so keeps,
      fun _ => ⟨rfl, stored.moved .airQuality (by simp)⟩⟩
    leaves := fun so => absurd so keeps
    stays := fun _ => stored.posts }

theorem ConfigStored.takenUp {c : Nat} {cfg : ChanConfig} {p q : Part} (stored : ConfigStored c cfg p q)
    (within : cfg.kind = .gas → c < 20) (takes : (p.channel c).cfg.Hands cfg) : ChannelWritten c cfg p (q.takeUp c) := by
  obtain ⟨edge, due, hands, none⟩ := stored.handed
  have cfgIs : (q.channel c).cfg = cfg := stored.record.stored
  have air : q.air = p.air := stored.moved .airQuality (by simp)
  have gasIs : q.gasOf c = p.gasOf c := congrArg (fun a : AirQuality => Tab.get a.gas c) air
  obtain ⟨demands, owed, gas, left, unsent⟩ := q.takeUp_takenUp (cfgIs.symm ▸ within)
  obtain ⟨clock, -, mu, -⟩ := q.takeUp_keeps c
  have channels (k : Nat) : (q.takeUp c).channel k = q.channel k := Part.channel_of_mu mu k
  rw [cfgIs, gasIs] at left unsent
  rw [cfgIs] at gas
  constructor
  case record => exact (channels c).symm ▸ stored.record
  case others => exact fun k other => (channels k).trans (stored.others k other)
  case forgets => exact mu.symm ▸ stored.forgets
  case keeps => exact mu.symm ▸ stored.keeps
  case handed =>
    exact ⟨edge, demands, by rw [owed, due], hands, none, fun _ => GasTakenUp.of_air air gas, fun so => absurd takes so⟩
  case leaves =>
    rw [channels]
    exact fun _ member other => stored.posts.append (left member other) stored.mask clock.symm stored.transmitter
  case stays =>
    rw [channels]
    intro quiet
    have posts := stored.posts.append (unsent (quiet.resolve_left fun so => so takes)) stored.mask clock.symm stored.transmitter
    rwa [List.append_nil] at posts

theorem Part.writeChannel_written (p : Part) {c : Nat} (hc : c < 21) {cfg : ChanConfig} (within : cfg.kind = .gas → c < 20) :
    ChannelWritten c cfg p (p.writeChannel c cfg) := by
  by_cases takes : (p.channel c).cfg.Hands cfg
  · rw [p.writeChannel_of_hands takes]
    exact (p.configStored_stored hc).takenUp within takes
  · rw [p.writeChannel_of_keeps takes]
    exact (p.configStored_stored hc).written takes

theorem ChangesOnly.writeChannel (p : Part) {c : Nat} (hc : c < 21) (cfg : ChanConfig) :
    ChangesOnly [.measurement, .airQuality, .replies, .notices, .handed] p (p.writeChannel c cfg) := by
  have moved := (p.configStored_stored hc (cfg := cfg)).moved
  by_cases takes : (p.channel c).cfg.Hands cfg
  · rw [p.writeChannel_of_hands takes]
    exact (moved.trans (.takeUp _ c)).mono (by simp)
  · rw [p.writeChannel_of_keeps takes]
    exact moved.mono (by simp)

/-- The membership taken up moves notices alone of the link port, and nothing of the measurement unit. -/
theorem Part.writeChannel_stored (p : Part) (c : Nat) (cfg : ChanConfig) :
    (p.writeChannel c cfg).link.still = (p.configStored c cfg).link.still ∧
      (p.writeChannel c cfg).mu = (p.configStored c cfg).mu := by
  by_cases takes : (p.channel c).cfg.Hands cfg
  · rw [p.writeChannel_of_hands takes]
    simp
  · rw [p.writeChannel_of_keeps takes]
    exact ⟨rfl, rfl⟩

end Sys2Proof.Machine
end

section
/-! SUPPORT. CHAN_WRITE answered: its refusals, the channel written, and the MEASURE of a channel disabled (R43 to R45). -/

namespace Sys2Proof.Machine

theorem flagOf_eq_false_iff {b : Byte} (flag : b.toNat ≤ 1) : flagOf b = false ↔ b = 0 := by
  have cases : b.toNat = 0 ∨ b.toNat = 1 := by omega
  rcases cases with zero | one
  · obtain rfl : b = 0 := BitVec.eq_of_toNat_eq zero
    decide
  · obtain rfl : b = 1 := BitVec.eq_of_toNat_eq one
    decide

/-! ### The owner's work -/

section
variable (p : Part) (saves : p.link.saving = none) {n : Byte} {f : ChannelFields}
include saves

theorem Part.doChanWrite_refused {before after : List (Prop × Code × Nat)} {fault : Prop × Code × Nat}
    (split : channelRefusals n f = before ++ fault :: after) (pass : ∀ x ∈ before, ¬ x.1) (fails : fault.1) :
    Part.doChanWrite n f p = (p, .refused fault.2.1 fault.2.2) :=
  Part.configWrite_refused saves (Part.outcome_refuse p _ _ (channelOperands_refuse split pass fails))

theorem Part.doChanWrite_done (pass : ChannelFieldsPass n f) :
    Part.doChanWrite n f p =
      ((p.writeChannel n.toNat (channelConfig f)).markUnsaved, .done (channelCut f) []) :=
  Part.configWrite_done saves (Part.outcome_accept p _ _ (channelOperands_accept pass))

end

/-! ### The event -/

theorem Part.answered_outgoing (p : Part) (r : Reply) : (p.answered r).link.outgoing = p.link.outgoing ++ [r.body] :=
  (Link.kick_outgoing _).trans (Link.ready_outgoing _ _)

theorem Part.answered_deferredMeasure (p : Part) (r : Reply) :
    (p.answered r).link.deferredMeasure = p.link.deferredMeasure :=
  (Link.kick_deferredMeasure _).trans (by unfold Link.ready; split <;> rfl)

/-- What a configuration written makes of a request's part, it makes of the part at the end of the event, the reply to the
request readied. -/
theorem ChannelWritten.answered {c : Nat} {cfg : ChanConfig} {p q : Part} {tag kind : Byte} (r : Reply)
    (written : ChannelWritten c cfg (p.taken tag kind) q) : ChannelWritten c cfg p (q.markUnsaved.answered r) where
  record := written.record
  others := written.others
  forgets := written.forgets
  keeps := written.keeps
  handed := written.handed
  leaves takes member other := Posts.answered (q := q.markUnsaved) r (written.leaves takes member other)
  stays quiet := Posts.answered (q := q.markUnsaved) r (written.stays quiet)

/-- Settles O40: the refusals by the first condition that holds, and the channel written (`ChannelWritten`), its MEASURE not
outstanding or answered first. -/
theorem aChannelIsWrittenWholeOrDisabled : Obligations.AChannelIsWrittenWholeOrDisabled := by
  refine ⟨fun s tag n f w before fault after split pass fails =>
      .of_refused rfl rfl rfl w.ready (Part.doChanWrite_refused (s.part.taken tag 0x10) w.noSave split pass fails),
    channelFieldsPass_iff, ?_⟩
  intro s tag n measureTag f w pass c old disables verdict window posts hands
  have ⟨within, _, flag, _⟩ := pass
  have hc : c < 21 := Nat.lt_succ_of_le within
  let cfg := channelConfig f
  let q := (s.part.taken tag 0x10).writeChannel c cfg
  have off : f.enabled = 0 ↔ cfg.enabled = false := (flagOf_eq_false_iff flag).symm
  have work : Part.serve (.chanWrite tag n f) (s.part.taken tag 0x10) = (q.markUnsaved, verdict) :=
    Part.doChanWrite_done (s.part.taken tag 0x10) w.noSave pass
  have written (r : Reply) : ChannelWritten c cfg s.part (q.markUnsaved.answered r) :=
    (Part.writeChannel_written _ hc fun gas => channelConfig_gas pass gas).answered r
  have noticed (t : Part) (written : ChannelWritten c cfg s.part t) : posts t ∧ hands t := by
    have cfgIs : (t.channel c).cfg = cfg := written.record.stored
    refine ⟨?_, ?_⟩
    · simp only [posts, window, disables, off, cfgIs]
      have leaves := written.leaves
      have stays := written.stays
      simp only [configTold, cfgIs] at leaves stays
      exact ⟨leaves, stays⟩
    · simp only [hands, disables, off, cfgIs]
      exact written.handed
  have shuts : disables ↔ (s.part.channel c).cfg.Disables cfg := and_congr_right' off
  refine ⟨fun quiet => ?_, fun gone waits deferred => ?_⟩
  · have still : q.link.still = (s.part.taken tag 0x10).link.still :=
      ((s.part.taken tag 0x10).writeChannel_stored c cfg).1.trans
        (Part.configStored_still _ hc (quiet.imp_left shuts.not.1))
    have order : q.link.waiting ≠ [] → q.link.replies ≠ [] := w.ready.order still
    let reply := verdict.reply tag 0x10 true
    have moved := ((ChangesOnly.writeChannel (s.part.taken tag 0x10) hc cfg).trans (.markUnsaved q)).answered
      (q := q.markUnsaved) reply order
    have unsaved : (q.markUnsaved.answered reply).link.unsaved = true :=
      (congrArg (·.unsaved) (Link.ready_kick_aside q.markUnsaved.link reply order) :)
    have wrote := written reply
    refine .of_serve_closed rfl rfl rfl w.ready (by simp [verdict]) work (Link.outgoing_of_still still :) ?_
    obtain ⟨posted, handed⟩ := noticed _ wrote
    obtain ⟨⟨stored, ⟨lastRaw, value, entered⟩, disabled, kept, cleared, uncleared⟩, others, forgets, keeps, -, -, -⟩ := wrote
    refine ⟨(congrArg (ChannelStored f) stored).mpr (channelConfig_stored pass), unsaved,
      fun k _ other => others k other, lastRaw, value, entered, fun gone => ?_, fun stays => ?_, posted, handed, moved.mono (by simp)⟩
    · have shut := shuts.1 gone
      obtain ⟨validity, known, history, clearPending, badRun, goodRun, age⟩ := disabled shut
      obtain ⟨window, left⟩ := cleared (.inl shut)
      exact ⟨validity, known, history, clearPending, badRun, goodRun, age, window, left, forgets shut⟩
    · have enabled := shuts.not.1 stays
      have lists := keeps enabled
      obtain ⟨validity, known, history, badRun, goodRun, age, clearPending⟩ := kept enabled
      rw [clearsHistory_eq, ← stored] at clearPending
      rw [← stored] at cleared uncleared enabled
      exact ⟨validity, known, history, badRun, goodRun, age, clearPending, fun differs => cleared (.inr differs),
        fun same => uncleared fun clears => clears.elim enabled same, lists⟩
  · have shut := shuts.1 gone
    obtain ⟨answered, untagged, outgoing⟩ := (s.part.taken tag 0x10).configStored_answered hc shut waits deferred
    obtain ⟨still, mu⟩ := (s.part.taken tag 0x10).writeChannel_stored c cfg
    have replies : q.link.outgoing = s.part.link.outgoing ++ [(Verdict.refused .state 1).body measureTag 0x13] :=
      (Link.outgoing_of_still still).trans outgoing
    have noTag : q.link.deferredMeasure = none := (congrArg (·.deferredMeasure) still :).trans untagged
    have wrote := written (verdict.reply tag 0x10 true)
    refine ⟨_, exec_of_serve rfl rfl rfl w.ready work, rfl, ?_, (congrArg (·.outstanding) mu :).trans answered,
      (q.markUnsaved.answered_deferredMeasure _).trans noTag, (wrote.record.disabled shut).1, noticed _ wrote⟩
    refine (q.markUnsaved.answered_outgoing (verdict.reply tag 0x10 true)).trans ?_
    exact (congrArg (· ++ [verdict.body tag 0x10]) replies).trans (List.append_assoc _ _ _)

end Sys2Proof.Machine
end

section
/-! SUPPORT. What requests for outbound entries, refills and leavings do to the outbound queue: the flight under way stays, and at
most one entry stands for each station (R85 to R88). -/

namespace Sys2Proof.Machine

/-! ### Flights of a queue -/

theorem DoorLine.flying_isSome_eq_any (d : DoorLine) : d.flying.isSome = d.queue.any (·.inFlight) :=
  Bool.eq_iff_iff.2 (by simp [DoorLine.flying])

theorem DoorLine.flying_eq_none_iff (d : DoorLine) : d.flying = none ↔ ∀ e ∈ d.queue, e.inFlight = false := by
  simp [DoorLine.flying]

theorem DoorLine.entryOf_eq_none_iff (d : DoorLine) (a : Nat) : d.entryOf a = none ↔ ∀ e ∈ d.queue, e.address ≠ a := by
  simp [DoorLine.entryOf]

/-- From d to d' entries are asked for, merged, or leave while they wait: the line, its frame and its flight stay, only the head
can still be in flight, and stations that had one entry have no second. -/
structure DoorLine.FlightStays (d d' : DoorLine) : Prop where
  line : d'.line = d.line
  sending : d'.sending = d.sending
  once : (d.queue.map (·.address)).Nodup → (d'.queue.map (·.address)).Nodup
  head : (∀ e ∈ d.queue.drop 1, e.inFlight = false) → ∀ e ∈ d'.queue.drop 1, e.inFlight = false
  flying : d'.flying.isSome = d.flying.isSome

namespace DoorLine.FlightStays

theorem refl (d : DoorLine) : d.FlightStays d := ⟨rfl, rfl, id, id, rfl⟩

theorem trans {d d' d'' : DoorLine} (first : d.FlightStays d') (second : d'.FlightStays d'') : d.FlightStays d'' where
  line := second.line.trans first.line
  sending := second.sending.trans first.sending
  once := second.once ∘ first.once
  head := second.head ∘ first.head
  flying := second.flying.trans first.flying

theorem of_eq {d d' : DoorLine} (same : d' = d) : d.FlightStays d' := same ▸ refl d

/-- Whatever becomes of the station records and the timers, a queue that stays keeps its flight. -/
theorem of_queue {d d' : DoorLine} (line : d'.line = d.line) (sending : d'.sending = d.sending)
    (queue : d'.queue = d.queue) : d.FlightStays d' := by
  refine ⟨line, sending, ?_, ?_, ?_⟩ <;> simp [queue, DoorLine.flying]

theorem law {d d' : DoorLine} (stays : d.FlightStays d') (law : d.FlightLaw) : d'.FlightLaw where
  once := stays.once law.once
  head := stays.head law.head
  busy flies := stays.line.trans (law.busy (stays.flying ▸ flies))
  sending := by
    rw [stays.sending, stays.flying]
    exact law.sending

end DoorLine.FlightStays

/-! ### Operations of the queue -/

theorem DoorLine.setStation_stays (d : DoorLine) (a : Nat) (st : Station) : d.FlightStays (d.setStation a st) :=
  .of_queue rfl rfl rfl

theorem DoorLine.setPending_stays (d : DoorLine) (a : Nat) (flag : Bool) : d.FlightStays (d.setPending a flag) :=
  d.setStation_stays a _

/-- A waiting entry joins at the tail for a station that has none. -/
theorem DoorLine.append_stays {d : DoorLine} {a : Nat} (kind : EntryKind) (none : d.entryOf a = none) :
    d.FlightStays (d.append a kind) where
  line := rfl
  sending := rfl
  once nodup := by
    have other := (d.entryOf_eq_none_iff a).1 none
    simp only [DoorLine.append, List.map_append, List.map_cons, List.map_nil, List.nodup_append]
    refine ⟨nodup, by simp, fun x member y new => ?_⟩
    obtain ⟨e, listed, rfl⟩ := List.mem_map.1 member
    obtain rfl := List.mem_singleton.1 new
    exact other e listed
  head waits e listed := by
    cases queue : d.queue with
    | nil => simp [DoorLine.append, queue] at listed
    | cons x rest =>
      simp only [DoorLine.append, queue, List.cons_append, List.drop_succ_cons, List.drop_zero, List.mem_append,
        List.mem_singleton] at listed
      rcases listed with old | rfl
      · exact waits e (by simpa [queue] using old)
      · rfl
  flying := by simp [DoorLine.flying_isSome_eq_any, DoorLine.append]

/-- A change of the entries that keeps their addresses and flights. -/
theorem DoorLine.FlightStays.of_map (d : DoorLine) {f : OutEntry → OutEntry} (address : ∀ e, (f e).address = e.address)
    (flight : ∀ e, (f e).inFlight = e.inFlight) : d.FlightStays { d with queue := d.queue.map f } where
  line := rfl
  sending := rfl
  once nodup := by simpa [Function.comp_def, address] using nodup
  head waits e listed := by
    rw [← List.map_drop] at listed
    obtain ⟨x, old, rfl⟩ := List.mem_map.1 listed
    exact (flight x).trans (waits x old)
  flying := by simp [DoorLine.flying_isSome_eq_any, Function.comp_def, flight]

/-- Waiting entries leave. -/
theorem DoorLine.FlightStays.of_filter (d : DoorLine) {p : OutEntry → Bool} (waits : ∀ e, p e = false → e.inFlight = false) :
    d.FlightStays { d with queue := d.queue.filter p } where
  line := rfl
  sending := rfl
  once nodup := nodup.sublist (List.filter_sublist.map _)
  head := fun rest e listed => rest e ((List.filter_sublist.drop 1).subset listed)
  flying := by
    have kept (e : OutEntry) : (p e && e.inFlight) = e.inFlight := by
      cases stays : p e
      · simp [waits e stays]
      · rfl
    simp [DoorLine.flying_isSome_eq_any, List.any_filter, kept]

theorem DoorLine.requestOutputs_stays (d : DoorLine) (a : Nat) : d.FlightStays (d.requestOutputs a).1 := by
  unfold DoorLine.requestOutputs
  split
  · exact .refl d
  · split
    · split
      · exact d.setPending_stays a true
      · exact (DoorLine.FlightStays.of_map d (fun e => by split <;> rfl) (fun e => by split <;> rfl)).trans
          (DoorLine.setPending_stays _ a false)
    · rename_i none
      split
      · exact (DoorLine.append_stays .setOutputs none).trans (DoorLine.setPending_stays _ a false)
      · exact d.setPending_stays a true
  · exact d.setPending_stays a true

theorem DoorLine.requestQuery_stays (d : DoorLine) (a : Nat) : d.FlightStays (d.requestQuery a).1 := by
  unfold DoorLine.requestQuery
  split
  · exact .refl d
  · split
    · exact .refl d
    · rename_i none
      split
      · exact DoorLine.append_stays .query none
      · exact .refl d

theorem DoorLine.refillFrom_stays (l : List Nat) (d : DoorLine) : d.FlightStays (d.refillFrom l) := by
  induction l generalizing d with
  | nil => exact .refl d
  | cons a rest ih =>
    simp only [DoorLine.refillFrom]
    split
    · split
      · exact d.requestOutputs_stays a
      · exact (d.requestOutputs_stays a).trans (ih _)
    · exact ih d

theorem DoorLine.refill_stays (d : DoorLine) : d.FlightStays d.refill := d.refillFrom_stays addresses

theorem DoorLine.leave_stays (d : DoorLine) {p : OutEntry → Bool} (waits : ∀ e, p e = true → e.inFlight = false) :
    d.FlightStays (d.leave p) := by
  unfold DoorLine.leave
  split
  · exact (DoorLine.FlightStays.of_filter d fun e gone => waits e (by simpa using gone)).trans (DoorLine.refill_stays _)
  · exact .refl d

theorem DoorLine.disableEntry_stays (d : DoorLine) (a : Nat) : d.FlightStays (d.disableEntry a) :=
  (DoorLine.FlightStays.of_map d (fun e => by split <;> rfl) (fun e => by split <;> rfl)).trans
    (DoorLine.leave_stays _ fun e gone => by simp_all)

theorem DoorLine.probeFrom_stays (l : List Nat) (d : DoorLine) : d.FlightStays (d.probeFrom l) := by
  induction l generalizing d with
  | nil => exact .refl d
  | cons a rest ih =>
    simp only [DoorLine.probeFrom]
    split
    · split
      · exact d.requestQuery_stays a
      · exact (d.requestQuery_stays a).trans (ih _)
    · exact ih d

/-! ### Ends of a flight -/

/-- Nothing of the controller's is in flight. -/
structure DoorLine.Grounded (d : DoorLine) : Prop where
  sending : d.sending = none
  once : (d.queue.map (·.address)).Nodup
  flying : d.flying = none

theorem DoorLine.Grounded.law {d : DoorLine} (grounded : d.Grounded) : d.FlightLaw where
  once := grounded.once
  head e listed := (d.flying_eq_none_iff).1 grounded.flying e (List.mem_of_mem_drop listed)
  busy flies := by simp [grounded.flying] at flies
  sending := by simp [grounded.flying, grounded.sending]

theorem DoorLine.Grounded.stays {d d' : DoorLine} (grounded : d.Grounded) (stays : d.FlightStays d') : d'.Grounded where
  sending := stays.sending.trans grounded.sending
  once := stays.once grounded.once
  flying := by simpa [grounded.flying] using stays.flying

/-- What the line's state, the answer and the timers are is no matter to a controller with nothing in flight. -/
theorem DoorLine.Grounded.of_queue {d d' : DoorLine} (grounded : d.Grounded) (sending : d'.sending = d.sending)
    (queue : d'.queue = d.queue) : d'.Grounded where
  sending := sending.trans grounded.sending
  once := queue ▸ grounded.once
  flying := by simpa [DoorLine.flying, queue] using grounded.flying

theorem DoorLine.Grounded.law_of_queue {d d' : DoorLine} (grounded : d.Grounded) (sending : d'.sending = d.sending)
    (queue : d'.queue = d.queue) : d'.FlightLaw := (grounded.of_queue sending queue).law

theorem DoorLine.FlightLaw.grounded {d : DoorLine} (law : d.FlightLaw) (none : d.flying = none) : d.Grounded where
  sending := by simpa [none] using law.sending
  once := law.once
  flying := none

/-- A flight is under way on a BUSY line alone. -/
theorem DoorLine.FlightLaw.grounded_of_line {d : DoorLine} (law : d.FlightLaw) (line : d.line ≠ .busy) : d.Grounded :=
  law.grounded (Option.not_isSome_iff_eq_none.1 fun flies => line (law.busy flies))

theorem DoorLine.land_grounded {d : DoorLine} (once : (d.queue.map (·.address)).Nodup) : d.land.Grounded where
  sending := rfl
  once := by simpa [DoorLine.land, Function.comp_def] using once
  flying := by simp [DoorLine.flying_eq_none_iff, DoorLine.land]

theorem DoorLine.cleared_grounded (d : DoorLine) : d.cleared.Grounded := ⟨rfl, by simp [DoorLine.cleared], rfl⟩

/-- A flight that ends takes its entry from the queue (R86). -/
theorem DoorLine.endFlight_grounded {d : DoorLine} (once : (d.queue.map (·.address)).Nodup) : d.endFlight.Grounded := by
  unfold DoorLine.endFlight DoorLine.leave
  split
  · refine DoorLine.Grounded.stays ?_ (DoorLine.refill_stays _)
    exact ⟨rfl, once.sublist (List.filter_sublist.map _), by simp [DoorLine.flying_eq_none_iff]⟩
  · rename_i none
    exact ⟨rfl, once, by simpa [DoorLine.flying] using none⟩

end Sys2Proof.Machine
end

section
/-! SUPPORT. The operations of the part that ask for outbound entries: each leaves the flight under way as it is (R85, R145). -/

namespace Sys2Proof.Machine

/-- From p to q entries are asked for, merged, or leave while they wait: the flight under way stays. -/
def Part.FlightStays (p q : Part) : Prop := p.dl.FlightStays q.dl

namespace Part.FlightStays

theorem refl (p : Part) : p.FlightStays p := DoorLine.FlightStays.refl _

theorem trans {p q r : Part} (first : p.FlightStays q) (second : q.FlightStays r) : p.FlightStays r :=
  DoorLine.FlightStays.trans first second

theorem of_eq {p q : Part} (same : q.dl = p.dl) : p.FlightStays q := DoorLine.FlightStays.of_eq same

theorem setStation (s : Part) (a : Nat) (st : Station) : s.FlightStays (s.setStation a st) := s.dl.setStation_stays a st

theorem forEach {f : Part → Nat → Part} (stays : ∀ s n, Part.FlightStays s (f s n)) (l : List Nat) (s : Part) :
    s.FlightStays (s.forEach l f) := by
  induction l generalizing s with
  | nil => exact .refl _
  | cons x rest ih => exact (stays s x).trans (ih _)

end Part.FlightStays

theorem Part.outcome_stays {α : Type} (s : Part) (c : Checked α) {store : α → Part} (data : Part → List Byte)
    (stays : ∀ v, s.FlightStays (store v)) : s.FlightStays (s.outcome c store data).1 := by
  unfold Part.outcome
  split
  · exact .refl _
  · exact stays _

theorem Part.configWrite_stays (s : Part) {act : Part → Part × Verdict} (stays : s.FlightStays (act s).1) :
    s.FlightStays (s.configWrite act).1 := by
  unfold Part.configWrite unsavedIfDone
  split
  · exact .refl _
  · split <;> exact stays

/-! ### Outputs formed afresh (R145, R182) -/

theorem Part.formOutputs_stays (s : Part) (a : Nat) : s.FlightStays (s.formOutputs a) := by
  simp only [Part.formOutputs]
  split
  · exact .refl _
  · exact (s.dl.setStation_stays a _).trans (DoorLine.requestOutputs_stays _ a)

theorem Part.driveOutputs_stays (s : Part) (before : Budget) (queue : List Nat) :
    s.FlightStays (s.driveOutputs before queue) :=
  .forEach Part.formOutputs_stays _ { s with lb := if s.lb.image = before.image then s.lb else s.lb.refresh }

theorem Part.withTable_stays (s : Part) (lb : Budget) : s.FlightStays (s.withTable lb) :=
  (Part.driveOutputs_stays { s with lb := lb.allocate } s.lb lb.settle.1.queue).trans
    (.of_eq (Part.budgetCheck_keeps _).2.2.2.1)

theorem Part.pass_stays (s : Part) : s.FlightStays s.pass := s.withTable_stays s.lb

theorem Part.startEvent_stays (s : Part) : s.FlightStays s.startEvent :=
  Part.driveOutputs_stays { s with lb := s.lb.startEvent } s.lb s.lb.queue

theorem Part.takeChange_stays (s : Part) (c : Change) : s.FlightStays (s.takeChange c) := by
  simp only [Part.takeChange]
  split
  · exact s.withTable_stays _
  · exact .of_eq rfl

theorem Part.takeOldest_stays (s : Part) (c : Change) : s.FlightStays (s.takeOldest c) := by
  unfold Part.takeOldest
  split
  · rename_i d rest _
    exact Part.takeChange_stays { s with due := rest } d
  · exact .refl _

theorem Part.takeNth_stays (s : Part) (n : Nat) : s.FlightStays (s.takeNth n) := by
  unfold Part.takeNth
  split
  · exact s.takeOldest_stays _
  · exact s.pass_stays

theorem Part.handWindow_stays (s : Part) (limit : Option Nat) : s.FlightStays (s.handWindow limit) :=
  (Part.FlightStays.forEach (fun s _ => s.takeOldest_stays _) _ s).trans (Part.takeChange_stays _ _)

theorem Part.recomputeWindow_stays (s : Part) : s.FlightStays s.recomputeWindow := by
  simp only [Part.recomputeWindow]
  split
  · exact .of_eq rfl
  · refine .trans (.of_eq ?_) (Part.handWindow_stays _ _)
    rfl

theorem Part.withLimits_stays (s : Part) (lb : Budget) : s.FlightStays (s.withLimits lb) := by
  unfold Part.withLimits
  split
  · exact .of_eq rfl
  · exact Part.pass_stays { s with lb := lb }

theorem Part.enableLoads_stays (s : Part) (mask : BitVec 128) (set : Bool) : s.FlightStays (s.enableLoads mask set).1 := by
  simp only [Part.enableLoads]
  split
  · exact .refl _
  · exact s.withTable_stays _

theorem Part.storeAux_stays (s : Part) (i request urgency : Nat) : s.FlightStays (s.storeAux i request urgency) := by
  simp only [Part.storeAux]
  split
  · exact s.withTable_stays _
  · exact .refl _

/-! ### Curtain demands and evaluations (R118, R140 to R145) -/

theorem Part.setDemand_stays (s : Part) (a demand : Nat) (runOn : Option Nat) :
    s.FlightStays (s.setDemand a demand runOn) := by
  let demanded := s.setStation a { s.station a with demand := demand }
  have handed : demanded.FlightStays ((demanded.setRunOn a runOn).handCurtain a) := .of_eq (by simp)
  exact ((Part.FlightStays.setStation s a _).trans handed).trans (Part.formOutputs_stays _ a)

theorem Part.zeroDemand_stays (s : Part) (a : Nat) : s.FlightStays (s.zeroDemand a) := s.setDemand_stays a 0 none

theorem Part.computeCurtain_stays (s : Part) (a : Nat) : s.FlightStays (s.computeCurtain a) := s.setDemand_stays a _ _

theorem Part.evaluate_stays (s : Part) (z : Nat) : s.FlightStays (s.evaluate z) := by
  simp only [Part.evaluate]
  refine .trans (.trans (.of_eq ?_) (.forEach Part.computeCurtain_stays _ _)) (.of_eq (Part.setZone_dl _ _ _))
  simp

theorem Part.takeFreezeEdge_stays (s : Part) (c : Nat) (alarm : Bool) : s.FlightStays (s.takeFreezeEdge c alarm) :=
  .forEach (fun s z => .trans (.of_eq (Part.setFreezeGuard_keeps s z alarm).2.2.2.1) (Part.evaluate_stays _ z)) _ s

theorem Part.takeStageCount_stays (s : Part) (z : Nat) : s.FlightStays (s.takeStageCount z) := by
  simp only [Part.takeStageCount]
  exact .trans (.of_eq (Part.setZone_dl _ _ _)) (Part.evaluate_stays _ z)

theorem Part.loseCurtain_stays (s : Part) (a : Nat) : s.FlightStays (s.loseCurtain a) :=
  Part.formOutputs_stays (s.setCurtainHanded a false) a

theorem Part.tellZone_stays (before : Budget) (s : Part) (z : Nat) : s.FlightStays (Part.tellZone before s z) := by
  have heat : s.FlightStays (if before.count .heat z = s.lb.count .heat z then s else s.takeStageCount z) := by
    split
    · exact .refl _
    · exact s.takeStageCount_stays z
  simp only [Part.tellZone]
  generalize (if before.count .heat z = s.lb.count .heat z then s else s.takeStageCount z) = counted at heat ⊢
  split
  · exact heat.trans (.of_eq (Part.gainLight_keeps _ z).2.2.2.1)
  · split
    · exact heat.trans (.of_eq (Part.loseLight_keeps _ z).2.2.2.1)
    · exact heat

theorem Part.tellStation_stays (before : Budget) (s : Part) (a : Nat) : s.FlightStays (Part.tellStation before s a) := by
  unfold Part.tellStation
  split
  · exact .of_eq (Part.gainCurtain_keeps s a).2.2.2.1
  · split
    · exact s.loseCurtain_stays a
    · exact .refl _

theorem Part.tellOwners_stays (s : Part) (before : Budget) : s.FlightStays (s.tellOwners before) :=
  ((Part.FlightStays.forEach (Part.tellZone_stays before) _ s).trans (.forEach (Part.tellStation_stays before) _ _)).trans
    (.forEach (fun s g => .of_eq (Part.tellGroup_keeps before s g).2.2.2.1) _ _)

theorem Part.writeLoad_stays (s : Part) (i : Nat) (c : LoadConfig) : s.FlightStays (s.writeLoad i c) :=
  (s.withTable_stays _).trans (Part.tellOwners_stays _ _)

/-! ### Stations (R90 to R108) -/

theorem Part.judgeWatch_stays (s : Part) (a : Nat) : s.FlightStays (s.judgeWatch a) := by
  simp only [Part.judgeWatch]
  split
  · exact .trans (.setStation s a _) (.of_eq (Part.post_keeps _ _ _ _).2.2.2.1)
  · exact .refl _

theorem Part.changeDoor_stays (s : Part) (a : Nat) (door : DoorState) (docked : Bool) :
    s.FlightStays (s.changeDoor a door docked) := by
  simp only [Part.changeDoor]
  split
  · exact .refl _
  · refine .trans ?_ (Part.formOutputs_stays _ a)
    have moved := Part.FlightStays.setStation s a ((s.station a).moveDoor door docked s.clock.openedAt)
    split
    · exact (moved.trans (Part.judgeWatch_stays _ a)).trans (.of_eq (by simp))
    · exact moved.trans (.of_eq (by simp))

theorem Part.loseDoor_stays (s : Part) (a : Nat) : s.FlightStays (s.loseDoor a) := s.changeDoor_stays a _ _

theorem Part.postStationMove_stays (s : Part) (a : Nat) (old : StationState) (cause : StationCause) :
    s.FlightStays (s.postStationMove a old cause) := .of_eq (Part.postStationMove_keeps s a old cause).2.2.2.1

theorem Part.hear_stays (s : Part) (a : Nat) (cause : StationCause) : s.FlightStays (s.hear a cause) := by
  simp only [Part.hear]
  split
  · exact .setStation s a _
  · exact .trans (.setStation s a _) (Part.postStationMove_stays _ _ _ _)

theorem Part.silence_stays (s : Part) (a : Nat) (cause : StationCause) : s.FlightStays (s.silence a cause) := by
  simp only [Part.silence]
  split
  · exact .trans (.trans (.setStation s a _) (Part.postStationMove_stays _ _ _ _)) (Part.loseDoor_stays _ a)
  · exact .refl _

theorem Part.enableStation_stays (s : Part) (a : Nat) : s.FlightStays (s.enableStation a) :=
  (s.dl.setStation_stays a _).trans (DoorLine.requestQuery_stays _ a)

theorem Part.disableStation_stays (s : Part) (a : Nat) : s.FlightStays (s.disableStation a) := by
  have disabled : s.FlightStays
      { s.setStation a (s.station a).disabled with dl := (s.setStation a (s.station a).disabled).dl.disableEntry a } :=
    (s.dl.setStation_stays a (s.station a).disabled).trans (DoorLine.disableEntry_stays _ a)
  simp only [Part.disableStation]
  refine .trans ?_ (.trans (Part.loseDoor_stays _ a) (Part.zeroDemand_stays _ a))
  split
  · exact disabled.trans (Part.postStationMove_stays _ _ _ _)
  · exact disabled

theorem Part.clearStation_stays (s : Part) (a : Nat) : s.FlightStays (s.clearStation a) := by
  simp only [Part.clearStation]
  split
  · refine .trans ?_ (.trans (Part.loseDoor_stays _ a) (Part.zeroDemand_stays _ a))
    split
    · exact .trans (.setStation s a _) (Part.postStationMove_stays _ _ _ _)
    · exact .setStation s a _
  · exact .refl _

theorem Part.takeDoorByte_stays (s : Part) (a : Nat) (b : Byte) : s.FlightStays (s.takeDoorByte a b) := by
  simp only [Part.takeDoorByte]
  split <;> exact .trans (.setStation s a _) (Part.changeDoor_stays _ a _ _)

theorem Part.takeCondition_stays (s : Part) (a : Nat) (c : Byte) : s.FlightStays (s.takeCondition a c) := by
  simp only [Part.takeCondition]
  split
  · exact .setStation s a _
  · split
    · exact .setStation s a _
    · exact .trans (.setStation s a _) (.of_eq (Part.postStation_keeps _ _ _ _ _ _).2.2.2.1)

theorem Part.takeHello_stays (s : Part) (a : Nat) (kind revision : Byte) : s.FlightStays (s.takeHello a kind revision) := by
  simp only [Part.takeHello]
  split
  · exact .trans (.setStation s a _) (.of_eq (Part.postStation_keeps _ _ _ _ _ _).2.2.2.1)
  · exact .setStation s a _

theorem Part.takeLimit_stays (s : Part) (z limit : Nat) (mark : Bool) : s.FlightStays (s.takeLimit z limit mark) := by
  let limited := { s with dl := { s.dl with limits := Tab.put s.dl.limits z limit } }
  have held : s.FlightStays limited := DoorLine.FlightStays.of_queue rfl rfl rfl
  have judged := held.trans (.forEach Part.judgeWatch_stays (limited.dl.addressesOf z) limited)
  simp only [Part.takeLimit]
  split
  · exact judged.trans (DoorLine.FlightStays.of_queue rfl rfl rfl)
  · exact judged

theorem Part.doorSecond_stays (s : Part) : s.FlightStays s.doorSecond := by
  let older := { s with dl := { s.dl with stations := Tab.each s.dl.stations Station.tick } }
  have ticks : s.FlightStays older := DoorLine.FlightStays.of_queue rfl rfl rfl
  exact ticks.trans (.forEach Part.judgeWatch_stays addresses older)

theorem Part.moveStation_stays (s : Part) (a z : Nat) : s.FlightStays (s.moveStation a z) := by
  simp only [Part.moveStation]
  let moved := s.setStation a { s.station a with cfg := { (s.station a).cfg with zone := z } }
  have owed : moved.FlightStays (((moved.owe (.evaluate (s.station a).cfg.zone)).owe (.evaluate z)).oweGroups
      (s.zone (s.station a).cfg.zone).cfg.group (s.zone z).cfg.group) := .of_eq (by simp)
  exact ((Part.FlightStays.setStation s a _).trans owed).trans (Part.judgeWatch_stays _ a)

theorem Part.writeStation_stays (s : Part) (a : Nat) (enabled : Bool) (z : Nat) :
    s.FlightStays (s.writeStation a enabled z) := by
  simp only [Part.writeStation]
  split
  · split
    · split
      · exact .refl _
      · exact s.moveStation_stays a z
    · exact (s.disableStation_stays a).trans (.setStation _ a _)
  · split
    · exact .trans (.setStation s a _) (Part.enableStation_stays _ a)
    · exact .setStation s a _

theorem Part.takePhaseLimit_stays (s : Part) (z : Nat) : s.FlightStays (s.takePhaseLimit z) := by
  unfold Part.takePhaseLimit
  split
  · exact .trans (.of_eq (Part.settleDue_keeps s _).2.2.2.1) (Part.takeLimit_stays _ z _ _)
  · exact s.takeLimit_stays z _ _

/-! ### Frames of the stations (R95, R98 to R103) -/

theorem DoorLine.recordResult_stays (d : DoorLine) (address : Option Nat) (r : RxResult) :
    d.FlightStays (d.recordResult address r) := by
  have counted : d.FlightStays (if r = .accepted then d else { d with errors := satAdd 65535 d.errors 1 }) := by
    split
    · exact .refl _
    · exact .of_queue rfl rfl rfl
  simp only [DoorLine.recordResult]
  split
  · split
    · exact counted.trans (DoorLine.setStation_stays _ _ _)
    · exact counted
  · exact counted

theorem Part.takeAnswer_stays (s : Part) (a : Nat) (door : Byte) (condition : Option Byte) :
    s.FlightStays (s.takeAnswer a door condition) := by
  have heard := (s.hear_stays a .answer).trans (Part.takeDoorByte_stays _ a door)
  unfold Part.takeAnswer
  split
  · exact heard.trans (Part.takeCondition_stays _ a _)
  · exact heard

theorem Part.handFrame_stays (s : Part) (a : Nat) (f : StationFrame) : s.FlightStays (s.handFrame a f) := by
  cases f with
  | doorReport d => exact (s.hear_stays a .frame).trans (Part.takeDoorByte_stays _ a d)
  | hello t r d =>
    exact (s.takeHello_stays a t r).trans ((Part.hear_stays _ a .frame).trans (Part.takeDoorByte_stays _ a d))
  | presence m =>
    exact (s.hear_stays a .frame).trans (.trans (.setStation _ a _) (.of_eq (Part.takePresence_keeps _ _).2.2.2.1))
  | status d c =>
    exact (s.hear_stays a .frame).trans ((Part.takeDoorByte_stays _ a d).trans (Part.takeCondition_stays _ a c))

theorem Part.takeEarly_stays (s : Part) (e : Early) : s.FlightStays (s.takeEarly e) := by
  cases e with
  | evaluation z =>
    simp only [Part.takeEarly]
    split
    · exact .trans (.of_eq (Part.settleDue_keeps s _).2.2.2.1) (Part.evaluate_stays _ z)
    · exact .refl _
  | demand g =>
    simp only [Part.takeEarly]
    split <;> exact .of_eq (by simp)
  | pass n =>
    simp only [Part.takeEarly]
    split
    · exact s.takeNth_stays n
    · exact .refl _

theorem Part.takeEarlies_stay (early : List Early) (s : Part) : s.FlightStays (early.foldl Part.takeEarly s) := by
  induction early generalizing s with
  | nil => exact .refl _
  | cons e rest ih => exact (s.takeEarly_stays e).trans (ih _)

theorem Part.formAnswer_stays (s : Part) (a : Nat) : s.FlightStays (s.formAnswer a) :=
  DoorLine.FlightStays.of_queue rfl rfl rfl

theorem Part.acceptFrame_stays (s : Part) (a : Nat) (f : StationFrame) (early : List Early) :
    s.FlightStays (s.acceptFrame a f early) := by
  have recorded : s.FlightStays { s with dl := s.dl.recordResult (some a) .accepted } :=
    s.dl.recordResult_stays (some a) .accepted
  have handed := recorded.trans (Part.handFrame_stays _ a f)
  simp only [Part.acceptFrame]
  split
  · exact handed
  · exact handed.trans ((Part.takeEarlies_stay early _).trans (Part.formAnswer_stays _ a))

/-- The waiting SET_OUTPUTS that an answer made needless leaves, and outputs that have changed since ask for another (R103). -/
theorem Part.answerSent_stays (s : Part) : s.FlightStays s.answerSent := by
  simp only [Part.answerSent]
  split
  · exact .refl _
  · rename_i ans _
    have ended : s.dl.FlightStays { s.dl with answering := none } := .of_queue rfl rfl rfl
    have left := (ended.trans (DoorLine.setPending_stays _ ans.address false)).trans
      (DoorLine.leave_stays _ (p := fun e => decide (e.address = ans.address) && decide (e.kind = EntryKind.setOutputs) &&
        !e.inFlight) fun e gone => by simp_all)
    split
    · exact left
    · exact left.trans (DoorLine.requestOutputs_stays _ _)

end Sys2Proof.Machine
end

section
/-! SUPPORT. The law of the outbound queue under the events of the line (R68, R69, R74 to R83, R85 to R88): a flight starts on a
READY line, and whatever ends it leaves nothing of the controller's in flight. -/

namespace Sys2Proof.Machine

/-- The flight under way stays, and with it the law of the queue. -/
theorem Part.FlightStays.law {p q : Part} (stays : p.FlightStays q) (law : p.dl.FlightLaw) : q.dl.FlightLaw :=
  DoorLine.FlightStays.law stays law

theorem Part.FlightStays.grounded {p q : Part} (stays : p.FlightStays q) (grounded : p.dl.Grounded) : q.dl.Grounded :=
  DoorLine.Grounded.stays grounded stays

/-- With nothing of the controller's in flight, the line's state is free. -/
theorem Part.setLine_law {s : Part} (l : LineState) (grounded : s.dl.Grounded) : (s.setLine l).dl.FlightLaw :=
  grounded.law_of_queue rfl rfl

/-! ### Frames that start -/

/-- With nothing of the controller's in flight, the head entry takes off (R68). -/
theorem Part.startFrame_law {s : Part} (grounded : s.dl.Grounded) : s.startFrame.dl.FlightLaw := by
  unfold Part.startFrame
  split
  · exact grounded.law
  · rename_i e rest queue
    have once : ((e :: rest).map (·.address)).Nodup := queue ▸ grounded.once
    have waits : ∀ x ∈ rest, x.inFlight = false := fun x listed =>
      (s.dl.flying_eq_none_iff).1 grounded.flying x (queue ▸ List.mem_cons_of_mem e listed)
    dsimp only
    split <;> exact ⟨once, waits, fun _ => rfl, by simp [DoorLine.flying, DoorLine.setStation]⟩

theorem Part.beginFrame_law {s : Part} (law : s.dl.FlightLaw) : s.beginFrame.dl.FlightLaw := by
  unfold Part.beginFrame
  split
  · rename_i ready
    exact Part.startFrame_law (law.grounded_of_line (by simp [ready]))
  · exact law

theorem Part.drivingEdge_law {s : Part} (law : s.dl.FlightLaw) : s.drivingEdge.dl.FlightLaw := by
  unfold Part.drivingEdge
  split
  · rename_i ready
    have grounded := law.grounded_of_line (by simp [ready])
    split
    · exact Part.setLine_law .busy grounded
    · exact Part.startFrame_law grounded
  · exact law

/-! ### Flights that end -/

/-- A missing answer leaves nothing in flight, whichever becomes of the entry (R75, R86). -/
theorem Part.noAnswer_grounded {s : Part} (law : s.dl.FlightLaw) : s.noAnswer.dl.Grounded := by
  unfold Part.noAnswer
  split
  · rename_i none
    exact law.grounded none
  · rename_i e _
    split
    · exact DoorLine.endFlight_grounded law.once
    · dsimp only
      split
      · exact DoorLine.land_grounded (d := s.dl.setNoAnswers e.address _) law.once
      · exact (Part.silence_stays _ e.address .noAnswer).grounded
          (DoorLine.endFlight_grounded (d := s.dl.setNoAnswers e.address 0) law.once)

theorem Part.receiveAnswer_law {s : Part} (kind : EntryKind) (door : Byte) (condition : Option Byte) (check : Byte)
    (law : s.dl.FlightLaw) : (s.receiveAnswer kind door condition check).dl.FlightLaw := by
  unfold Part.receiveAnswer
  split
  · exact law
  · rename_i e _
    split
    · dsimp only
      split
      · exact (DoorLine.endFlight_grounded law.once).law
      · exact (DoorLine.endFlight_grounded ((s.takeAnswer_stays e.address door condition).law law).once).law
    · exact (Part.noAnswer_grounded law).law

theorem Part.answerEnded_law {s : Part} (r : Received) (law : s.dl.FlightLaw) : (s.answerEnded r).dl.FlightLaw := by
  unfold Part.answerEnded
  split
  · exact law
  · split
    · exact Part.receiveAnswer_law _ _ _ _ law
    · exact Part.receiveAnswer_law _ _ _ _ law
    · exact (Part.noAnswer_grounded law).law

theorem Part.loseArbitration_law {s : Part} (law : s.dl.FlightLaw) : s.loseArbitration.dl.FlightLaw :=
  (DoorLine.land_grounded law.once).law

/-! ### Frames of other nodes -/

/-- A frame of another node finds the controller with nothing in flight (R95). -/
theorem Part.frameArrives_law {s : Part} (law : s.dl.FlightLaw) : s.frameArrives.dl.FlightLaw := by
  unfold Part.frameArrives
  split
  · exact law
  · exact (Part.noAnswer_grounded law).law_of_queue rfl rfl

theorem Part.receiveFrame_law {s : Part} (address : Byte) (f : StationFrame) (early : List Early) (law : s.dl.FlightLaw) :
    (s.receiveFrame address f early).dl.FlightLaw := by
  unfold Part.receiveFrame
  split
  · exact law
  · dsimp only
    split
    · exact (s.frameArrives.dl.recordResult_stays (some address.toNat) .notAccepted).law (Part.frameArrives_law law)
    · exact (Part.acceptFrame_stays _ _ f early).law (Part.frameArrives_law law)

theorem Part.endReceived_law {s : Part} (r : Received) (law : s.dl.FlightLaw) : (s.endReceived r).dl.FlightLaw := by
  simp only [Part.endReceived]
  split
  · exact (Part.acceptFrame_stays _ _ _ []).law (Part.frameArrives_law law)
  · exact (DoorLine.recordResult_stays _ _ _).law (Part.frameArrives_law law)

/-- A driving edge leaves a line that carries a flight BUSY (R76). -/
theorem Part.edge_law {s : Part} (law : s.dl.FlightLaw) : (s.setLine s.dl.line.driven).dl.FlightLaw where
  once := law.once
  head := law.head
  busy flies := by simp [Part.setLine, law.busy flies, LineState.driven]
  sending := law.sending

theorem Part.frameEnded_law {s : Part} (r : Received) (law : s.dl.FlightLaw) : (s.frameEnded r).dl.FlightLaw := by
  unfold Part.frameEnded
  split
  · exact law
  · split
    · exact Part.edge_law law
    · exact Part.endReceived_law r law

/-! ### Line clears and line states -/

/-- A line clear empties the queue (R83). -/
theorem Part.lineClear_grounded (s : Part) : s.lineClear.dl.Grounded :=
  (Part.FlightStays.forEach Part.clearStation_stays addresses { s with dl := s.dl.cleared }).grounded
    s.dl.cleared_grounded

/-- A line clear with the state the line then has. -/
theorem Part.lineClear_setLine_law (s : Part) (l : LineState) : (s.lineClear.setLine l).dl.FlightLaw :=
  Part.setLine_law l s.lineClear_grounded

theorem Part.postLine_law {s : Part} (old : LineState) (law : s.dl.FlightLaw) : (s.postLine old).dl.FlightLaw := by
  rwa [(s.postLine_keeps old).2.2.2.1]

theorem Part.goStuck_law {s : Part} (law : s.dl.FlightLaw) : s.goStuck.dl.FlightLaw := by
  unfold Part.goStuck
  split
  · exact law
  · exact law
  · exact Part.postLine_law _ ((DoorLine.land_grounded law.once).law_of_queue rfl rfl)

theorem Part.goDead_law {s : Part} (law : s.dl.FlightLaw) : s.goDead.dl.FlightLaw := by
  unfold Part.goDead
  split
  · exact law
  · exact Part.postLine_law _ ((DoorLine.land_grounded law.once).law_of_queue rfl rfl)

theorem Part.releaseStuck_law {s : Part} (law : s.dl.FlightLaw) : s.releaseStuck.dl.FlightLaw := by
  unfold Part.releaseStuck
  split
  · exact Part.postLine_law _ (s.lineClear_setLine_law .ready)
  · exact law

theorem Part.probeDead_law {s : Part} (released echoed : Bool) (law : s.dl.FlightLaw) :
    (s.probeDead released echoed).dl.FlightLaw := by
  unfold Part.probeDead
  split
  · rename_i dead
    have grounded := law.grounded_of_line (by simp [dead])
    split
    · exact Part.postLine_law _ (grounded.law_of_queue rfl rfl)
    · exact grounded.law_of_queue rfl rfl
  · exact law

theorem Part.receiveClear_law {s : Part} (law : s.dl.FlightLaw) : s.receiveClear.dl.FlightLaw := by
  unfold Part.receiveClear
  split
  · exact s.lineClear_setLine_law .busy
  · exact s.lineClear_setLine_law .busy
  · exact s.lineClear_grounded.law
  · exact law
  · exact law

theorem Part.sendClear_law {s : Part} (law : s.dl.FlightLaw) : s.sendClear.1.dl.FlightLaw := by
  unfold Part.sendClear
  split
  · exact s.lineClear_setLine_law .clearing
  · exact s.lineClear_setLine_law .clearing
  · exact law
  · exact s.lineClear_grounded.law
  · exact law

theorem Part.comeToRest_law {s : Part} (law : s.dl.FlightLaw) : s.comeToRest.dl.FlightLaw :=
  (Part.noAnswer_grounded law).law_of_queue rfl rfl

theorem Part.restLine_law {s : Part} (law : s.dl.FlightLaw) : s.restLine.dl.FlightLaw := by
  unfold Part.restLine
  split
  · exact law
  · exact Part.comeToRest_law law
  · exact Part.comeToRest_law law
  · exact Part.releaseStuck_law law
  · exact law

/-! ### What the line carried -/

theorem Part.takeLineEvent_law {s : Part} (e : LineEvent) (law : s.dl.FlightLaw) : (s.takeLineEvent e).dl.FlightLaw := by
  cases e with
  | frame r => exact Part.frameEnded_law r law
  | answer r => exact Part.answerEnded_law r law
  | clear => exact Part.receiveClear_law law
  | stuck => exact Part.goStuck_law law
  | rest => exact Part.restLine_law law

theorem Part.takeLineEvents_law (events : List LineEvent) {s : Part} (law : s.dl.FlightLaw) :
    (events.foldl (fun p e => (p.takeLineEvent e).close) s).dl.FlightLaw := by
  induction events generalizing s with
  | nil => exact law
  | cons e rest ih => exact ih (Part.takeLineEvent_law e law)

theorem Part.receive_law {s : Part} (heard : Heard) (law : s.dl.FlightLaw) : (s.receive heard).dl.FlightLaw := by
  cases heard with
  | frame spans => exact Part.takeLineEvents_law (readFrame spans) law
  | answer spans =>
    simp only [Part.receive]
    split
    · exact law
    · exact Part.takeLineEvents_law (readAnswer spans) law

/-! ### Timers -/

theorem Part.probeCycle_stays (s : Part) : s.FlightStays s.probeCycle :=
  (s.dl.probeFrom_stays addresses).trans (.of_queue rfl rfl rfl)

theorem Part.second_stays (s : Part) : s.FlightStays s.second :=
  DoorLine.FlightStays.of_queue (d := s.dl) (d' := s.dl.second) rfl rfl rfl

theorem Part.silenceExpires_stays (s : Part) (a : Nat) : s.FlightStays (s.silenceExpires a) := by
  unfold Part.silenceExpires
  split
  · exact s.silence_stays a .silence
  · exact .refl s

theorem Part.runOnTimerExpires_stays (s : Part) (a : Nat) : s.FlightStays (s.runOnTimerExpires a) := by
  unfold Part.runOnTimerExpires
  split
  · exact s.zeroDemand_stays a
  · exact .refl s

theorem Part.spacingExpires_stays (s : Part) : s.FlightStays s.spacingExpires := by
  unfold Part.spacingExpires
  split
  · exact s.startEvent_stays
  · exact .refl s

theorem Part.minOnExpires_stays (s : Part) (i : Nat) : s.FlightStays (s.minOnExpires i) := by
  simp only [Part.minOnExpires]
  split
  · exact s.withTable_stays _
  · exact .refl s

theorem Part.minOffExpires_stays (s : Part) (i : Nat) : s.FlightStays (s.minOffExpires i) := by
  simp only [Part.minOffExpires]
  split
  · exact s.withTable_stays _
  · exact .refl s

theorem Part.capExpires_stays (s : Part) : s.FlightStays s.capExpires := by
  unfold Part.capExpires
  split
  · exact s.withTable_stays _
  · exact .refl s

/-! ### The clock and the starts -/

/-- A minute boundary and a set of the clock may hand the limit window, whose pass forms outputs afresh (R39, R40). -/
theorem Part.boundary_stays (s : Part) : s.FlightStays s.boundary := by
  simp only [Part.boundary]
  refine .trans (.of_eq ?_) (Part.recomputeWindow_stays _)
  (repeat' split) <;> simp

theorem Part.setClock_stays (s : Part) (m sec days : Nat) : s.FlightStays (s.setClock m sec days) := by
  have resolved : s.FlightStays ((({ s with clock := s.clock.set m sec days s.boardChannel }).resolveZones).handZones
      s.cal.zones false) := .of_eq (by simp)
  exact (resolved.trans (Part.recomputeWindow_stays _)).trans (.of_eq (by simp [Part.setClock]))

theorem Part.cycle_stays (s : Part) : s.FlightStays s.cycle := by
  simp only [Part.cycle]
  split
  · exact Part.boundary_stays { s with clock := s.clock.cycle s.boardChannel }
  · exact .of_eq rfl

/-- The crystal cycle that a clock is brought to (log 33). -/
theorem Part.timedCycle_stays (s : Part) (clock : Clock) : s.FlightStays ({ s with clock := clock }).cycle :=
  Part.cycle_stays { s with clock := clock }

/-- A start leaves an empty outbound queue (R89). -/
theorem Part.started_grounded (cfg : WorkingConfig) (clock : Clock) (link : Link) (relays : BitVec 64) (pins : Vector Nat 12) :
    (Part.started cfg clock link relays pins).dl.Grounded := ⟨rfl, .nil, rfl⟩

theorem Part.powerUp_law (s : Part) (straps : BitVec 2) (storeReads : Bool) : (s.powerUp straps storeReads).dl.FlightLaw :=
  (Part.started_grounded _ _ _ _ _).law

theorem Part.restarted_law (s : Part) : s.restarted.dl.FlightLaw := by
  have law := fun link => (Part.started_grounded s.working s.clock link s.lb.relays s.lb.dimPins).law
  simp only [Part.restarted]
  split
  · exact Part.postLine_law _ (law _)
  · exact Part.postLine_law _ (law _)
  all_goals exact law _

theorem Part.takeRestart_law {s : Part} (law : s.dl.FlightLaw) : s.takeRestart.dl.FlightLaw := by
  unfold Part.takeRestart
  split
  · exact s.restarted_law
  · exact law

end Sys2Proof.Machine
end

section
/-! SUPPORT. The law of the outbound queue under every command and every step: requests are taken from the link port one after
another, and each owner's work keeps the law (R85 to R88, R188). Settles O25. -/

namespace Sys2Proof.Machine

/-! ### Laws that requests keep -/

/-- A law of the part that reads nothing of the link port and that every owner's work on a request keeps. -/
structure KeptByRequests (law : Part → Prop) : Prop where
  link : ∀ (s : Part) (l : Link), law s → law { s with link := l }
  serve : ∀ (i : Instr) (s : Part), law s → law (s.serve i).1

namespace KeptByRequests

variable {law : Part → Prop} (kept : KeptByRequests law)
include kept

theorem configWrite {s : Part} {act : Part → Part × Verdict} (holds : law s) (keeps : law (act s).1) :
    law (s.configWrite act).1 := by
  unfold Part.configWrite unsavedIfDone
  split
  · exact holds
  · split
    · exact kept.link _ _ keeps
    · exact keeps

theorem actOn (d : Decoded) {s : Part} (holds : law s) : law (s.actOn d).1 := by
  cases d with
  | request i => exact kept.serve i s holds
  | refuse code field => exact holds
  | refuseWrite code field => exact kept.configWrite holds holds

theorem settle (tag kind : Byte) {r : Part × Verdict} (holds : law r.1) : law (Part.settle tag kind r) := by
  unfold Part.settle
  split <;> exact kept.link _ _ holds

theorem take {s : Part} (tag kind : Byte) {act : Part → Part × Verdict} (keeps : ∀ p, law p → law (act p).1)
    (holds : law s) : law (s.take tag kind act) :=
  kept.settle tag kind (keeps _ (kept.link s _ holds))

theorem pumpFrom (bodies : List (List Byte)) {s : Part} (holds : law s) : law (Part.pumpFrom bodies s) := by
  induction bodies generalizing s with
  | nil => exact kept.link s _ holds
  | cons body rest ih =>
    unfold Part.pumpFrom
    split
    · exact kept.link s _ holds
    · exact ih (kept.take _ _ (fun _ => kept.actOn _) (kept.link s _ holds))

theorem receiveBody {s : Part} (body : List Byte) (holds : law s) : law (s.receiveBody body) :=
  kept.pumpFrom _ (kept.link s _ holds)

theorem receiveByte {s : Part} (b : Byte) (holds : law s) : law (s.receiveByte b) := by
  simp only [Part.receiveByte]
  split
  · exact kept.receiveBody _ (kept.link s _ holds)
  · exact kept.link s _ holds

theorem receiveBytes (bytes : List Byte) {s : Part} (holds : law s) : law (bytes.foldl Part.receiveByte s) := by
  induction bytes generalizing s with
  | nil => exact holds
  | cons b rest ih => exact ih (kept.receiveByte b holds)

theorem request {s : Part} (i : Instr) (tag kind : Byte) (holds : law s) :
    law (s.request i tag kind (Part.serve i)) := by
  unfold Part.request
  split
  · exact kept.take tag kind (kept.serve i) holds
  · exact kept.receiveBody _ holds

theorem frameSent (restarts : ∀ s : Part, law s → law s.restarted) {s : Part} (holds : law s) : law s.frameSent := by
  unfold Part.frameSent
  split
  · exact restarts s holds
  · exact kept.pumpFrom _ (kept.link s _ holds)

end KeptByRequests

/-! ### Owners' work -/

theorem Part.writeZone_stays (s : Part) (z : Nat) (cfg : ZoneConfig) : s.FlightStays (s.writeZone z cfg) := by
  simp only [Part.writeZone]
  refine .trans (.of_eq ?_) (Part.evaluate_stays _ z)
  (repeat' split) <;> simp

/-- The requests whose owners may ask for outbound entries leave the flight as it is; LINE_RESET clears the line (R81). -/
theorem Part.serve_law (i : Instr) (s : Part) (law : s.dl.FlightLaw) : (s.serve i).1.dl.FlightLaw := by
  cases i
  case setClock _ m sec days => exact (Part.setClock_stays s _ _ _).law law
  case zoneWriteOne _ z f =>
    exact (s.configWrite_stays (s.outcome_stays _ _ fun cfg => s.writeZone_stays z.toNat cfg)).law law
  case stationWriteOne _ a e z =>
    exact (s.configWrite_stays (s.outcome_stays _ _ fun _ => s.writeStation_stays a.toNat _ z.toNat)).law law
  case stationWriteMaskEnable _ m => exact (s.configWrite_stays (.forEach Part.enableStation_stays _ s)).law law
  case stationWriteMaskDisable _ m => exact (s.configWrite_stays (.forEach Part.disableStation_stays _ s)).law law
  case stationWriteTimeout _ h => exact (s.configWrite_stays (DoorLine.FlightStays.of_queue rfl rfl rfl)).law law
  case lineReset => exact Part.sendClear_law law
  case loadWrite _ n f =>
    exact (s.configWrite_stays (s.outcome_stays _ _ fun c => s.writeLoad_stays n.toNat c)).law law
  case loadEnableSet _ m => exact (s.configWrite_stays (s.enableLoads_stays m true)).law law
  case loadEnableClear _ m => exact (s.configWrite_stays (s.enableLoads_stays m false)).law law
  case auxRequest _ n r u => exact (s.outcome_stays _ _ fun v : Nat × Nat => s.storeAux_stays n.toNat v.1 v.2).law law
  case limitWrite _ b sp => exact (s.configWrite_stays (s.withLimits_stays _)).law law
  case limitCapSet _ v m => exact (s.withLimits_stays _).law law
  case limitCapCancel => exact (s.withLimits_stays _).law law
  all_goals exact (Part.FlightStays.of_eq (p := s) (by simp [Part.serve])).law law

/-- The law of the outbound queue stands through requests, whatever bodies the link port holds. -/
theorem flightLaw_keptByRequests : KeptByRequests fun p => p.dl.FlightLaw where
  link _ _ law := law
  serve := Part.serve_law

/-! ### Every command -/

/-- A command that acts keeps the law as its operation does. -/
theorem DoorLine.FlightLaw.of_act {s t : State} {f : Part → Part} (h : s.act f = .next t)
    (keeps : ∀ p : Part, p.dl.FlightLaw → (f p).dl.FlightLaw) (law : s.part.dl.FlightLaw) : t.part.dl.FlightLaw := by
  rcases State.act_cases h with ⟨-, rfl⟩ | ⟨-, rfl⟩
  · exact law
  · exact keeps s.part law

/-- An operation that leaves the flight as it is, where its operand is in range. -/
theorem Part.FlightStays.law_ite {p q : Part} {c : Prop} [Decidable c] (stays : p.FlightStays q) (law : p.dl.FlightLaw) :
    (if c then q else p).dl.FlightLaw := by
  split
  · exact stays.law law
  · exact law

theorem exec_keeps_flightLaw {c : Instr} {s t : State} (h : exec c s = .next t) (law : s.part.dl.FlightLaw) :
    t.part.dl.FlightLaw := by
  cases request : inCatalogue c
  case true =>
    rw [exec_request c s request] at h
    exact .of_act h (fun p => flightLaw_keptByRequests.request c _ _) law
  case false =>
    cases c <;> simp [inCatalogue, encodeRequest] at request
    case powerOn straps reads =>
      rw [exec_powerOn] at h
      cases h
      exact s.part.powerUp_law straps reads
    case resetAsserted =>
      rw [exec_resetAsserted] at h
      cases h
      exact law
    case linkFrameReceived length body high low =>
      exact .of_act ((exec_linkFrameReceived length body high low s).symm.trans h)
        (fun p => flightLaw_keptByRequests.receiveBytes _) law
    case linkByteReceived byte =>
      exact .of_act ((exec_linkByteReceived byte s).symm.trans h) (fun p => flightLaw_keptByRequests.receiveByte byte) law
    case requestUnknownKind kind tag fields =>
      exact .of_act ((exec_requestUnknownKind kind tag fields s).symm.trans h)
        (fun p => flightLaw_keptByRequests.receiveBody _) law
    case linkFrameSent =>
      exact .of_act ((exec_linkFrameSent s).symm.trans h)
        (fun p => flightLaw_keptByRequests.frameSent fun p _ => p.restarted_law) law
    case restartEffect => exact .of_act ((exec_restartEffect s).symm.trans h) (fun _ => Part.takeRestart_law) law
    case crystalCycle => exact .of_act ((exec_crystalCycle s).symm.trans h) (fun p => p.cycle_stays.law) law
    case correctionCycle => exact .of_act ((exec_correctionCycle s).symm.trans h) (fun p => p.cycle_stays.law) law
    case quarterSecondMark =>
      exact .of_act ((exec_quarterSecondMark s).symm.trans h) (fun p => (p.timedCycle_stays _).law) law
    case minuteBoundary =>
      exact .of_act ((exec_minuteBoundary s).symm.trans h) (fun p => (p.timedCycle_stays _).law) law
    case zoneEvaluation zone =>
      exact .of_act ((exec_zoneEvaluation zone s).symm.trans h) (fun p =>
        Part.FlightStays.law_ite (.trans (.of_eq (p.settleDue_keeps _).2.2.2.1) (Part.evaluate_stays _ zone))) law
    case evaluationTimerExpiry zone =>
      exact .of_act ((exec_evaluationTimerExpiry zone s).symm.trans h) (fun p => (p.evaluate_stays zone).law_ite) law
    case freezeGuardEdge channel alarm =>
      exact .of_act ((exec_freezeGuardEdge channel alarm s).symm.trans h) (fun p =>
        Part.FlightStays.law_ite
          (.trans (.of_eq (p.settleDue_keeps _).2.2.2.1) (Part.takeFreezeEdge_stays _ channel alarm))) law
    case runOnExpiry a =>
      exact .of_act ((exec_runOnExpiry a s).symm.trans h) (fun p => (p.runOnTimerExpires_stays a).law_ite) law
    case silenceTimerExpiry a =>
      exact .of_act ((exec_silenceTimerExpiry a s).symm.trans h) (fun p => (p.silenceExpires_stays a).law_ite) law
    case probeTimerExpiry => exact .of_act ((exec_probeTimerExpiry s).symm.trans h) (fun p => p.probeCycle_stays.law) law
    case doorSecondTick => exact .of_act ((exec_doorSecondTick s).symm.trans h) (fun p => p.doorSecond_stays.law) law
    case phaseHandoffDoorLine zone =>
      exact .of_act ((exec_phaseHandoffDoorLine zone s).symm.trans h) (fun p => (p.takePhaseLimit_stays zone).law_ite) law
    case allocationPass n => exact .of_act ((exec_allocationPass n s).symm.trans h) (fun p => (p.takeNth_stays n).law) law
    case spacingTimerExpiry =>
      exact .of_act ((exec_spacingTimerExpiry s).symm.trans h) (fun p => p.spacingExpires_stays.law) law
    case minOnExpiry i =>
      exact .of_act ((exec_minOnExpiry i s).symm.trans h) (fun p => (p.minOnExpires_stays i).law_ite) law
    case minOffExpiry i =>
      exact .of_act ((exec_minOffExpiry i s).symm.trans h) (fun p => (p.minOffExpires_stays i).law_ite) law
    case capExpiry => exact .of_act ((exec_capExpiry s).symm.trans h) (fun p => p.capExpires_stays.law) law
    case frameStart => exact .of_act ((exec_frameStart s).symm.trans h) (fun _ => Part.beginFrame_law) law
    case drivingEdge => exact .of_act ((exec_drivingEdge s).symm.trans h) (fun _ => Part.drivingEdge_law) law
    case arbitrationLost => exact .of_act ((exec_arbitrationLost s).symm.trans h) (fun _ => Part.loseArbitration_law) law
    case doorReport a d early =>
      exact .of_act ((exec_doorReport a d early s).symm.trans h) (fun _ => Part.receiveFrame_law a _ early) law
    case hello a k r d early =>
      exact .of_act ((exec_hello a k r d early s).symm.trans h) (fun _ => Part.receiveFrame_law a _ early) law
    case statusReport a d c early =>
      exact .of_act ((exec_statusReport a d c early s).symm.trans h) (fun _ => Part.receiveFrame_law a _ early) law
    case presenceReport a m =>
      exact .of_act ((exec_presenceReport a m s).symm.trans h) (fun _ => Part.receiveFrame_law a _ []) law
    case stationFrameRejected heard =>
      exact .of_act ((exec_stationFrameRejected heard s).symm.trans h) (fun _ => Part.receive_law heard) law
    case answerSent => exact .of_act ((exec_answerSent s).symm.trans h) (fun p => p.answerSent_stays.law) law
    case queryAnswer d c k =>
      exact .of_act ((exec_queryAnswer d c k s).symm.trans h) (fun _ => Part.receiveAnswer_law _ d (some c) k) law
    case setOutputsAnswer d k =>
      exact .of_act ((exec_setOutputsAnswer d k s).symm.trans h) (fun _ => Part.receiveAnswer_law _ d none k) law
    case noAnswer =>
      exact .of_act ((exec_noAnswer s).symm.trans h) (fun _ law => (Part.noAnswer_grounded law).law) law
    case lineRest => exact .of_act ((exec_lineRest s).symm.trans h) (fun _ => Part.restLine_law) law
    case lineClearReceived => exact .of_act ((exec_lineClearReceived s).symm.trans h) (fun _ => Part.receiveClear_law) law
    case lineStuck => exact .of_act ((exec_lineStuck s).symm.trans h) (fun _ => Part.goStuck_law) law
    case stuckRelease => exact .of_act ((exec_stuckRelease s).symm.trans h) (fun _ => Part.releaseStuck_law) law
    case lineDead => exact .of_act ((exec_lineDead s).symm.trans h) (fun _ => Part.goDead_law) law
    case deadProbe released echoed =>
      exact .of_act ((exec_deadProbe released echoed s).symm.trans h) (fun _ => Part.probeDead_law released echoed) law
    all_goals
      simp only [exec_linkGapTimeout, exec_saveComplete, exec_presenceTimerExpiry, exec_scanTimerExpiry,
        exec_fastScanTimerExpiry, exec_conversionComplete, exec_validAgeSecond, exec_gasConversion, exec_holdCheck,
        exec_groupDemandCompute, exec_outputRefreshLatch, exec_periodicRefresh, exec_dimPeriodStart] at h
      exact .of_act h (fun p => (Part.FlightStays.of_eq (by simp [apply_ite Part.dl])).law) law

theorem State.idle_keeps_flightLaw {s : State} (law : s.part.dl.FlightLaw) : s.idle.part.dl.FlightLaw := by
  unfold State.idle
  split
  · exact s.part.second_stays.law law
  · exact law

/-- Settles O25: every command keeps the law, and so does the second that passes on an empty queue of commands. -/
theorem everyStepKeepsTheFlightLaw : Obligations.EveryStepKeepsTheFlightLaw := by
  intro s t h law
  cases front : s.pending with
  | nil =>
    rw [step_of_empty front] at h
    cases h
    exact State.idle_keeps_flightLaw law
  | cons c rest =>
    rw [step_of_front front] at h
    exact exec_keeps_flightLaw (s := { s with pending := rest }) h law

end Sys2Proof.Machine
end

section
/-! SUPPORT. The records of the stations under a write, what work inside the door line controller moves, and the states of the
line (R68, R69, R76 to R80). Settles O55. -/

namespace Sys2Proof.Machine

/-! ### Records of the stations -/

theorem DoorLine.station_setStation_same (d : DoorLine) {a : Nat} (st : Station) (low : 1 ≤ a) (high : a ≤ 48) :
    (d.setStation a st).station a = st :=
  Tab.get_put_same d.stations (a - 1) st (by omega)

theorem DoorLine.station_setStation_other (d : DoorLine) {a b : Nat} (st : Station) (ha : 1 ≤ a) (hb : 1 ≤ b)
    (other : b ≠ a) : (d.setStation a st).station b = d.station b :=
  Tab.get_put_other d.stations (a - 1) (b - 1) st (by omega)

/-! ### Work inside the controller -/

/-- Work inside the door line controller moves it alone. -/
theorem ChangesOnly.of_dl (p : Part) (dl : DoorLine) : ChangesOnly [.doorLine] p { p with dl := dl } :=
  fun piece other => by cases piece <;> simp_all [Piece.Same]

/-- A LINE notice tells the old state, the new one and the error count (R79). -/
theorem Part.postLine_posts (p s : Part) (link : s.link = p.link) (old : LineState) :
    Posts (lineTold old s.dl.line s.dl.errors) p (s.postLine old) :=
  .of_link link (Posts.post s .line 0 _)

/-- A change of the line's state posted: the controller as it then stands, LED_LINE, the notice, and nothing else. -/
theorem Ends.of_postLine {c : Instr} {s : State} {f : Part → Part} {dl : DoorLine} {old : LineState} {lit : Bool}
    {ws : List Posting} (hc : exec c s = s.act f) (runs : s.part.running = true)
    (posts : f s.part = ({ s.part with dl := dl }).postLine old)
    (led : (decide (dl.line = .stuck) || decide (dl.line = .dead)) = lit) (tells : lineTold old dl.line dl.errors = ws) :
    Ends c s fun q =>
      q.dl = dl ∧ q.ledLine = lit ∧ Posts ws s.part q ∧ ChangesOnly [.doorLine, .notices] s.part q := by
  refine .of_act hc runs ?_
  rw [posts]
  refine ⟨by simp, by simp [Part.ledLine, runs, led], ?_, ?_⟩
  · rw [← tells]
    exact (Part.postLine_posts s.part { s.part with dl := dl } rfl old).closed
  · exact ((ChangesOnly.of_dl s.part dl).trans (ChangesOnly.post _ _ _ _)).closed

/-! ### Frames of the controller (R68) -/

theorem Part.startFrame_of_empty {s : Part} (queue : s.dl.queue = []) : s.startFrame = s := by
  simp [Part.startFrame, queue]

theorem Part.startFrame_of_query {s : Part} {e : OutEntry} {rest : List OutEntry} (queue : s.dl.queue = e :: rest)
    (kind : e.kind = .query) :
    s.startFrame =
      { s with
        dl :=
          { s.dl with
            queue := { e with inFlight := true, orphan := false } :: rest, line := .busy
            sending := some (frameBytes 0x64 e.address []) } } := by
  simp [Part.startFrame, queue, kind]

theorem Part.startFrame_of_setOutputs {s : Part} {e : OutEntry} {rest : List OutEntry} (queue : s.dl.queue = e :: rest)
    (kind : e.kind = .setOutputs) :
    s.startFrame =
      { s with
        dl :=
          { s.dl.setStation e.address
              { s.station e.address with pending := false, lastFormed := s.formedOutputs e.address } with
            queue := { e with inFlight := true, orphan := false } :: rest, line := .busy
            sending := some (frameBytes 0x83 e.address [(s.formedOutputs e.address).byte]) } } := by
  simp [Part.startFrame, queue, kind, DoorLine.setStation]

/-- On a READY line with an entry that waits, FRAME_START and DRIVING_EDGE start its frame alike (R68, R76). -/
theorem exec_starts {i : Instr} {s : State} (row : i ∈ [Instr.frameStart, .drivingEdge]) :
    ∃ f, exec i s = s.act f ∧ (s.part.dl.line ≠ .ready → f s.part = s.part) ∧
      (s.part.dl.line = .ready → s.part.dl.queue ≠ [] → f s.part = s.part.startFrame) := by
  simp only [List.mem_cons, List.not_mem_nil, or_false] at row
  obtain rfl | rfl := row
  · exact ⟨_, exec_frameStart s, fun other => if_neg other, fun ready _ => if_pos ready⟩
  · exact ⟨_, exec_drivingEdge s, fun other => if_neg other, fun ready waits => by simp [Part.drivingEdge, ready, waits]⟩

/-! ### Flights that a rest ends (R75) -/

theorem DoorLine.land_flying (d : DoorLine) : d.land.flying = none := by
  simp [DoorLine.flying_eq_none_iff, DoorLine.land]

theorem DoorLine.endFlight_flying (d : DoorLine) : d.endFlight.flying = none := by
  unfold DoorLine.endFlight DoorLine.leave
  split
  · refine Option.not_isSome_iff_eq_none.1 fun flies => ?_
    rw [(DoorLine.refill_stays _).flying] at flies
    simp [DoorLine.flying_isSome_eq_any] at flies
  · rename_i none
    simpa [DoorLine.flying] using none

theorem DoorLine.endFlight_sending (d : DoorLine) : d.endFlight.sending = none := by
  unfold DoorLine.endFlight DoorLine.leave
  split
  · exact (DoorLine.refill_stays _).sending
  · rfl

/-- A missing answer takes the frame being sent off the line, and its entry out of flight. -/
theorem Part.noAnswer_ends {s : Part} (flies : s.dl.flying.isSome = true) :
    s.noAnswer.dl.flying = none ∧ s.noAnswer.dl.sending = none := by
  unfold Part.noAnswer
  split
  · simp_all
  · rename_i e _
    split
    · exact ⟨s.dl.endFlight_flying, s.dl.endFlight_sending⟩
    · dsimp only
      split
      · exact ⟨DoorLine.land_flying _, rfl⟩
      · obtain ⟨-, sending, -, -, flying⟩ :=
          Part.silence_stays { s with dl := (s.dl.setNoAnswers e.address 0).endFlight } e.address .noAnswer
        rw [DoorLine.endFlight_flying] at flying
        exact ⟨by simpa using flying, sending.trans (DoorLine.endFlight_sending _)⟩

theorem Part.noAnswer_of_grounded {s : Part} (none : s.dl.flying = none) : s.noAnswer = s := by
  simp [Part.noAnswer, none]

/-- LINE_REST on a BUSY or CLEARING line. -/
theorem Part.restLine_of_line {s : Part} (line : s.dl.line = .busy ∨ s.dl.line = .clearing) : s.restLine = s.comeToRest := by
  rcases line with busy | clearing
  · simp [Part.restLine, busy]
  · simp [Part.restLine, clearing]

/-! ### STUCK and DEAD (R77, R78) -/

/-- The line abandoned: what is sent or formed is dropped, and an entry in flight waits again (R69, R77, R78). -/
theorem Part.goStuck_of_line {s : Part} (stuck : s.dl.line ≠ .stuck) (dead : s.dl.line ≠ .dead) :
    s.goStuck = ({ s with dl := { s.dl.land with answering := none, line := .stuck } }).postLine s.dl.line.driven := by
  unfold Part.goStuck
  split
  · rename_i line
    exact absurd line stuck
  · rename_i line
    exact absurd line dead
  · rfl

theorem Part.goStuck_of_stays {s : Part} (line : s.dl.line = .stuck ∨ s.dl.line = .dead) : s.goStuck = s := by
  rcases line with stuck | dead
  · simp [Part.goStuck, stuck]
  · simp [Part.goStuck, dead]

theorem LineState.driven_eq (l : LineState) : l.driven = if l = .ready then .busy else l := by cases l <;> rfl

/-- Settles O55: row by row, with the state of the line before it. -/
theorem theLineMovesBetweenItsStates : Obligations.TheLineMovesBetweenItsStates := by
  intro s runs
  dsimp only
  refine ⟨fun i row => ?_, fun ready empty => ?_, ?_, fun line => ?_, fun line none => ?_, fun line flies => ?_,
    fun line => ?_, fun stuck dead => ?_, fun dead => ?_, fun alive => ?_, fun released echoed => ?_⟩
  · obtain ⟨f, acts, aside, starts⟩ := exec_starts (s := s) row
    refine ⟨fun other => .of_act acts runs (aside other), fun e rest ready queue kind => ?_,
      fun e rest ready queue kind low high => ?_⟩
    · exact .of_act acts runs ((starts ready (by simp [queue])).trans (Part.startFrame_of_query queue kind))
    · refine .of_act acts runs ?_
      rw [starts ready (by simp [queue]), Part.startFrame_of_setOutputs queue kind]
      exact ⟨rfl, rfl, rfl, s.part.dl.station_setStation_same _ low high,
        fun b hb _ other => s.part.dl.station_setStation_other _ low hb other, (ChangesOnly.of_dl _ _).closed⟩
  · refine ⟨.of_act (exec_frameStart s) runs ?_, .of_act (exec_drivingEdge s) runs ?_⟩
    · rw [Part.beginFrame, if_pos ready, Part.startFrame_of_empty empty]
    · simp [Part.drivingEdge, ready, empty, Part.setLine]
  · exact .of_act (exec_arbitrationLost s) runs rfl
  · refine .of_act (exec_lineRest s) runs ?_
    rcases line with ready | dead
    · simp [Part.restLine, ready]
    · simp [Part.restLine, dead]
  · refine .of_act (exec_lineRest s) runs ?_
    rw [Part.restLine_of_line line, Part.comeToRest, Part.noAnswer_of_grounded none]
  · refine .of_act (exec_lineRest s) runs ?_
    obtain ⟨flying, sending⟩ := Part.noAnswer_ends flies
    rw [Part.restLine_of_line line]
    exact ⟨rfl, rfl, sending, (DoorLine.flying_eq_none_iff _).1 flying⟩
  · exact .of_act (exec_lineStuck s) runs (Part.goStuck_of_stays line)
  · exact .of_postLine (exec_lineStuck s) runs (Part.goStuck_of_line stuck dead) rfl (by rw [LineState.driven_eq])
  · exact .of_act (exec_lineDead s) runs (if_pos dead)
  · exact .of_postLine (exec_lineDead s) runs (if_neg alive) rfl rfl
  · refine ⟨fun alive => .of_act (exec_deadProbe _ _ s) runs (if_neg alive), fun dead free heard => ?_, fun dead silent => ?_⟩
    · exact .of_postLine (exec_deadProbe _ _ s) runs (by simp [Part.probeDead, dead, free, heard]) rfl rfl
    · refine .of_act (exec_deadProbe _ _ s) runs ?_
      have unheard : (released && echoed) = false := by
        rcases silent with rfl | rfl
        · rfl
        · exact Bool.and_false _
      simp [Part.probeDead, dead, unheard, Config.deadProbePeriod]

end Sys2Proof.Machine
end

section
/-! SUPPORT. Changes of a door: what becomes of the record, and what they post (R104, R107, R110). -/

namespace Sys2Proof.Machine

/-! ### Records written twice -/

theorem DoorLine.setStation_setStation (d : DoorLine) (a : Nat) (x y : Station) :
    (d.setStation a x).setStation a y = d.setStation a y := by
  simp [DoorLine.setStation, Tab.put]

theorem DoorLine.setStation_self (d : DoorLine) (a : Nat) : d.setStation a (d.station a) = d := by
  simp only [DoorLine.setStation, DoorLine.station, Tab.put_get]

theorem Part.station_setStation_same (s : Part) {a : Nat} (st : Station) (low : 1 ≤ a) (high : a ≤ 48) :
    (s.setStation a st).station a = st := s.dl.station_setStation_same st low high

theorem Part.station_of_dl {p q : Part} (same : q.dl = p.dl) (a : Nat) : q.station a = p.station a :=
  congrArg (·.station a) same

theorem isAddress_of {a : Nat} (low : 1 ≤ a) (high : a ≤ 48) : isAddress a = true := by simp [isAddress, low, high]

/-! ### The open watch (R107) -/

theorem Station.overLimit_iff {st : Station} {w minutes : Nat} (watch : st.watch = some w) :
    st.overLimit minutes = true ↔ minutes * 60 ≤ w ∧ st.limitSent = false := by
  simp [Station.overLimit, watch]

/-- A judgement of an open watch posts DOOR_OPEN_LONG where the watch has reached its limit. -/
theorem Part.judgeWatch_posts (s : Part) (a : Nat) {st : Station} (record : s.station a = st) :
    Posts (longTold a st.watch st.limitSent st.cfg.zone (s.dl.limit st.cfg.zone)) s (s.judgeWatch a) := by
  subst record
  unfold longTold
  split
  · rename_i w watch
    have reached := Station.overLimit_iff (minutes := s.dl.limit (s.station a).cfg.zone) watch
    unfold Part.judgeWatch told
    dsimp only
    by_cases long : s.dl.limit (s.station a).cfg.zone * 60 ≤ w ∧ (s.station a).limitSent = false
    · rw [if_pos long, if_pos (reached.2 long)]
      simp only [watch]
      exact Posts.of_link (p' := s.setStation a _) rfl (Posts.post _ .doorOpenLong a _)
    · rw [if_neg long, if_neg (reached.not.2 long)]
      exact .nothing rfl
  · rename_i watch
    have stays : s.judgeWatch a = s := by simp [Part.judgeWatch, Station.overLimit, watch]
    rw [stays]
    exact .nothing rfl

/-- It moves no more than the mark of a notice sent. -/
theorem Part.judgeWatch_dl (s : Part) (a : Nat) :
    ∃ sent, (s.judgeWatch a).dl = s.dl.setStation a { s.station a with limitSent := sent } := by
  unfold Part.judgeWatch
  dsimp only
  split
  · exact ⟨true, by simp [Part.setStation]⟩
  · exact ⟨(s.station a).limitSent, (s.dl.setStation_self a).symm⟩

/-! ### A change of a door (R104) -/

/-- A change of station a's door, up to its notices: the record moved, and a watch that starts judged. -/
def Part.doorMoved (s : Part) (a : Nat) (door : DoorState) (docked : Bool) : Part :=
  let moved := s.setStation a ((s.station a).moveDoor door docked s.clock.openedAt)
  if (s.station a).watchStarts door docked then moved.judgeWatch a else moved

theorem Part.changeDoor_same {s : Part} {a : Nat} {door : DoorState} {docked : Bool}
    (same : (s.station a).door = door ∧ (s.station a).docked = docked) : s.changeDoor a door docked = s := if_pos same

theorem Part.changeDoor_eq {s : Part} {a : Nat} {door : DoorState} {docked : Bool}
    (differs : ¬ ((s.station a).door = door ∧ (s.station a).docked = docked)) :
    s.changeDoor a door docked =
      ((((s.doorMoved a door docked).postDoor a (s.station a)).owe (.evaluate (s.station a).cfg.zone)).owe
        (.demand (((s.doorMoved a door docked).postDoor a (s.station a)).zone (s.station a).cfg.zone).cfg.group)).formOutputs a := by
  have zone : ((s.doorMoved a door docked).postDoor a (s.station a)).zc = s.zc := by
    unfold Part.doorMoved
    simp [apply_ite Part.zc]
  unfold Part.zone
  rw [zone]
  exact if_neg differs

theorem Part.doorMoved_dl (s : Part) {a : Nat} (door : DoorState) (docked : Bool) (low : 1 ≤ a) (high : a ≤ 48) :
    ∃ sent, (s.doorMoved a door docked).dl =
      s.dl.setStation a { (s.station a).moveDoor door docked s.clock.openedAt with limitSent := sent } := by
  unfold Part.doorMoved
  dsimp only
  split
  · obtain ⟨sent, dl⟩ := (s.setStation a ((s.station a).moveDoor door docked s.clock.openedAt)).judgeWatch_dl a
    rw [Part.station_setStation_same _ _ low high] at dl
    exact ⟨sent, dl.trans (DoorLine.setStation_setStation _ _ _ _)⟩
  · exact ⟨_, rfl⟩

theorem Part.doorMoved_link (s : Part) (a : Nat) (door : DoorState) (docked : Bool) :
    (s.doorMoved a door docked).link.still = s.link.still ∧ (s.doorMoved a door docked).clock = s.clock := by
  unfold Part.doorMoved
  dsimp only
  split <;> simp

theorem Station.moveDoor_cfg (st : Station) (door : DoorState) (docked : Bool) (now : OpenedAt) :
    (st.moveDoor door docked now).cfg = st.cfg := by
  simp only [Station.moveDoor, Station.countOpening]
  split <;> rfl

theorem Station.moveDoor_limitSent (st : Station) (docked : Bool) (now : OpenedAt) :
    (st.moveDoor .opened docked now).limitSent = (st.limitSent && decide (st.door ≠ .closed)) := by
  simp only [Station.moveDoor, Station.countOpening]
  split <;> simp_all

theorem Station.watchStarts_iff (st : Station) (door : DoorState) (docked : Bool) :
    st.watchStarts door docked = true ↔
      door = .opened ∧ docked = false ∧ ¬ (st.door = .opened ∧ st.docked = false) := by
  simp [Station.watchStarts, and_assoc, imp_iff_not_or]

/-- A watch that starts at or above its limit posts DOOR_OPEN_LONG as it starts (R107). -/
theorem Part.doorMoved_posts (s : Part) {a : Nat} (door : DoorState) (docked : Bool) (low : 1 ≤ a) (high : a ≤ 48) :
    Posts
      (longTold a
        (if door = .opened ∧ docked = false ∧ ¬ ((s.station a).door = .opened ∧ (s.station a).docked = false) then some 0
          else none)
        ((s.station a).limitSent && decide ((s.station a).door ≠ .closed)) (s.station a).cfg.zone
        (s.dl.limit (s.station a).cfg.zone)) s (s.doorMoved a door docked) := by
  unfold Part.doorMoved
  by_cases starts : (s.station a).watchStarts door docked = true
  · rw [if_pos starts, if_pos (((s.station a).watchStarts_iff door docked).1 starts)]
    obtain ⟨rfl, rfl, new⟩ := ((s.station a).watchStarts_iff door docked).1 starts
    refine Posts.of_link (p' := s.setStation a ((s.station a).moveDoor .opened false s.clock.openedAt)) rfl ?_
    have posts := Part.judgeWatch_posts _ a (s.station_setStation_same
      ((s.station a).moveDoor .opened false s.clock.openedAt) low high)
    have watch : ((s.station a).moveDoor .opened false s.clock.openedAt).watch = some 0 := by
      simp [Station.moveDoor, Station.watchAfter, new]
    rwa [Station.moveDoor_cfg, Station.moveDoor_limitSent, watch] at posts
  · rw [if_neg starts, if_neg (((s.station a).watchStarts_iff door docked).not.1 starts)]
    exact .nothing rfl

/-- The docking bits of a DOOR notice. -/
theorem dockedBits_eq (old new : Bool) :
    (if old = true then 2 else 0) + (if new = true then 1 else 0) = 2 * old.toNat + new.toNat := by
  cases old <;> cases new <;> rfl

/-- The DOOR notice tells the door and its docking before and after (R110). -/
theorem Part.postDoor_posts {s : Part} {a : Nat} {st n : Station} (record : s.station a = n) (zone : n.cfg = st.cfg) :
    Posts [.mk .door a (u8 st.door.code ++ u8 n.door.code ++ u8 (2 * st.docked.toNat + n.docked.toNat) ++ u8 st.cfg.zone)] s
      (s.postDoor a st) := by
  subst record
  simp only [← zone, ← dockedBits_eq]
  exact Posts.post s .door a _

/-- A door change posts DOOR_OPEN_LONG of a watch that starts at its limit, and then DOOR. -/
theorem Part.changeDoor_posts (s : Part) {a : Nat} (door : DoorState) (docked : Bool) (low : 1 ≤ a) (high : a ≤ 48) :
    Posts (doorTold a (s.station a) door docked (s.dl.limit (s.station a).cfg.zone)) s (s.changeDoor a door docked) := by
  unfold doorTold
  by_cases same : (s.station a).door = door ∧ (s.station a).docked = docked
  · obtain ⟨rfl, rfl⟩ := same
    rw [Part.changeDoor_same ⟨rfl, rfl⟩]
    have old : ¬ ((s.station a).door = .opened ∧ (s.station a).docked = false ∧
        ¬ ((s.station a).door = .opened ∧ (s.station a).docked = false)) := fun ⟨opened, free, new⟩ => new ⟨opened, free⟩
    simp only [if_neg old]
    simpa [told, longTold] using Posts.nothing rfl
  · have differs : (s.station a).door ≠ door ∨ (s.station a).docked ≠ docked := by
      by_contra both
      exact same (by simpa using both)
    obtain ⟨sent, dl⟩ := s.doorMoved_dl door docked low high
    have record : (s.doorMoved a door docked).station a =
        { (s.station a).moveDoor door docked s.clock.openedAt with limitSent := sent } := by
      unfold Part.station
      rw [dl]
      exact s.dl.station_setStation_same _ low high
    obtain ⟨still, clock⟩ := s.doorMoved_link a door docked
    have first := s.doorMoved_posts door docked low high
    have second := Part.postDoor_posts (st := s.station a) record (Station.moveDoor_cfg (s.station a) door docked s.clock.openedAt)
    have both := first.append second (Link.mask_of_still still) (by simp) (Link.transmitter_of_still still)
    rw [Part.changeDoor_eq same, told, if_pos differs]
    exact Posts.of_unsent (by simp) (by simp) both

end Sys2Proof.Machine
end

section
/-! SUPPORT. Stations that leave (R83, R96, R104, R110, R112): what a line clear does to one of them, and what it posts and hands
on. -/

namespace Sys2Proof.Machine

/-! ### Notices of a station that leaves -/

/-- A change of station state is posted where it leaves PRESENT or enters it (R110). -/
theorem Part.postStationMove_posts {s : Part} {a : Nat} {n : Station} (old : StationState) (cause : StationCause)
    (record : s.station a = n) (moves : old = .present ∧ n.state ≠ .present ∨ old ≠ .present ∧ n.state = .present) :
    Posts (stationTold a old n.state cause n.lastResult) s (s.postStationMove a old cause) := by
  subst record
  rw [stationTold, told, if_pos moves]
  exact Posts.post s .station a _

theorem stationTold_stays {a : Nat} {old new : StationState} {cause : StationCause} {last : Option RxResult}
    (away : old ≠ .present) (away' : new ≠ .present) : stationTold a old new cause last = [] := by
  simp [stationTold, told, away, away']

/-- The notices of a door that goes UNKNOWN turn on no limit. -/
theorem doorTold_unknown (a : Nat) (st : Station) (limit : Nat) :
    doorTold a st .unknown false limit = doorTold a st .unknown false 0 := by simp [doorTold, longTold]

/-! ### The record of an ABSENT station -/

/-- The outputs of a station whose door stands UNKNOWN are off exactly without a curtain demand. -/
theorem Part.formedOutputs_eq_off_iff {s : Part} {a : Nat} (unknown : (s.station a).door = .unknown) :
    s.formedOutputs a = Outputs.off ↔ (s.station a).demand = 0 := by
  simp only [Part.formedOutputs, Outputs.off, unknown, Outputs.mk.injEq]
  split
  · simp_all
  · split <;> simp_all

/-- A request for an ABSENT station waits in its pending flag (R85). -/
theorem DoorLine.requestOutputs_of_absent {d : DoorLine} {a : Nat} (absent : (d.station a).state = .absent) :
    (d.requestOutputs a).1 = d.setPending a true := by
  simp [DoorLine.requestOutputs, absent]

theorem Part.formOutputs_dl_of_absent {s : Part} {a : Nat} {st : Station} (low : 1 ≤ a) (high : a ≤ 48)
    (record : s.station a = st) (absent : st.state = .absent) :
    (s.formOutputs a).dl =
      s.dl.setStation a
        { st with
          commanded := s.formedOutputs a
          pending := st.pending || decide (s.formedOutputs a ≠ st.commanded) } := by
  simp only [Part.formOutputs, isAddress_of low high, record, Bool.true_eq_false, false_or]
  by_cases same : s.formedOutputs a = st.commanded
  · rw [if_pos same, same]
    simp only [ne_eq, not_true_eq_false, decide_false, Bool.or_false]
    subst record
    exact (s.dl.setStation_self a).symm
  · rw [if_neg same]
    have set := s.dl.station_setStation_same { st with commanded := s.formedOutputs a } low high
    dsimp only
    rw [DoorLine.requestOutputs_of_absent (by rw [set]; exact absent), DoorLine.setPending, set,
      DoorLine.setStation_setStation]
    simp [same]

/-- An ABSENT station whose door goes UNKNOWN (R83, R104). -/
theorem Part.loseDoor_dl_of_absent {s : Part} {a : Nat} {st : Station} (low : 1 ≤ a) (high : a ≤ 48)
    (record : s.station a = st) (absent : st.state = .absent) (differs : ¬ (st.door = .unknown ∧ st.docked = false)) :
    ∃ o, (o = Outputs.off ↔ st.demand = 0) ∧
      (s.loseDoor a).dl =
        s.dl.setStation a
          { st with
            door := .unknown, docked := false, watch := none, commanded := o
            pending := st.pending || decide (o ≠ st.commanded) } := by
  subst record
  let moved : Station := { s.station a with door := .unknown, docked := false, watch := none }
  have move : (s.station a).moveDoor .unknown false s.clock.openedAt = moved := by
    simp [Station.moveDoor, Station.countOpening, Station.watchAfter, moved]
  have quiet : (s.station a).watchStarts .unknown false = false := by simp [Station.watchStarts]
  have line : (s.doorMoved a .unknown false).dl = s.dl.setStation a moved := by
    simp [Part.doorMoved, quiet, move, Part.setStation]
  unfold Part.loseDoor
  rw [Part.changeDoor_eq differs]
  set handed := (((s.doorMoved a .unknown false).postDoor a (s.station a)).owe _).owe _ with handed_eq
  have same : handed.dl = s.dl.setStation a moved := by
    rw [handed_eq]
    simpa using line
  have found : handed.station a = moved := by
    unfold Part.station
    rw [same]
    exact s.dl.station_setStation_same _ low high
  refine ⟨handed.formedOutputs a, ?_, ?_⟩
  · rw [Part.formedOutputs_eq_off_iff (by rw [found]), found]
  · rw [Part.formOutputs_dl_of_absent low high found absent, same, DoorLine.setStation_setStation]

/-- The curtain demand of an ABSENT station whose door is UNKNOWN ends (R112). -/
theorem Part.zeroDemand_dl_of_absent {s : Part} {a : Nat} {st : Station} (low : 1 ≤ a) (high : a ≤ 48)
    (record : s.station a = st) (absent : st.state = .absent) (unknown : st.door = .unknown) :
    (s.zeroDemand a).dl =
      s.dl.setStation a
        { st with
          demand := 0, commanded := Outputs.off, pending := st.pending || decide (st.commanded ≠ Outputs.off) } := by
  subst record
  unfold Part.zeroDemand Part.setDemand
  set handed := ((s.setStation a { s.station a with demand := 0 }).setRunOn a none).handCurtain a with handed_eq
  have same : handed.dl = s.dl.setStation a { s.station a with demand := 0 } := by simp [handed_eq, Part.setStation]
  have found : handed.station a = { s.station a with demand := 0 } := by
    unfold Part.station
    rw [same]
    exact s.dl.station_setStation_same _ low high
  have off : handed.formedOutputs a = Outputs.off :=
    (Part.formedOutputs_eq_off_iff (by rw [found]; exact unknown)).2 (by rw [found])
  rw [Part.formOutputs_dl_of_absent low high found absent, same, DoorLine.setStation_setStation, off]
  simp only [eq_comm (a := Outputs.off), ne_eq]

/-! ### A line clear's effect on one station (R83) -/

/-- The record of an enabled station after a line clear. -/
def Station.cleared (st : Station) : Station :=
  { st with
    state := .absent, silence := none, door := .unknown, docked := false
    watch := if st.door = .unknown ∧ st.docked = false then st.watch else none
    demand := 0, commanded := Outputs.off
    pending := st.pending ||
      decide (st.commanded ≠ Outputs.off ∨ st.demand ≠ 0 ∧ ¬ (st.door = .unknown ∧ st.docked = false)) }

/-- The part with an enabled station made ABSENT, its notice posted. -/
def Part.stationLeft (s : Part) (a : Nat) : Part :=
  let s1 := s.setStation a { s.station a with state := .absent, silence := none }
  if (s.station a).state = .present then s1.postStationMove a .present .lineClear else s1

theorem Part.clearStation_eq {s : Part} {a : Nat} (enabled : (s.station a).state ≠ .disabled) :
    s.clearStation a = ((s.stationLeft a).loseDoor a).zeroDemand a := by
  simp [Part.clearStation, Part.stationLeft, Station.enabled, enabled]

theorem Part.clearStation_of_disabled {s : Part} {a : Nat} (disabled : (s.station a).state = .disabled) :
    s.clearStation a = s := by
  simp [Part.clearStation, Station.enabled, disabled]

theorem Part.stationLeft_dl (s : Part) (a : Nat) :
    (s.stationLeft a).dl = s.dl.setStation a { s.station a with state := .absent, silence := none } := by
  simp only [Part.stationLeft]
  split <;> simp [Part.setStation]

theorem Part.stationLeft_station (s : Part) {a : Nat} (low : 1 ≤ a) (high : a ≤ 48) :
    (s.stationLeft a).station a = { s.station a with state := .absent, silence := none } := by
  unfold Part.station
  rw [Part.stationLeft_dl]
  exact s.dl.station_setStation_same _ low high

theorem Part.clearStation_dl {s : Part} {a : Nat} (low : 1 ≤ a) (high : a ≤ 48)
    (enabled : (s.station a).state ≠ .disabled) :
    (s.clearStation a).dl = s.dl.setStation a (s.station a).cleared := by
  rw [Part.clearStation_eq enabled]
  have left := s.stationLeft_station low high
  by_cases same : (s.station a).door = .unknown ∧ (s.station a).docked = false
  · have stays : (s.stationLeft a).loseDoor a = s.stationLeft a := Part.changeDoor_same (by rw [left]; exact same)
    rw [stays, Part.zeroDemand_dl_of_absent low high left rfl same.1, Part.stationLeft_dl, DoorLine.setStation_setStation]
    simp [Station.cleared, same]
  · obtain ⟨o, demanded, lost⟩ := Part.loseDoor_dl_of_absent low high left rfl same
    have found := congrArg (·.station a) lost
    dsimp only at found
    rw [DoorLine.station_setStation_same _ _ low high] at found
    rw [Part.zeroDemand_dl_of_absent low high found rfl rfl, lost, Part.stationLeft_dl, DoorLine.setStation_setStation,
      DoorLine.setStation_setStation]
    have demand : o = Outputs.off ↔ (s.station a).demand = 0 := demanded
    have pending : (decide (o ≠ (s.station a).commanded) || decide (o ≠ Outputs.off)) =
        decide ((s.station a).commanded ≠ Outputs.off ∨ (s.station a).demand ≠ 0) := by
      rw [← Bool.decide_or, decide_eq_decide, ne_eq (s.station a).demand, ← demand]
      by_cases off : o = Outputs.off
      · simp [off, eq_comm]
      · simp [off]
    simp only [Station.cleared, same, not_false_eq_true, and_true, Bool.or_assoc, pending, if_false]

theorem Part.stationLeft_keeps (s : Part) (a : Nat) :
    (s.stationLeft a).lb = s.lb ∧ (s.stationLeft a).zc = s.zc ∧ (s.stationLeft a).due = s.due ∧
      (s.stationLeft a).clock = s.clock ∧ (s.stationLeft a).link.still = s.link.still := by
  unfold Part.stationLeft
  dsimp only
  split <;> simp

/-- A station that leaves posts STATION where it was PRESENT (R110). -/
theorem Part.stationLeft_posts (s : Part) {a : Nat} (low : 1 ≤ a) (high : a ≤ 48) :
    Posts (stationTold a (s.station a).state .absent .lineClear (s.station a).lastResult) s (s.stationLeft a) := by
  unfold Part.stationLeft
  dsimp only
  split
  · rename_i present
    rw [present]
    have record := s.station_setStation_same { s.station a with state := .absent, silence := none } low high
    exact .of_link rfl (Part.postStationMove_posts .present .lineClear record (.inl ⟨rfl, nofun⟩))
  · rename_i away
    rw [stationTold_stays away (by simp)]
    exact .nothing rfl

/-- What one station posts as a line clear makes it ABSENT (R104, R110). -/
theorem Part.clearStation_posts {s : Part} {a : Nat} (low : 1 ≤ a) (high : a ≤ 48)
    (enabled : (s.station a).state ≠ .disabled) :
    Posts (leaveTold a (s.station a) .absent .lineClear) s (s.clearStation a) := by
  obtain ⟨-, -, -, clock, still⟩ := s.stationLeft_keeps a
  have lost := (s.stationLeft a).changeDoor_posts .unknown false low high
  rw [s.stationLeft_station low high, doorTold_unknown] at lost
  have both := (s.stationLeft_posts low high).append lost (Link.mask_of_still still) (by simp)
    (Link.transmitter_of_still still)
  rw [Part.clearStation_eq enabled]
  exact Posts.of_unsent (q := (s.stationLeft a).loseDoor a) (by simp) (by simp) both

/-- What one station hands on as a line clear makes it ABSENT (R104, R109). -/
theorem Part.clearStation_due {s : Part} {a : Nat} (low : 1 ≤ a) (high : a ≤ 48)
    (enabled : (s.station a).state ≠ .disabled) : (s.clearStation a).due = s.due ++ leaveHanded s a := by
  obtain ⟨lb, zc, due, -, -⟩ := s.stationLeft_keeps a
  have handed : ((s.stationLeft a).loseDoor a).curtainHanded a = s.curtainHanded a :=
    congrArg (fun c : Conditioner => Tab.get c.curtainHanded (a - 1)) (((s.stationLeft a).loseDoor_keeps a).2.2.2.1.trans zc)
  have zone : (s.stationLeft a).zone = s.zone := funext fun z => congrArg (fun c : Conditioner => Tab.get c.zones z) zc
  rw [Part.clearStation_eq enabled, Part.zeroDemand_due _ _ ⟨low, high⟩, handed, leaveHanded, doorHanded, Part.loseDoor,
    Part.changeDoor_due, s.stationLeft_station low high, due, zone, (Part.changeDoor_keeps _ _ _ _).2.2.2.2.2.1, lb,
    List.append_assoc]
  by_cases same : (s.station a).door = .unknown ∧ (s.station a).docked = false
  · simp [same]
  · have differs : (s.station a).door ≠ .unknown ∨ (s.station a).docked ≠ false := by
      rwa [ne_eq, ne_eq, ← not_and_or]
    rw [if_neg same, if_pos differs]

/-- The curtain heat request as handed (R143). -/
theorem Part.handCurtain_zc (s : Part) (a : Nat) :
    (s.handCurtain a).zc =
      if s.lb.count .curtain a = 0 then s.zc
      else { s.zc with curtainHanded := Tab.put s.zc.curtainHanded (a - 1) (s.curtainRequest a) } := by
  unfold Part.handCurtain
  by_cases count : s.lb.count .curtain a = 0
  · simp [count]
  · by_cases same : s.curtainHanded a = s.curtainRequest a
    · have put : Tab.put s.zc.curtainHanded (a - 1) (s.curtainRequest a) = s.zc.curtainHanded :=
        same ▸ Tab.put_get s.zc.curtainHanded (a - 1)
      simp [count, same, put]
    · simp [count, same, Part.setCurtainHanded, Part.hand, Part.owe]

/-- A curtain demand that ends cancels the run-on, and the request of a CURTAIN load is 0 (R109, R140). -/
theorem Part.zeroDemand_zc (s : Part) {a : Nat} (low : 1 ≤ a) (high : a ≤ 48) :
    (s.zeroDemand a).zc =
      { s.zc with
        runOns := Tab.put s.zc.runOns (a - 1) none
        curtainHanded :=
          if s.lb.count .curtain a = 0 then s.zc.curtainHanded else Tab.put s.zc.curtainHanded (a - 1) false } := by
  have request : ((s.setStation a { s.station a with demand := 0 }).setRunOn a none).curtainRequest a = false := by
    unfold Part.curtainRequest
    rw [Part.station_of_dl (Part.setRunOn_dl _ _ _), s.station_setStation_same _ low high]
    rfl
  simp only [Part.zeroDemand, Part.setDemand, Part.formOutputs_keeps, Part.handCurtain_zc, request]
  split <;> simp_all [Part.setRunOn]

theorem Part.clearStation_zc {s : Part} {a : Nat} (low : 1 ≤ a) (high : a ≤ 48)
    (enabled : (s.station a).state ≠ .disabled) :
    (s.clearStation a).zc =
      { s.zc with
        runOns := Tab.put s.zc.runOns (a - 1) none
        curtainHanded :=
          if s.lb.count .curtain a = 0 then s.zc.curtainHanded else Tab.put s.zc.curtainHanded (a - 1) false } := by
  obtain ⟨lb, zc, -, -, -⟩ := s.stationLeft_keeps a
  rw [Part.clearStation_eq enabled, Part.zeroDemand_zc _ low high, ((s.stationLeft a).loseDoor_keeps a).2.2.2.1, zc,
    ((s.stationLeft a).loseDoor_keeps a).2.2.2.2.2.1, lb]

/-! ### A line clear's effect on the stations of a list -/

/-- What a line clear does to the stations of a list, one after another. -/
structure StationsCleared (l : List Nat) (p q : Part) : Prop where
  dl : q.dl = { p.dl with stations := q.dl.stations }
  station : ∀ a, 1 ≤ a → a ≤ 48 →
    q.station a = if a ∈ l ∧ (p.station a).state ≠ .disabled then (p.station a).cleared else p.station a
  due : q.due = p.due ++ l.flatMap fun a => if (p.station a).state = .disabled then [] else leaveHanded p a
  zc : q.zc = { p.zc with runOns := q.zc.runOns, curtainHanded := q.zc.curtainHanded }
  runOn : ∀ a, 1 ≤ a → a ≤ 48 →
    q.runOn a = if a ∈ l ∧ (p.station a).state ≠ .disabled then none else p.runOn a
  curtain : ∀ a, 1 ≤ a → a ≤ 48 →
    q.curtainHanded a =
      if a ∈ l ∧ (p.station a).state ≠ .disabled ∧ p.lb.count .curtain a ≠ 0 then false else p.curtainHanded a
  lb : q.lb = p.lb
  clock : q.clock = p.clock
  still : q.link.still = p.link.still
  posts : Posts
    (l.flatMap fun a => if (p.station a).state = .disabled then [] else leaveTold a (p.station a) .absent .lineClear) p q

/-- One station of the list. -/
theorem StationsCleared.one (s : Part) {a : Nat} (low : 1 ≤ a) (high : a ≤ 48) :
    StationsCleared [a] s (s.clearStation a) := by
  by_cases disabled : (s.station a).state = .disabled
  · rw [Part.clearStation_of_disabled disabled]
    have none (b : Nat) : ¬ (b ∈ [a] ∧ (s.station b).state ≠ .disabled) := by
      rintro ⟨member, enabled⟩
      exact enabled (List.mem_singleton.1 member ▸ disabled)
    refine ⟨rfl, fun b _ _ => (if_neg (none b)).symm, by simp [disabled], rfl, fun b _ _ => (if_neg (none b)).symm,
      fun b _ _ => (if_neg fun ⟨member, enabled, _⟩ => none b ⟨member, enabled⟩).symm, rfl, rfl, rfl, ?_⟩
    simpa [disabled] using Posts.nothing rfl
  · have line := Part.clearStation_dl low high disabled
    have unit := Part.clearStation_zc low high disabled
    refine ⟨by rw [line]; rfl, fun b lowb _ => ?_, ?_, by rw [unit], fun b lowb _ => ?_, fun b lowb _ => ?_, by simp,
      by simp, by simp, ?_⟩
    · unfold Part.station
      rw [line]
      by_cases same : b = a
      · subst same
        rw [if_pos ⟨List.mem_singleton_self b, disabled⟩]
        exact s.dl.station_setStation_same _ low high
      · rw [if_neg fun member => same (List.mem_singleton.1 member.1)]
        exact s.dl.station_setStation_other _ low lowb same
    · rw [Part.clearStation_due low high disabled]
      simp [disabled]
    · have runOns : (s.clearStation a).zc.runOns = Tab.put s.zc.runOns (a - 1) none := by rw [unit]
      unfold Part.runOn
      rw [runOns]
      by_cases same : b = a
      · subst same
        rw [if_pos ⟨List.mem_singleton_self b, disabled⟩]
        exact Tab.get_put_same _ _ _ (by omega)
      · rw [if_neg fun member => same (List.mem_singleton.1 member.1)]
        exact Tab.get_put_other _ _ _ _ (by omega)
    · unfold Part.curtainHanded
      rw [unit]
      by_cases count : s.lb.count .curtain a = 0
      · have none : ¬ (b ∈ [a] ∧ (s.station b).state ≠ .disabled ∧ s.lb.count .curtain b ≠ 0) := by
          rintro ⟨member, -, some⟩
          exact some (List.mem_singleton.1 member ▸ count)
        rw [if_neg none]
        simp only [if_pos count]
      · simp only [if_neg count]
        by_cases same : b = a
        · subst same
          rw [if_pos ⟨List.mem_singleton_self b, disabled, count⟩]
          exact Tab.get_put_same _ _ _ (by omega)
        · rw [if_neg fun member => same (List.mem_singleton.1 member.1)]
          exact Tab.get_put_other _ _ _ _ (by omega)
    · simpa [disabled] using Part.clearStation_posts low high disabled

/-- What the others of a list hand on and post is as it was before them, where no station stands in both lists. -/
theorem StationsCleared.append {l m : List Nat} {p q r : Part} (first : StationsCleared l p q)
    (second : StationsCleared m q r) (range : ∀ a ∈ m, 1 ≤ a ∧ a ≤ 48) (apart : ∀ a ∈ m, a ∉ l) :
    StationsCleared (l ++ m) p r := by
  have station (a : Nat) (member : a ∈ m) : q.station a = p.station a := by
    obtain ⟨low, high⟩ := range a member
    rw [first.station a low high, if_neg fun both => apart a member both.1]
  have curtain (a : Nat) (member : a ∈ m) : q.curtainHanded a = p.curtainHanded a := by
    obtain ⟨low, high⟩ := range a member
    rw [first.curtain a low high, if_neg fun both => apart a member both.1]
  have zone : q.zone = p.zone := funext fun z => by
    unfold Part.zone
    rw [first.zc]
  have hands : (m.flatMap fun a => if (q.station a).state = .disabled then [] else leaveHanded q a) =
      m.flatMap fun a => if (p.station a).state = .disabled then [] else leaveHanded p a :=
    List.flatMap_congr fun a member => by
      simp only [leaveHanded, doorHanded, station a member, curtain a member, zone, first.lb]
  have tells : (m.flatMap fun a =>
        if (q.station a).state = .disabled then [] else leaveTold a (q.station a) .absent .lineClear) =
      m.flatMap fun a => if (p.station a).state = .disabled then [] else leaveTold a (p.station a) .absent .lineClear :=
    List.flatMap_congr fun a member => by rw [station a member]
  constructor
  case dl => rw [second.dl, first.dl]
  case station =>
    intro a low high
    rw [second.station a low high]
    by_cases member : a ∈ m
    · simp only [station a member, List.mem_append, member, or_true, true_and]
    · rw [if_neg fun both => member both.1, first.station a low high]
      simp only [List.mem_append, member, or_false]
  case due => rw [second.due, first.due, hands, List.flatMap_append, List.append_assoc]
  case zc => rw [second.zc, first.zc]
  case runOn =>
    intro a low high
    rw [second.runOn a low high, first.runOn a low high]
    by_cases member : a ∈ m
    · simp only [station a member, List.mem_append, member, apart a member, or_true, true_and, false_and, if_false]
    · simp only [List.mem_append, member, or_false, false_and, if_false]
  case curtain =>
    intro a low high
    rw [second.curtain a low high, first.curtain a low high, first.lb]
    by_cases member : a ∈ m
    · simp only [station a member, List.mem_append, member, apart a member, or_true, true_and, false_and, if_false]
    · simp only [List.mem_append, member, or_false, false_and, if_false]
  case lb => rw [second.lb, first.lb]
  case clock => rw [second.clock, first.clock]
  case still => rw [second.still, first.still]
  case posts =>
    rw [List.flatMap_append]
    exact first.posts.append (tells ▸ second.posts) (Link.mask_of_still first.still) second.clock.symm
      (Link.transmitter_of_still first.still)

theorem StationsCleared.forEach (l : List Nat) (s : Part) (range : ∀ a ∈ l, 1 ≤ a ∧ a ≤ 48) (once : l.Nodup) :
    StationsCleared l s (s.forEach l Part.clearStation) := by
  induction l generalizing s with
  | nil =>
    exact ⟨rfl, fun _ _ _ => (if_neg fun member => absurd member.1 List.not_mem_nil).symm, (List.append_nil _).symm, rfl,
      fun _ _ _ => (if_neg fun member => absurd member.1 List.not_mem_nil).symm,
      fun _ _ _ => (if_neg fun member => absurd member.1 List.not_mem_nil).symm, rfl, rfl, rfl, .nothing rfl⟩
  | cons a rest ih =>
    obtain ⟨low, high⟩ := range a List.mem_cons_self
    obtain ⟨new, once⟩ := List.nodup_cons.1 once
    have later := ih (s.clearStation a) (fun b member => range b (List.mem_cons_of_mem a member)) once
    refine StationsCleared.append (StationsCleared.one s low high) later
      (fun b member => range b (List.mem_cons_of_mem a member)) fun b member same => new ?_
    rwa [← List.mem_singleton.1 same]

end Sys2Proof.Machine
end

section
/-! SUPPORT. A line clear as a whole (R81 to R83): the queue emptied, every enabled station ABSENT, its notices and its hand-offs;
and the rows that send it, receive it or end a STUCK line with it. Settles O54. -/

namespace Sys2Proof.Machine

/-! ### What the door line controller's work moves -/

/-- Work of the door line controller, with what it hands on and withdraws. -/
theorem ChangesOnly.of_doorWork {p q : Part} (clock : q.clock = p.clock) (cal : q.cal = p.cal) (mu : q.mu = p.mu)
    (air : q.air = p.air) (lb : q.lb = p.lb) (running : q.running = p.running) (still : q.link.still = p.link.still) :
    ChangesOnly [.doorLine, .conditioner, .notices, .handed] p q := by
  have rest : ChangesOnly [.zonePhases, .conditioner, .notices, .handed] p { q with dl := p.dl } :=
    .of_zoneWork clock (by rw [cal]) mu rfl air lb running still
  intro piece other
  by_cases zones : piece = .zonePhases
  · subst zones
    exact (congrArg Calendar.zones cal :)
  · have same := rest piece (by simp_all)
    cases piece
    case doorLine => exact absurd (by simp) other
    all_goals exact same

theorem Part.lineClear_moves (p : Part) : ChangesOnly [.doorLine, .conditioner, .notices, .handed] p p.lineClear := by
  obtain ⟨clock, cal, mu, air, lb, running, still, -⟩ := p.lineClear_keeps
  exact .of_doorWork clock cal mu air lb running still

theorem ChangesOnly.postLine (p : Part) (old : LineState) : ChangesOnly [.notices] p (p.postLine old) := .post p _ _ _

/-! ### Every station of the line -/

theorem mem_addresses {a : Nat} : a ∈ addresses ↔ 1 ≤ a ∧ a ≤ 48 := by
  simp only [addresses, List.mem_map, List.mem_range]
  constructor
  · rintro ⟨k, below, rfl⟩
    omega
  · rintro ⟨low, high⟩
    exact ⟨a - 1, by omega, by omega⟩

theorem addresses_nodup : addresses.Nodup :=
  List.nodup_range.map fun _ _ same => Nat.succ.inj same

/-- A line clear clears every station of the line, the pending flags and the counts of missing answers first (R83). -/
theorem Part.lineClear_stations (p : Part) : StationsCleared addresses { p with dl := p.dl.cleared } p.lineClear :=
  StationsCleared.forEach addresses _ (fun _ => mem_addresses.1) addresses_nodup

/-- The controller's own part of a line clear on a record. -/
theorem Part.cleared_station (p : Part) {a : Nat} (low : 1 ≤ a) (high : a ≤ 48) :
    ({ p with dl := p.dl.cleared } : Part).station a = { p.station a with pending := false, noAnswers := 0 } :=
  Tab.get_each p.dl.stations _ (a - 1) (by omega)

/-- Of the stations in ascending address, what a list says of each. -/
theorem flatMap_addresses {α : Type} (f : Nat → List α) :
    addresses.flatMap f = (List.range 48).flatMap fun k => f (k + 1) := by
  simp only [addresses, List.flatMap_map]

/-- The notices of a line clear: STATION and DOOR of each station that leaves (R110). -/
theorem Part.lineClear_posts (p : Part) : Posts (clearTold p) p p.lineClear := by
  refine Posts.of_link (p' := { p with dl := p.dl.cleared }) rfl ?_
  have posts := p.lineClear_stations.posts
  rw [flatMap_addresses] at posts
  have same : clearTold p = (List.range 48).flatMap fun k =>
      if (({ p with dl := p.dl.cleared } : Part).station (k + 1)).state = .disabled then []
      else leaveTold (k + 1) (({ p with dl := p.dl.cleared } : Part).station (k + 1)) .absent .lineClear :=
    List.flatMap_congr fun k below => by
      rw [p.cleared_station (by omega) (by have := List.mem_range.1 below; omega)]
      rfl
  exact same ▸ posts

/-- The hand-offs of a line clear, in ascending address (R104, R109). -/
theorem Part.lineClear_due (p : Part) :
    p.lineClear.due = p.due ++ (List.range 48).flatMap fun k =>
      if (p.station (k + 1)).state = .disabled then [] else leaveHanded p (k + 1) := by
  rw [p.lineClear_stations.due, flatMap_addresses]
  refine congrArg (p.due ++ ·) (List.flatMap_congr fun k below => ?_)
  have record := p.cleared_station (a := k + 1) (by omega) (by have := List.mem_range.1 below; omega)
  simp only [leaveHanded, doorHanded, record]
  rfl

/-- The curtain demands that a line clear ends (R109, R112). -/
theorem Part.lineClear_demands (p : Part) : DemandsEnd p p.lineClear fun a => (p.station a).state ≠ .disabled := by
  obtain ⟨-, -, -, zc, runOn, curtain, -, -, -, -⟩ := p.lineClear_stations
  refine ⟨zc, fun a low high => ?_⟩
  have run := runOn a low high
  have handed := curtain a low high
  have member : a ∈ addresses := mem_addresses.2 ⟨low, high⟩
  rw [p.cleared_station low high] at run handed
  simp only [member, true_and] at run handed
  refine ⟨fun enabled => ⟨run.trans (if_pos enabled), fun some => handed.trans (if_pos ⟨enabled, some⟩),
    fun none => handed.trans (if_neg fun both => both.2 none)⟩, fun disabled => ⟨run.trans (if_neg disabled),
    handed.trans (if_neg fun both => disabled both.1)⟩⟩

/-- What a line clear makes of the controller, its stations, the hand-offs and the curtain requests, whatever the link port. -/
structure ClearEffects (p c : Part) : Prop where
  dl : c.dl = { p.dl.cleared with stations := c.dl.stations }
  enabled : ∀ a, 1 ≤ a → a ≤ 48 → (p.station a).state ≠ .disabled →
    c.station a = { p.station a with pending := false, noAnswers := 0 : Station }.cleared
  disabled : ∀ a, 1 ≤ a → a ≤ 48 → (p.station a).state = .disabled →
    c.station a = { p.station a with pending := false, noAnswers := 0 }
  due : c.due = p.due ++ (List.range 48).flatMap fun k =>
    if (p.station (k + 1)).state = .disabled then [] else leaveHanded p (k + 1)
  demands : DemandsEnd p c fun a => (p.station a).state ≠ .disabled

theorem Part.lineClear_effects (p : Part) : ClearEffects p p.lineClear := by
  have station {a : Nat} (low : 1 ≤ a) (high : a ≤ 48) := p.lineClear_stations.station a low high
  refine ⟨p.lineClear_stations.dl, fun a low high enabled => ?_, fun a low high disabled => ?_, p.lineClear_due,
    p.lineClear_demands⟩
  · have found := station low high
    rw [p.cleared_station low high] at found
    exact found.trans (if_pos ⟨mem_addresses.2 ⟨low, high⟩, enabled⟩)
  · have found := station low high
    rw [p.cleared_station low high] at found
    exact found.trans (if_neg fun both => both.2 disabled)

/-- Whatever follows a line clear in its event and leaves the stations, the hand-offs and the curtain requests, the effects are
those of the clear. -/
theorem lineCleared_of_effects {p c q : Part} {more : List Piece} {l : LineState} (effects : ClearEffects p c)
    (line : q.dl = { c.dl with line := l }) (unit : q.zc = c.zc) (handed : q.due = c.due)
    (moves : ChangesOnly (.doorLine :: .conditioner :: .notices :: .handed :: more) p q) : LineCleared p q more := by
  obtain ⟨dl, enabled, disabled, due, demands⟩ := effects
  have record (a : Nat) : q.station a = c.station a :=
    (congrArg (fun d : DoorLine => d.station a) line :)
  simp only [DemandsEnd, Part.runOn, Part.curtainHanded, ← unit] at demands
  refine ⟨?_, ?_, ?_, ?_, fun a low high => ⟨fun on => ?_, fun off => (record a).trans (disabled a low high off)⟩,
    handed.trans due, demands, moves⟩
  · rw [line, dl]
    rfl
  · rw [line, dl]
    rfl
  · rw [line, dl]
    rfl
  · rw [line, dl]
    rfl
  · have moved : ((p.station a).door ≠ .unknown ∨ (p.station a).docked = true) ↔
        ¬ ((p.station a).door = .unknown ∧ (p.station a).docked = false) := by
      rw [not_and_or, Bool.not_eq_false]
    rw [record, enabled a low high on]
    refine ⟨rfl, fun differs => if_neg (moved.1 differs), ?_⟩
    simp only [Station.cleared, Bool.false_or, decide_eq_true_eq, moved]
    rfl

/-- A line clear alone leaves the line's state (R82). -/
theorem ClearEffects.line {p c : Part} (effects : ClearEffects p c) : c = c.setLine p.dl.line := by
  have same : c.dl.line = p.dl.line := (congrArg DoorLine.line effects.dl :)
  rw [← same]
  rfl

/-! ### The rows of a line clear -/

/-- A line clear received, on a line that then has state l (R82). -/
theorem Ends.of_lineClear {s : State} {l : LineState} (runs : s.part.running = true)
    (work : s.part.receiveClear = s.part.lineClear.setLine l) :
    Ends .lineClearReceived s fun q =>
      LineCleared s.part q [] ∧ q.dl.line = l ∧ Posts (clearTold s.part) s.part q := by
  refine .of_act (exec_lineClearReceived s) runs ?_
  rw [work]
  have effects := s.part.lineClear_effects
  have posts := s.part.lineClear_posts
  have moves := s.part.lineClear_moves
  generalize s.part.lineClear = c at effects posts moves
  have moves := (moves.trans (.of_dl _ { c.dl with line := l })).closed
  exact ⟨lineCleared_of_effects effects rfl rfl rfl (moves.mono (by simp)), rfl, Posts.closed (q := c.setLine l) posts⟩

/-- LINE_RESET sends a line clear, after which the line has state l (R81). -/
theorem Answers.of_lineClear {s : State} {l : LineState} (tag : Byte) (r : s.Ready)
    (work : (s.part.taken tag 0x19).sendClear = ((s.part.taken tag 0x19).lineClear.setLine l, .done 0 [])) :
    Answers (.lineReset tag) s tag 0x19 (.done 0 []) fun q =>
      LineCleared s.part q [.replies] ∧ q.dl.line = l ∧ Posts (clearTold s.part) s.part q := by
  obtain ⟨dl, enabled, disabled, due, demands⟩ := (s.part.taken tag 0x19).lineClear_effects
  have posts := (s.part.taken tag 0x19).lineClear_posts
  have moves := (s.part.taken tag 0x19).lineClear_moves
  obtain ⟨-, -, -, -, -, -, still, -⟩ := (s.part.taken tag 0x19).lineClear_keeps
  generalize (s.part.taken tag 0x19).lineClear = c at work dl enabled disabled due demands posts moves still
  have effects : ClearEffects s.part c := ⟨dl, enabled, disabled, due, demands⟩
  refine Answers.of_zoneWork rfl rfl rfl r work still (moves.trans (.of_dl _ { c.dl with line := l }))
    fun reply _ moved => ⟨lineCleared_of_effects effects rfl rfl rfl (moved.mono (by simp)), rfl, ?_⟩
  exact Posts.answered (q := c.setLine l) reply posts

/-- The release of a STUCK line clears it, and LINE follows the notices of the stations (R79, R82). -/
theorem Ends.of_releaseStuck {i : Instr} {s : State} {f : Part → Part} (acts : exec i s = s.act f)
    (runs : s.part.running = true) (work : f s.part = (s.part.lineClear.setLine .ready).postLine .stuck) :
    Ends i s fun q =>
      LineCleared s.part q [] ∧ q.dl.line = .ready ∧ q.ledLine = false ∧
        Posts (clearTold s.part ++ lineTold .stuck .ready s.part.dl.errors) s.part q := by
  refine .of_act acts runs ?_
  rw [work]
  have effects := s.part.lineClear_effects
  have posts := s.part.lineClear_posts
  have moves := s.part.lineClear_moves
  obtain ⟨-, -, -, -, -, -, still, -⟩ := s.part.lineClear_keeps
  generalize s.part.lineClear = c at effects posts moves still
  obtain ⟨clock, -, -, dl, zc, -, -, due, -, -, -⟩ := (c.setLine .ready).postLine_keeps .stuck
  have moves := ((moves.trans (.of_dl _ { c.dl with line := .ready })).trans
    (ChangesOnly.postLine (c.setLine .ready) .stuck)).closed
  refine ⟨lineCleared_of_effects effects dl zc due (moves.mono (by simp)), congrArg DoorLine.line dl, ?_, ?_⟩
  · have line : ((c.setLine .ready).postLine .stuck).close.dl.line = .ready := congrArg DoorLine.line dl
    unfold Part.ledLine
    rw [line]
    exact Bool.and_false _
  · have errors : c.dl.errors = s.part.dl.errors := (congrArg DoorLine.errors effects.dl :)
    have told := (c.setLine .ready).postLine_posts (c.setLine .ready) rfl .stuck
    rw [← errors]
    exact (Posts.append (q := c.setLine .ready) posts told (Link.mask_of_still still) clock.symm
      (Link.transmitter_of_still still)).closed

/-- Settles O54: each row by the state of its line. -/
theorem aLineClearEmptiesTheLine : Obligations.ALineClearEmptiesTheLine := by
  intro s tag
  refine ⟨fun r => ⟨fun line => ?_, fun stuck => ?_, fun clearing => ?_, fun dead => ?_⟩,
    fun runs => ⟨fun line => ?_, fun dead => ?_, fun line => ?_, fun stuck i row => ?_, fun other => ?_⟩⟩
  · refine Answers.of_lineClear tag r ?_
    rcases line with ready | busy
    · simp [Part.sendClear, Part.taken, ready]
    · simp [Part.sendClear, Part.taken, busy]
  · refine Answers.of_lineClear tag r ?_
    have line := (s.part.taken tag 0x19).lineClear_effects.line
    rw [show (s.part.taken tag 0x19).dl.line = .stuck from stuck] at line
    rw [← line]
    simp [Part.sendClear, Part.taken, stuck]
  · refine AnswersWith.of_serve rfl rfl rfl r (by simp) ?_ ⟨rfl, rfl, rfl⟩
    simp [Part.serve, Part.doLineReset, Part.sendClear, Part.taken, clearing]
  · refine AnswersWith.of_serve rfl rfl rfl r (by simp) ?_ ⟨rfl, rfl, rfl⟩
    simp [Part.serve, Part.doLineReset, Part.sendClear, Part.taken, dead]
  · refine .of_lineClear runs ?_
    rcases line with ready | busy
    · simp [Part.receiveClear, ready]
    · simp [Part.receiveClear, busy]
  · refine .of_lineClear runs ?_
    rw [← dead, ← s.part.lineClear_effects.line]
    simp [Part.receiveClear, dead]
  · refine .of_act (exec_lineClearReceived s) runs ?_
    rcases line with clearing | stuck
    · simp [Part.receiveClear, clearing]
    · simp [Part.receiveClear, stuck]
  · simp only [List.mem_cons, List.not_mem_nil, or_false] at row
    obtain rfl | rfl := row
    · exact .of_releaseStuck (exec_stuckRelease s) runs (if_pos stuck)
    · refine .of_releaseStuck (exec_lineRest s) runs ?_
      simp [Part.restLine, Part.releaseStuck, stuck]
  · exact .of_act (exec_stuckRelease s) runs (if_neg other)

end Sys2Proof.Machine
end

section
/-! SUPPORT. Spans read (R64, R65): what the receiver makes of spans that carry bytes, of loose bits, of a span that fits no window,
of a close, of spans that it ignores, and of a line clear, a stuck line and a rest at any place. -/

namespace Sys2Proof.Machine

/-! ### Symbols -/

/-- The level after n spans that alternate. -/
def levelAfter (driven : Bool) (n : Nat) : Bool := driven ^^ decide (n % 2 = 1)

@[simp] theorem levelAfter_zero (driven : Bool) : levelAfter driven 0 = driven := by simp [levelAfter]

theorem levelAfter_succ (driven : Bool) (n : Nat) : levelAfter driven (n + 1) = levelAfter (!driven) n := by
  unfold levelAfter
  rcases Nat.mod_two_eq_zero_or_one n with even | odd
  · simp [show (n + 1) % 2 = 1 by omega, even]
  · simp [show (n + 1) % 2 = 0 by omega, odd]

theorem levelAfter_add (driven : Bool) (m n : Nat) :
    levelAfter driven (m + n) = levelAfter (levelAfter driven m) n := by
  induction m generalizing driven with
  | zero => simp
  | succ m ih => rw [show m + 1 + n = m + n + 1 by omega, levelAfter_succ, ih, levelAfter_succ]

theorem levelAfter_false (n : Nat) : levelAfter false n = decide (n % 2 = 1) := by simp [levelAfter]

theorem levelAfter_true (n : Nat) : levelAfter true n = decide (n % 2 = 0) := by
  unfold levelAfter
  rcases Nat.mod_two_eq_zero_or_one n with even | odd
  · simp [even]
  · simp [odd]

theorem bitOf_of_fits {driven b : Bool} {d : Nat} (fits : SpanFits driven b d) : bitOf driven d = some b := by
  unfold SpanFits at fits
  split at fits
  · rename_i same
    have long : isLong d = true := by simpa [isLong] using fits
    have short : isShort d = false := by simp [isShort]; omega
    simp [bitOf, short, long, same]
  · rename_i other
    have short : isShort d = true := by simpa [isShort] using fits
    simp only [bitOf, short, if_true, Option.some.injEq]
    cases b <;> cases driven <;> simp_all

theorem spanFits_short {driven b : Bool} {d : Nat} (fits : SpanFits driven b d) : d ≤ 100 := by
  unfold SpanFits at fits
  split at fits <;> omega

/-- A span within a window is some bit. -/
theorem bitOf_of_window (driven : Bool) {d : Nat} (window : 28 ≤ d ∧ d ≤ 56 ∨ 60 ≤ d ∧ d ≤ 100) :
    ∃ b, bitOf driven d = some b := by
  rcases window with short | long
  · exact ⟨!driven, by simp [bitOf, isShort, short]⟩
  · exact ⟨driven, bitOf_of_fits (by simpa [SpanFits] using long)⟩

/-- A span outside both windows is no bit. -/
theorem bitOf_of_misfit (driven : Bool) {d : Nat} (misfit : d < 28 ∨ 56 < d ∧ d < 60 ∨ 100 < d) : bitOf driven d = none := by
  have short : isShort d = false := by simp [isShort]; omega
  have long : isLong d = false := by simp [isLong]; omega
  simp [bitOf, short, long]

/-- A span sent is within its window (R64). -/
theorem spanOf_fits (driven b : Bool) : SpanFits driven b (spanOf driven b) := by
  unfold SpanFits spanOf
  split <;> omega

theorem byteOf_bitsOf (b : Byte) : byteOf (bitsOf b) = b := by
  revert b
  decide

theorem bitsOf_get (b : Byte) {k : Nat} (below : k < 8) : (bitsOf b)[k]? = some (b.getLsbD (7 - k)) := by
  interval_cases k <;> rfl

/-! ### Spans sent (R64, R66) -/

theorem sendBits_length (driven : Bool) (bits : List Bool) : (sendBits driven bits).length = bits.length := by
  induction bits generalizing driven with
  | nil => rfl
  | cons b rest ih => simp [sendBits, ih]

theorem sendBits_get (driven : Bool) (bits : List Bool) (i : Nat) :
    (sendBits driven bits)[i]? = bits[i]?.map (spanOf (levelAfter driven i)) := by
  induction bits generalizing driven i with
  | nil => rfl
  | cons b rest ih =>
    cases i with
    | zero => simp [sendBits]
    | succ i => simp [sendBits, ih, levelAfter_succ]

theorem flatMap_bitsOf_length (bytes : List Byte) : (bytes.flatMap bitsOf).length = 8 * bytes.length := by
  induction bytes with
  | nil => rfl
  | cons b rest ih =>
    simp only [List.flatMap_cons, List.length_append, ih, List.length_cons]
    have eight : (bitsOf b).length = 8 := rfl
    omega

theorem flatMap_bitsOf_get (bytes : List Byte) {n k : Nat} {b : Byte} (found : bytes[n]? = some b) (below : k < 8) :
    (bytes.flatMap bitsOf)[8 * n + k]? = some (b.getLsbD (7 - k)) := by
  induction bytes generalizing n with
  | nil => simp at found
  | cons first rest ih =>
    have eight : (bitsOf first).length = 8 := rfl
    cases n with
    | zero =>
      obtain rfl : first = b := by simpa using found
      rw [List.flatMap_cons, List.getElem?_append_left (by omega), Nat.mul_zero, Nat.zero_add, bitsOf_get _ below]
    | succ n =>
      rw [List.flatMap_cons, List.getElem?_append_right (by omega), eight,
        show 8 * (n + 1) + k - 8 = 8 * n + k by omega]
      exact ih (by simpa using found)

theorem sendBytes_length (bytes : List Byte) : (sendBytes bytes).length = 8 * bytes.length := by
  rw [sendBytes, sendBits_length, flatMap_bitsOf_length]

/-- Bit k of byte n is sent at its level: the first released, the last driven. -/
theorem sendBytes_get {bytes : List Byte} {n k : Nat} {b : Byte} (found : bytes[n]? = some b) (below : k < 8) :
    (sendBytes bytes)[8 * n + k]? = some (spanOf (decide (k % 2 = 1)) (b.getLsbD (7 - k))) := by
  rw [sendBytes, sendBits_get, flatMap_bitsOf_get bytes found below, levelAfter_false, Option.map_some,
    show (8 * n + k) % 2 = k % 2 by omega]

/-- The spans sent carry the bytes. -/
theorem sendBytes_carry (bytes : List Byte) : SpansCarry (sendBytes bytes) bytes := by
  refine ⟨sendBytes_length bytes, fun n k b d found below span => ?_⟩
  rw [sendBytes_get found below] at span
  obtain rfl := Option.some.inj span
  exact spanOf_fits _ _

/-! ### Spans heard (R65) -/

/-- From a listening and a level on, these spans make these events, and the receiver then listens so; whatever follows. -/
def Hears (l : Listening) (driven : Bool) (spans : List Nat) (events : List LineEvent) (l' : Listening) : Prop :=
  ∀ tail, hearSpans l driven (spans ++ tail) = events ++ hearSpans l' (levelAfter driven spans.length) tail

namespace Hears

theorem nil (l : Listening) (driven : Bool) : Hears l driven [] [] l := fun tail => by simp

theorem one {l l' : Listening} {driven : Bool} {d : Nat} {events : List LineEvent} (hears : l.hear driven d = (events, l')) :
    Hears l driven [d] events l' := fun tail => by
  simp [hearSpans, hears, levelAfter_succ]

theorem append {l l' l'' : Listening} {driven : Bool} {spans more : List Nat} {events later : List LineEvent}
    (first : Hears l driven spans events l') (second : Hears l' (levelAfter driven spans.length) more later l'') :
    Hears l driven (spans ++ more) (events ++ later) l'' := fun tail => by
  rw [List.append_assoc, first, second, List.length_append, levelAfter_add, List.append_assoc]

theorem cons {l l' l'' : Listening} {driven : Bool} {d : Nat} {more : List Nat} {events later : List LineEvent}
    (hears : l.hear driven d = (events, l')) (second : Hears l' (!driven) more later l'') :
    Hears l driven (d :: more) (events ++ later) l'' :=
  append (spans := [d]) (one hears) (by simpa [levelAfter_succ] using second)

/-- What is in progress at the last span is cut there. -/
theorem all {l l' : Listening} {driven : Bool} {spans : List Nat} {events : List LineEvent}
    (hears : Hears l driven spans events l') : hearSpans l driven spans = events ++ l'.cut := by
  simpa [hearSpans] using hears []

end Hears

/-- Short of a line clear and of a rest a span is taken by its place. -/
theorem Listening.hear_short (l : Listening) {driven : Bool} {d : Nat} (short : d < if driven then 300 else 220) :
    l.hear driven d = l.take driven d := by
  unfold Listening.hear
  cases driven
  · rw [if_neg (by simp), if_neg (by simp), if_neg (by simp_all)]
  · have below : d < 300 := short
    rw [if_neg (by omega), if_neg (by omega), if_neg (by simp)]

/-! ### Bits and bytes -/

theorem Place.take_bit (place : Place) (whole : List Byte) (bits : List Bool) {driven b : Bool} {d : Nat}
    (bit : bitOf driven d = some b) (short : d ≤ 100) :
    place.take whole bits driven d =
      ([], if (bits ++ [b]).length = 8 then .bytes place (whole ++ [byteOf (bits ++ [b])]) []
        else .bytes place whole (bits ++ [b])) := by
  unfold Place.take
  rw [if_neg (by omega), bit]

/-- Short of the eighth, a bit joins the byte in progress. -/
theorem Hears.bit (place : Place) (whole : List Byte) (bits : List Bool) {driven b : Bool} {d : Nat}
    (bit : bitOf driven d = some b) (short : d ≤ 100) (few : bits.length < 7) :
    (Listening.bytes place whole bits).hear driven d = ([], .bytes place whole (bits ++ [b])) := by
  rw [Listening.hear_short _ (by split <;> omega), Listening.take, Place.take_bit place whole bits bit short,
    if_neg (by simp; omega)]

/-- The eighth bit makes a byte whole. -/
theorem Hears.lastBit (place : Place) (whole : List Byte) (bits : List Bool) {driven b : Bool} {d : Nat}
    (bit : bitOf driven d = some b) (short : d ≤ 100) (full : bits.length = 7) :
    (Listening.bytes place whole bits).hear driven d = ([], .bytes place (whole ++ [byteOf (bits ++ [b])]) []) := by
  rw [Listening.hear_short _ (by split <;> omega), Listening.take, Place.take_bit place whole bits bit short,
    if_pos (by simp [full])]

/-- The spans of the bits of a byte in progress. -/
theorem Hears.loose (place : Place) (whole : List Byte) (bits : List Bool) (driven : Bool) {spans : List Nat}
    (windows : ∀ d ∈ spans, 28 ≤ d ∧ d ≤ 56 ∨ 60 ≤ d ∧ d ≤ 100) (few : bits.length + spans.length < 8) :
    ∃ bits', bits'.length = bits.length + spans.length ∧
      Hears (.bytes place whole bits) driven spans [] (.bytes place whole bits') := by
  induction spans generalizing bits driven with
  | nil => exact ⟨bits, rfl, .nil _ _⟩
  | cons d rest ih =>
    simp only [List.length_cons] at few
    have window := windows d List.mem_cons_self
    obtain ⟨b, bit⟩ := bitOf_of_window driven window
    obtain ⟨bits', length, hears⟩ := ih (bits ++ [b]) (!driven) (fun x member => windows x (List.mem_cons_of_mem d member))
      (by simp; omega)
    refine ⟨bits', by simp at length ⊢; omega, ?_⟩
    exact .cons (events := []) (Hears.bit place whole bits bit (by omega) (by omega)) hears

/-- The eight spans of a byte. -/
theorem Hears.byte (place : Place) (whole : List Byte) (b : Byte) {spans : List Nat} (eight : spans.length = 8)
    (fits : ∀ k d, k < 8 → spans[k]? = some d → SpanFits (decide (k % 2 = 1)) (b.getLsbD (7 - k)) d) :
    Hears (.bytes place whole []) false spans [] (.bytes place (whole ++ [b]) []) := by
  obtain ⟨d0, d1, d2, d3, d4, d5, d6, d7, rfl⟩ : ∃ d0 d1 d2 d3 d4 d5 d6 d7, spans = [d0, d1, d2, d3, d4, d5, d6, d7] := by
    match spans, eight with
    | [d0, d1, d2, d3, d4, d5, d6, d7], _ => exact ⟨d0, d1, d2, d3, d4, d5, d6, d7, rfl⟩
  have bit (k : Nat) (d : Nat) (below : k < 8) (span : [d0, d1, d2, d3, d4, d5, d6, d7][k]? = some d) :
      bitOf (decide (k % 2 = 1)) d = some (b.getLsbD (7 - k)) ∧ d ≤ 100 :=
    ⟨bitOf_of_fits (fits k d below span), spanFits_short (fits k d below span)⟩
  obtain ⟨bit0, short0⟩ := bit 0 d0 (by omega) rfl
  obtain ⟨bit1, short1⟩ := bit 1 d1 (by omega) rfl
  obtain ⟨bit2, short2⟩ := bit 2 d2 (by omega) rfl
  obtain ⟨bit3, short3⟩ := bit 3 d3 (by omega) rfl
  obtain ⟨bit4, short4⟩ := bit 4 d4 (by omega) rfl
  obtain ⟨bit5, short5⟩ := bit 5 d5 (by omega) rfl
  obtain ⟨bit6, short6⟩ := bit 6 d6 (by omega) rfl
  obtain ⟨bit7, short7⟩ := bit 7 d7 (by omega) rfl
  have last := Hears.lastBit place whole [b.getLsbD 7, b.getLsbD 6, b.getLsbD 5, b.getLsbD 4, b.getLsbD 3, b.getLsbD 2,
    b.getLsbD 1] bit7 short7 rfl
  rw [show byteOf ([b.getLsbD 7, b.getLsbD 6, b.getLsbD 5, b.getLsbD 4, b.getLsbD 3, b.getLsbD 2, b.getLsbD 1] ++
    [b.getLsbD (7 - 7)]) = b from byteOf_bitsOf b] at last
  exact .cons (events := []) (Hears.bit place whole _ bit0 short0 (by simp))
    (.cons (events := []) (Hears.bit place whole _ bit1 short1 (by simp))
    (.cons (events := []) (Hears.bit place whole _ bit2 short2 (by simp))
    (.cons (events := []) (Hears.bit place whole _ bit3 short3 (by simp))
    (.cons (events := []) (Hears.bit place whole _ bit4 short4 (by simp))
    (.cons (events := []) (Hears.bit place whole _ bit5 short5 (by simp))
    (.cons (events := []) (Hears.bit place whole _ bit6 short6 (by simp))
    (.one last)))))))

/-- Spans that carry bytes are heard as the bytes. -/
theorem Hears.carried (place : Place) (whole : List Byte) {spans : List Nat} {got : List Byte} (carry : SpansCarry spans got) :
    Hears (.bytes place whole []) false spans [] (.bytes place (whole ++ got) []) := by
  obtain ⟨length, fits⟩ := carry
  induction got generalizing spans whole with
  | nil =>
    obtain rfl : spans = [] := List.eq_nil_of_length_eq_zero (by simpa using length)
    simpa using Hears.nil (.bytes place whole []) false
  | cons b rest ih =>
    simp only [List.length_cons] at length
    have eight : (spans.take 8).length = 8 := by simp; omega
    have first := Hears.byte place whole b eight fun k d below span =>
      fits 0 k b d rfl below (by rw [List.getElem?_take_of_lt below] at span; simpa using span)
    have later := ih (whole ++ [b]) (spans := spans.drop 8) (by simp; omega) fun n k c d found below span =>
      fits (n + 1) k c d (by simpa using found) below (by
        rw [List.getElem?_drop] at span
        rwa [show 8 * (n + 1) + k = 8 + (8 * n + k) by omega])
    have both := first.append (by rw [eight]; exact later)
    rwa [List.take_append_drop, List.nil_append, List.append_assoc, List.singleton_append] at both

/-! ### Ends of a frame or an answer -/

/-- After its end the line is ignored until it rests, but for a line clear and a stuck line. -/
theorem Hears.ignored {driven : Bool} {spans : List Nat} (ignored : SpansIgnored driven spans) :
    Hears .ended driven spans [] .ended := by
  induction spans generalizing driven with
  | nil => exact .nil _ _
  | cons d rest ih =>
    have short : d < if driven then 300 else 220 := by
      have first := ignored 0 d rfl
      cases driven <;> simpa using first
    refine .cons (events := []) (Listening.hear_short .ended short) (ih fun k x span => ?_)
    have next := ignored (k + 1) x (by simpa using span)
    rcases Nat.mod_two_eq_zero_or_one k with even | odd
    · cases driven <;> simpa [even, show (k + 1) % 2 = 1 by omega] using next
    · cases driven <;> simpa [odd, show (k + 1) % 2 = 0 by omega] using next

/-- Spans as short as those of bits, at any level. -/
theorem spansIgnored_of_short (driven : Bool) {spans : List Nat} (short : ∀ d ∈ spans, d ≤ 100) : SpansIgnored driven spans :=
  fun k d span => by
    have := short d (List.mem_of_getElem? span)
    split <;> omega

theorem spansCarry_short {spans : List Nat} {got : List Byte} (carry : SpansCarry spans got) : ∀ d ∈ spans, d ≤ 100 := by
  obtain ⟨length, fits⟩ := carry
  intro d member
  obtain ⟨i, below, rfl⟩ := List.getElem_of_mem member
  have within : i / 8 < got.length := by omega
  exact spanFits_short (fits (i / 8) (i % 8) got[i / 8] _ (List.getElem?_eq_getElem within) (by omega)
    (by rw [show 8 * (i / 8) + i % 8 = i by omega, List.getElem?_eq_getElem below]))

theorem spansLoose_short {spans : List Nat} (loose : SpansLoose spans) : ∀ d ∈ spans, d ≤ 100 := fun d member => by
  have := loose.2 d member
  omega

theorem spanMisfits_short {driven : Bool} {d : Nat} (misfits : SpanMisfits driven d) : d < if driven then 300 else 220 := by
  unfold SpanMisfits at misfits
  cases driven <;> simp_all <;> omega

/-- A span outside every window for its place ends a frame with a symbol error. -/
theorem Hears.misfit (whole : List Byte) (bits : List Bool) {driven : Bool} {d : Nat} (misfits : SpanMisfits driven d) :
    (Listening.bytes .frame whole bits).hear driven d = ([.frame (gather whole bits .symbol)], .ended) := by
  have none : bitOf driven d = none := by
    unfold SpanMisfits at misfits
    exact bitOf_of_misfit driven (by omega)
  have open' : ¬ (Place.frame = .frame ∧ driven = false ∧ 130 ≤ d ∧ d ≤ 210) := by
    unfold SpanMisfits at misfits
    rintro ⟨-, rfl, low, high⟩
    simp at misfits
    omega
  rw [Listening.hear_short _ (spanMisfits_short misfits), Listening.take, Place.take, if_neg open', none]
  rfl

/-- So it does an answer, where no span is a close. -/
theorem Hears.answerMisfit (whole : List Byte) (bits : List Bool) {driven : Bool} {d : Nat}
    (misfits : SpanMisfits driven d ∨ driven = false ∧ 130 ≤ d ∧ d < 220) :
    (Listening.bytes .answer whole bits).hear driven d = ([.answer (gather whole bits .symbol)], .ended) := by
  have none : bitOf driven d = none := by
    unfold SpanMisfits at misfits
    exact bitOf_of_misfit driven (by omega)
  have short : d < if driven then 300 else 220 := by
    rcases misfits with misfits | ⟨rfl, -, below⟩
    · exact spanMisfits_short misfits
    · exact below
  rw [Listening.hear_short _ short, Listening.take, Place.take, if_neg (by simp), none]
  rfl

/-- A data close ends a frame. -/
theorem Hears.close (whole : List Byte) (bits : List Bool) {d : Nat} (low : 130 ≤ d) (high : d ≤ 210) :
    (Listening.bytes .frame whole bits).hear false d = ([.frame (gather whole bits .closed)], .ended) := by
  rw [Listening.hear_short _ (by simp; omega), Listening.take, Place.take, if_pos ⟨rfl, rfl, low, high⟩]

/-- A lead pulse opens a frame. -/
theorem Hears.leadPulse {d : Nat} (low : 130 ≤ d) (high : d ≤ 200) :
    Listening.lead.hear true d = ([], .bytes .frame [] []) := by
  rw [Listening.hear_short _ (by simp; omega), Listening.take, if_pos ⟨low, high⟩]

/-- A driven span that is no lead pulse ends a frame before its header. -/
theorem Hears.wrongLead {d : Nat} (wrong : d < 130 ∨ 200 < d) (short : d < 300) :
    Listening.lead.hear true d = ([.frame (gather [] [] .symbol)], .ended) := by
  rw [Listening.hear_short _ (by simpa using short), Listening.take, if_neg (by omega)]

/-- The data close of the controller's own frame, and the answer mark after it, open an answer (R65). -/
theorem Hears.answerMark {close mark : Nat} (low : 130 ≤ close) (high : close ≤ 210) (low' : 60 ≤ mark) (high' : mark ≤ 100) :
    Hears .close false [close, mark] [] (.bytes .answer [] []) := by
  have closes : Listening.close.hear false close = ([], .mark) := by
    rw [Listening.hear_short _ (by simp; omega), Listening.take, if_pos ⟨low, high⟩]
  have marks : Listening.mark.hear true mark = ([], .bytes .answer [] []) := by
    rw [Listening.hear_short _ (by simp; omega), Listening.take, if_pos (by simp [isLong, low', high'])]
  exact .cons (events := []) closes (.one marks)

/-- A close that reaches its end within no window is a faulty answer (R75). -/
theorem Hears.wrongClose {d : Nat} (wrong : d < 130 ∨ 210 < d) (short : d < 220) :
    Listening.close.hear false d = ([.answer (gather [] [] .symbol)], .ended) := by
  rw [Listening.hear_short _ (by simpa using short), Listening.take, if_neg (by omega)]

theorem Hears.rightClose {d : Nat} (low : 130 ≤ d) (high : d ≤ 210) : Listening.close.hear false d = ([], .mark) := by
  rw [Listening.hear_short _ (by simp; omega), Listening.take, if_pos ⟨low, high⟩]

/-- So is a mark of another length. -/
theorem Hears.wrongMark {d : Nat} (wrong : d < 60 ∨ 100 < d) (short : d < 300) :
    Listening.mark.hear true d = ([.answer (gather [] [] .symbol)], .ended) := by
  have long : isLong d = false := by simp [isLong]; omega
  rw [Listening.hear_short _ (by simpa using short), Listening.take, if_neg (by simp [long])]

/-! ### Line clears, stuck lines and rests -/

/-- The event of a driven span of 300 microseconds or more. -/
def longEvent (d : Nat) : LineEvent := if d ≤ 2000 then .clear else .stuck

/-- A line clear and a stuck line are recognised at any place. -/
theorem Hears.longDrive (l : Listening) {d : Nat} (long : 300 ≤ d) : l.hear true d = ([longEvent d], .ended) := by
  unfold Listening.hear longEvent
  by_cases clear : d ≤ 2000
  · rw [if_neg (by omega), if_pos ⟨rfl, long⟩, if_pos clear]
  · rw [if_pos ⟨rfl, by omega⟩, if_neg clear]

/-- A rest ends what is in progress, and a next frame may follow. -/
theorem Hears.rest (l : Listening) {d : Nat} (long : 220 ≤ d) : l.hear false d = (l.cut ++ [.rest], .lead) := by
  unfold Listening.hear
  rw [if_neg (by simp), if_neg (by simp), if_pos ⟨rfl, long⟩]

end Sys2Proof.Machine
end

section
/-! SUPPORT. The rows that carry spans (log 34, 75): the events that a row tells, taken one after another, and what rows executed one
after another tell together. -/

namespace Sys2Proof.Machine

/-! ### Events taken one after another -/

/-- The part after the events of the line, each closing by itself. -/
def Part.takeEvents (s : Part) (events : List LineEvent) : Part := events.foldl (fun p e => (p.takeLineEvent e).close) s

theorem Part.takeEvents_append (s : Part) (events later : List LineEvent) :
    s.takeEvents (events ++ later) = (s.takeEvents events).takeEvents later := List.foldl_append

theorem Part.takeEvents_running (s : Part) (events : List LineEvent) : (s.takeEvents events).running = s.running :=
  foldl_keeps Part.running (fun p e => (p.takeLineEvent e).close) (fun p e => (p.lineEvent_closed_keeps e).2.2.2.2.1) events s

/-- Once an event has closed, the end of the row's event adds nothing. -/
theorem Part.takeEvents_close (s : Part) {events : List LineEvent} (some : events ≠ []) :
    (s.takeEvents events).close = s.takeEvents events := by
  obtain ⟨before, last, rfl⟩ := (List.eq_nil_or_concat' events).resolve_left some
  rw [Part.takeEvents_append]
  exact Part.close_close _

/-- Two operations that leave the same part at the end of the event are one. -/
theorem State.act_congr {s : State} {f g : Part → Part} (same : (f s.part).close = (g s.part).close) : s.act f = s.act g := by
  unfold State.act
  rw [same]

/-! ### Rows that tell events -/

/-- Executed on s, command i takes these events of the line. -/
def RowTells (i : Instr) (s : State) (events : List LineEvent) : Prop := exec i s = s.act (·.takeEvents events)

theorem RowTells.frame (s : State) (spans : List Nat) : RowTells (.stationFrameRejected (.frame spans)) s (readFrame spans) := rfl

/-- An answer is told only of a frame in flight. -/
theorem RowTells.answer {s : State} (flies : s.part.dl.flying ≠ none) (spans : List Nat) :
    RowTells (.stationFrameRejected (.answer spans)) s (readAnswer spans) := by
  have told : s.part.receive (.answer spans) = s.part.takeEvents (readAnswer spans) := if_neg flies
  exact State.act_congr (f := fun p => p.receive (.answer spans)) (congrArg Part.close told)

/-- A row that does what one event does tells that event. -/
theorem RowTells.one {i : Instr} {s : State} {f : Part → Part} {e : LineEvent} (acts : exec i s = s.act f)
    (same : f s.part = s.part.takeLineEvent e) : RowTells i s [e] :=
  acts.trans (State.act_congr (by rw [same]; exact (Part.close_close _).symm))

theorem RowTells.longDriven (s : State) (d : Nat) : RowTells (longDrive d) s [longEvent d] := by
  unfold longDrive longEvent
  split
  · exact .one (exec_lineClearReceived s) rfl
  · exact .one (exec_lineStuck s) rfl

theorem RowTells.lineRest (s : State) : RowTells .lineRest s [.rest] := .one (exec_lineRest s) rfl

/-- A missing answer is what an answer that fails makes (R75). -/
theorem Part.answerEnded_of_symbol (s : Part) {r : Received} (ending : r.ending = .symbol) : s.answerEnded r = s.noAnswer := by
  unfold Part.answerEnded
  split
  · rename_i none
    exact (Part.noAnswer_of_grounded none).symm
  · rw [ending]

theorem RowTells.noAnswer (s : State) {r : Received} (ending : r.ending = .symbol) : RowTells .noAnswer s [.answer r] :=
  .one (exec_noAnswer s) (s.part.answerEnded_of_symbol ending).symm

/-- Two rows that tell the same events do the same. -/
theorem RowTells.same {i j : Instr} {s : State} {events : List LineEvent} (first : RowTells i s events)
    (second : RowTells j s events) : exec i s = exec j s := first.trans second.symm

/-! ### Rows executed one after another -/

/-- Executed one after another on any state, the rows take these events. -/
def RowsTell (rows : List Instr) (s : State) (events : List LineEvent) : Prop := execAll s rows = s.act (·.takeEvents events)

theorem RowTells.alone {i : Instr} {s : State} {events : List LineEvent} (tells : RowTells i s events) :
    RowsTell [i] s events := by
  unfold RowsTell execAll
  rw [tells]
  obtain ⟨t, next, -⟩ := s.act_next (·.takeEvents events)
  rw [next]
  rfl

/-- A row that tells some event, and the rows after it. -/
theorem RowTells.cons {i : Instr} {rest : List Instr} {s : State} {events later : List LineEvent} (tells : RowTells i s events)
    (some : events ≠ []) (follow : ∀ t, RowsTell rest t later) : RowsTell (i :: rest) s (events ++ later) := by
  unfold RowsTell execAll
  rw [tells]
  cases runs : s.part.running with
  | false =>
    rw [State.act_held s _ runs, State.act_held s _ runs]
    exact (follow s).trans (State.act_held s _ runs)
  | true =>
    have still : (s.part.takeEvents events).running = true := (s.part.takeEvents_running events).trans runs
    rw [State.act_runs s _ runs, State.act_runs s _ runs, Part.takeEvents_close _ some]
    refine (follow _).trans ((State.act_runs _ _ still).trans ?_)
    rw [Part.takeEvents_append]

/-- The rows of a rest and of a next frame. -/
theorem restThen_tells (more : List Nat) (s : State) : RowsTell (restThen more) s (.rest :: hearSpans .lead true more) := by
  unfold restThen
  split
  · rename_i none
    subst none
    exact (RowTells.lineRest s).alone
  · exact (RowTells.lineRest s).cons (by simp) fun t => (RowTells.frame t more).alone

/-- Rows told before those that follow: none, with no event, or one that tells some. -/
inductive ToldBefore (s : State) : List Instr → List LineEvent → Prop
  | none : ToldBefore s [] []
  | one {i : Instr} {events : List LineEvent} (tells : RowTells i s events) (some : events ≠ []) : ToldBefore s [i] events

theorem ToldBefore.append {s : State} {rows more : List Instr} {events later : List LineEvent}
    (before : ToldBefore s rows events) (follow : ∀ t, RowsTell more t later) : RowsTell (rows ++ more) s (events ++ later) := by
  cases before with
  | none => exact follow s
  | one tells some => exact tells.cons some follow

/-- What a long driven span and the ignored spans after it tell. -/
theorem hearSpans_longDrive (l : Listening) {d : Nat} {more : List Nat} (long : 300 ≤ d) (ignored : SpansIgnored false more) :
    hearSpans l true (d :: more) = [longEvent d] :=
  (Hears.cons (Hears.longDrive l long) (Hears.ignored ignored)).all

/-- What a rest tells, and the spans of a next frame. -/
theorem hearSpans_rest (l : Listening) {d : Nat} (more : List Nat) (long : 220 ≤ d) :
    hearSpans l false (d :: more) = l.cut ++ (.rest :: hearSpans .lead true more) := by
  simp [hearSpans, Hears.rest l long]

/-- A line clear, a stuck line or a rest after spans that have been heard so far. -/
theorem continues_of_hearing {row : List Nat → Instr} {s : State} {told : List Nat} {rows : List Instr} {driven : Bool}
    {l : Listening} {events : List LineEvent}
    (reads : ∀ tail, RowTells (row (told ++ tail)) s (events ++ hearSpans l driven tail))
    (before : ToldBefore s rows (if driven then events else events ++ l.cut)) : Continues row s told rows driven := by
  refine fun d more => ⟨fun level long ignored => ?_, fun level long => ?_⟩
  · subst level
    have heard := reads (d :: more)
    rw [hearSpans_longDrive l long ignored] at heard
    exact heard.trans (before.append fun t => (RowTells.longDriven t d).alone).symm
  · subst level
    have heard := reads (d :: more)
    rw [hearSpans_rest l more long, ← List.append_assoc] at heard
    exact heard.trans (before.append (restThen_tells more)).symm

end Sys2Proof.Machine
end

section
/-! SUPPORT. Frames of other nodes by their spans (R66, R67, R71, R72): what a whole frame is judged as, and a frame that is counted.
Settles O52. -/

namespace Sys2Proof.Machine

/-! ### Frames read -/

/-- A lead pulse, spans that carry bytes, and loose bits. -/
theorem Hears.going {lead : Nat} {spans loose : List Nat} {got : List Byte} (carry : SpansCarry spans got)
    (few : SpansLoose loose) (low : 130 ≤ lead) (high : lead ≤ 200) :
    ∃ bits, bits.length = loose.length ∧
      Hears .lead true (lead :: (spans ++ loose)) [] (.bytes .frame got bits) := by
  obtain ⟨bits, length, hears⟩ := Hears.loose .frame got [] (levelAfter false spans.length) few.2 (by simpa using few.1)
  exact ⟨bits, by simpa using length, .cons (events := []) (Hears.leadPulse low high) ((Hears.carried .frame [] carry).append hears)⟩

theorem going_level {lead : Nat} {spans loose : List Nat} {got : List Byte} (carry : SpansCarry spans got) :
    levelAfter true (lead :: (spans ++ loose)).length = decide (loose.length % 2 = 1) := by
  have length := carry.1
  rw [levelAfter_true, decide_eq_decide]
  simp only [List.length_cons, List.length_append]
  omega

/-- A frame whose close comes after an even number of loose bits. -/
theorem Hears.closed {lead close : Nat} {spans loose : List Nat} {got : List Byte} (carry : SpansCarry spans got)
    (few : SpansLoose loose) (even : loose.length % 2 = 0) (low : 130 ≤ lead) (high : lead ≤ 200) (low' : 130 ≤ close)
    (high' : close ≤ 210) :
    Hears .lead true (lead :: (spans ++ loose ++ [close]))
      [.frame { bytes := got, loose := loose.length, ending := .closed }] .ended := by
  obtain ⟨bits, length, hears⟩ := Hears.going carry few low high
  have level : levelAfter true (lead :: (spans ++ loose)).length = false := by
    rw [going_level carry, even]
    rfl
  have ends := Hears.close got bits low' high'
  rw [gather, length, ← level] at ends
  simpa using hears.append (.one ends)

theorem readFrame_carried {lead close : Nat} {spans : List Nat} {bytes : List Byte} (carry : SpansCarry spans bytes)
    (low : 130 ≤ lead) (high : lead ≤ 200) (low' : 130 ≤ close) (high' : close ≤ 210) :
    readFrame (lead :: (spans ++ [close])) = [.frame { bytes := bytes, loose := 0, ending := .closed }] := by
  have hears := Hears.closed (loose := []) carry ⟨by simp, by simp⟩ rfl low high low' high'
  unfold readFrame
  simpa [Listening.cut] using hears.all

theorem readFrame_sendFrame (bytes : List Byte) :
    readFrame (sendFrame bytes) = [.frame { bytes := bytes, loose := 0, ending := .closed }] :=
  readFrame_carried (sendBytes_carry bytes) (by omega) (by omega) (by omega) (by omega)

/-- A frame cut short at its last span, or by a span outside every window (R71). -/
theorem Hears.brokenOff {lead bad : Nat} {spans loose : List Nat} {got : List Byte} (carry : SpansCarry spans got)
    (few : SpansLoose loose) (misfits : SpanMisfits (decide (loose.length % 2 = 1)) bad) (low : 130 ≤ lead)
    (high : lead ≤ 200) :
    Hears .lead true (lead :: (spans ++ loose) ++ [bad])
      [.frame { bytes := got, loose := loose.length, ending := .symbol }] .ended := by
  obtain ⟨bits, length, hears⟩ := Hears.going carry few low high
  rw [← going_level (lead := lead) carry] at misfits
  have misfit := Hears.misfit got bits misfits
  rw [gather, length] at misfit
  exact hears.append (.one misfit)

theorem readFrame_cut {lead : Nat} {spans loose : List Nat} {got : List Byte} (carry : SpansCarry spans got)
    (few : SpansLoose loose) (low : 130 ≤ lead) (high : lead ≤ 200) :
    readFrame (lead :: (spans ++ loose)) = [.frame { bytes := got, loose := loose.length, ending := .symbol }] := by
  obtain ⟨bits, length, hears⟩ := Hears.going carry few low high
  refine hears.all.trans ?_
  simp [Listening.cut, Place.event, Place.cut, gather, length]

/-! ### Answers read -/

theorem Hears.answerGoing {close mark : Nat} {spans loose : List Nat} {got : List Byte} (carry : SpansCarry spans got)
    (few : SpansLoose loose) (low : 130 ≤ close) (high : close ≤ 210) (low' : 60 ≤ mark) (high' : mark ≤ 100) :
    ∃ bits, bits.length = loose.length ∧
      Hears .close false (close :: mark :: (spans ++ loose)) [] (.bytes .answer got bits) := by
  obtain ⟨bits, length, hears⟩ := Hears.loose .answer got [] (levelAfter false spans.length) few.2 (by simpa using few.1)
  refine ⟨bits, by simpa using length, ?_⟩
  have both := (Hears.carried .answer [] carry).append hears
  rw [show false = levelAfter false [close, mark].length by simp [levelAfter]] at both
  exact (Hears.answerMark low high low' high').append both

theorem readAnswer_carried {close mark : Nat} {spans : List Nat} {bytes : List Byte} (carry : SpansCarry spans bytes)
    (low : 130 ≤ close) (high : close ≤ 210) (low' : 60 ≤ mark) (high' : mark ≤ 100) :
    readAnswer (close :: mark :: spans) = [.answer { bytes := bytes, loose := 0, ending := .rested }] := by
  obtain ⟨bits, length, hears⟩ := Hears.answerGoing (loose := []) carry ⟨by simp, by simp⟩ low high low' high'
  have read := hears.all
  unfold readAnswer
  simpa [Listening.cut, Place.event, Place.cut, gather, length] using read

/-! ### The judgement of a frame (R71) -/

/-- The result of a frame that ended with a close, by its length, its check, its kind and its address. -/
theorem DoorLine.classify_closed (d : DoorLine) (header address check : Byte) (data : List Byte) (loose : Nat) :
    d.classify { bytes := header :: address :: data ++ [check], loose := loose, ending := .closed } =
      if loose ≠ 0 ∨ dataBytes header ≠ some data.length then .lengthError
      else if check ≠ crc8 (header :: address :: data) then .checkError
      else if controllerKind header || d.rejects address.toNat then .notAccepted else .accepted := by
  have length : lengthWrong { bytes := header :: address :: data ++ [check], loose := loose, ending := .closed } =
      decide (loose ≠ 0 ∨ dataBytes header ≠ some data.length) := by
    cases kind : dataBytes header with
    | none => simp [lengthWrong, kind]
    | some n =>
      simp only [lengthWrong, List.cons_append, kind, List.length_cons, List.length_append, List.length_nil, ← Bool.decide_or,
        decide_eq_decide, ne_eq, Option.some.injEq]
      omega
  have whole : header :: address :: data ++ [check] = (header :: address :: data) ++ [check] := rfl
  have wrong : checkWrong (header :: address :: data ++ [check]) = decide (check ≠ crc8 (header :: address :: data)) := by
    rw [checkWrong, whole, List.getLast?_concat, List.dropLast_concat, decide_eq_decide, ne_eq, Option.some.injEq]
  simp only [List.cons_append] at length wrong ⊢
  simp [DoorLine.classify, length, wrong]

/-- A frame that ended with a symbol error. -/
theorem DoorLine.classify_symbol (d : DoorLine) {r : Received} (ending : r.ending = .symbol) : d.classify r = .symbolError := by
  unfold DoorLine.classify
  split <;> simp [ending]

/-- A station frame received whole, with a good check. -/
theorem Part.frameEnded_of_stationFrame (s : Part) (address : Byte) (f : StationFrame) :
    let body := f.header :: address :: f.data
    s.frameEnded { bytes := body ++ [crc8 body], loose := 0, ending := .closed } = s.receiveFrame address f [] := by
  have kind : dataBytes f.header = some f.data.length ∧ controllerKind f.header = false ∧
      stationFrame f.header f.data = some f := by
    cases f <;> exact ⟨rfl, rfl, rfl⟩
  obtain ⟨length, station, content⟩ := kind
  unfold Part.frameEnded Part.receiveFrame
  split
  · rfl
  · have judged := s.frameArrives.dl.classify_closed f.header address (crc8 (f.header :: address :: f.data)) f.data 0
    have tail : (f.data ++ [crc8 (f.header :: address :: f.data)]).dropLast = f.data := List.dropLast_concat
    simp only [length, station, ne_eq, not_true_eq_false, or_self, if_false, Bool.false_or] at judged
    simp only [Part.endReceived, List.cons_append] at judged ⊢
    rw [if_neg (by simp), judged]
    split <;> simp_all

/-! ### Frames that are counted (R72) -/

/-- With nothing in flight, a frame of another node drops the controller's answer and makes a READY line BUSY. -/
theorem Part.frameArrives_of_grounded {s : Part} (none : s.dl.flying = none) :
    ∃ answering line, s.frameArrives = { s with dl := { s.dl with answering := answering, line := line } } := by
  unfold Part.frameArrives
  rw [Part.noAnswer_of_grounded none]
  split
  · exact ⟨_, _, rfl⟩
  · exact ⟨_, _, rfl⟩

/-- A result other than ACCEPTED counts an error and is recorded for the station whose address arrived whole. -/
theorem DoorLine.recordResult_rejected (d : DoorLine) (address : Option Nat) {r : RxResult} (rejected : r ≠ .accepted) :
    (d.recordResult address r).errors = min 65535 (d.errors + 1) ∧ (d.recordResult address r).queue = d.queue ∧
      (∀ a, 1 ≤ a → a ≤ 48 → address = some a →
        (d.recordResult address r).station a = { d.station a with lastResult := some r }) ∧
      (∀ a, 1 ≤ a → a ≤ 48 → address ≠ some a → (d.recordResult address r).station a = d.station a) := by
  simp only [DoorLine.recordResult, if_neg rejected]
  cases address with
  | none => exact ⟨rfl, rfl, by simp, fun a _ _ _ => rfl⟩
  | some b =>
    dsimp only
    by_cases valid : isAddress b = true
    · have range : 1 ≤ b ∧ b ≤ 48 := by simpa [isAddress] using valid
      rw [if_pos valid]
      refine ⟨rfl, rfl, fun a low high same => ?_, fun a low _ other => ?_⟩
      · obtain rfl := Option.some.inj same
        exact DoorLine.station_setStation_same _ _ low high
      · exact DoorLine.station_setStation_other _ _ range.1 low fun same => other (congrArg some same.symm)
    · rw [if_neg valid]
      refine ⟨rfl, rfl, fun a low high same => ?_, fun a _ _ _ => rfl⟩
      obtain rfl := Option.some.inj same
      exact absurd (isAddress_of low high) valid

theorem Part.endReceived_rejected {s : Part} {r : Received} {result : RxResult} (judged : ∀ d : DoorLine, d.classify r = result)
    (rejected : result ≠ .accepted) :
    s.endReceived r =
      { s.frameArrives with dl := s.frameArrives.dl.recordResult ((r.bytes[1]?).map BitVec.toNat) result } := by
  simp only [Part.endReceived, judged]
  split
  · exact absurd rfl rejected
  · rfl

/-- The address byte of a frame names station a. -/
theorem addressByte_iff (x : Option Byte) {a : Nat} (high : a ≤ 48) :
    x.map BitVec.toNat = some a ↔ x = some (BitVec.ofNat 8 a) := by
  cases x with
  | none => simp
  | some b =>
    simp only [Option.map_some, Option.some.injEq]
    constructor
    · rintro rfl
      simp
    · rintro rfl
      simp
      omega

/-- A frame of another node with nothing in flight whose result is not ACCEPTED. -/
theorem Ends.of_rejected {i : Instr} {s : State} {r : Received} {result : RxResult} (runs : s.part.running = true)
    (stuck : s.part.dl.line ≠ .stuck) (none : s.part.dl.flying = none) (tells : RowTells i s [.frame r])
    (header : r.bytes ≠ []) (judged : ∀ d : DoorLine, d.classify r = result) (rejected : result ≠ .accepted) :
    Ends i s fun q =>
      q.dl.errors = min 65535 (s.part.dl.errors + 1) ∧
      (∀ a, 1 ≤ a → a ≤ 48 → r.bytes[1]? = some (BitVec.ofNat 8 a) →
        q.station a = { s.part.station a with lastResult := some result }) ∧
      (∀ a, 1 ≤ a → a ≤ 48 → r.bytes[1]? ≠ some (BitVec.ofNat 8 a) → q.station a = s.part.station a) ∧
      q.dl.queue = s.part.dl.queue ∧ ChangesOnly [.doorLine] s.part q := by
  refine .of_act tells runs ?_
  obtain ⟨answering, line, arrives⟩ := Part.frameArrives_of_grounded none
  have ended : s.part.takeEvents [.frame r] =
      Part.close { s.part with
        dl := DoorLine.recordResult { s.part.dl with answering := answering, line := line }
          ((r.bytes[1]?).map BitVec.toNat) result } := by
    change (s.part.frameEnded r).close = _
    rw [Part.frameEnded, if_neg stuck, if_neg header, Part.endReceived_rejected judged rejected, arrives]
  dsimp only
  rw [ended, Part.close_close]
  obtain ⟨errors, queue, this, others⟩ := DoorLine.recordResult_rejected
    { s.part.dl with answering := answering, line := line } ((r.bytes[1]?).map BitVec.toNat) rejected
  exact ⟨errors, fun a low high same => this a low high ((addressByte_iff _ high).2 same),
    fun a low high other => others a low high ((addressByte_iff _ high).not.2 other), queue, (ChangesOnly.of_dl _ _).closed⟩

/-- One whose header did not arrive whole is dropped, its driving edge taken (R71, R76). -/
theorem Becomes.of_dropped {i : Instr} {s : State} {r : Received} (runs : s.part.running = true)
    (stuck : s.part.dl.line ≠ .stuck) (tells : RowTells i s [.frame r]) (header : r.bytes = []) :
    Becomes i s { s.part with dl := { s.part.dl with line := if s.part.dl.line = .ready then .busy else s.part.dl.line } } := by
  refine tells.trans ((State.act_runs s _ runs).trans ?_)
  have ended : s.part.takeEvents [.frame r] = (s.part.setLine s.part.dl.line.driven).close := by
    change (s.part.frameEnded r).close = _
    rw [Part.frameEnded, if_neg stuck, if_pos header]
  rw [ended, Part.close_close, LineState.driven_eq]
  rfl

/-! ### The statement's clauses -/

/-- What is sent (R64, R66), read back at its nominal lengths and off them. -/
theorem spans_readBack (bytes : List Byte) {close : Nat} (low : 130 ≤ close) (high : close ≤ 210) :
    readAnswer (close :: sendAnswer bytes) = [.answer { bytes := bytes, loose := 0, ending := .rested }] ∧
    ∀ spans, SpansCarry spans bytes →
      (∀ mark, 60 ≤ mark → mark ≤ 100 →
        readAnswer (close :: mark :: spans) = [.answer { bytes := bytes, loose := 0, ending := .rested }]) ∧
      ∀ lead, 130 ≤ lead → lead ≤ 200 →
        readFrame (lead :: (spans ++ [close])) = [.frame { bytes := bytes, loose := 0, ending := .closed }] ∧
        ∀ s : State, exec (.stationFrameRejected (.frame (lead :: (spans ++ [close])))) s =
          exec (.stationFrameRejected (.frame (sendFrame bytes))) s := by
  refine ⟨readAnswer_carried (sendBytes_carry bytes) low high (by omega) (by omega), fun spans carry =>
    ⟨fun mark => readAnswer_carried carry low high, fun lead low' high' => ?_⟩⟩
  have read := readFrame_carried carry low' high' low high
  refine ⟨read, fun s => RowTells.same (RowTells.frame s _) ?_⟩
  rw [read, ← readFrame_sendFrame]
  exact RowTells.frame s _

/-- A good station frame by its spans is the station frame's own row. -/
theorem exec_of_stationFrame (s : State) (address : Byte) (f : StationFrame) :
    let body := f.header :: address :: f.data
    exec (.stationFrameRejected (.frame (sendFrame (body ++ [crc8 body])))) s =
      s.act fun p => p.receiveFrame address f [] := by
  have tells := RowTells.frame s (sendFrame (f.header :: address :: f.data ++ [crc8 (f.header :: address :: f.data)]))
  rw [readFrame_sendFrame] at tells
  refine tells.trans (State.act_congr ?_)
  change (Part.close (Part.close _)) = _
  rw [Part.close_close, ← s.part.frameEnded_of_stationFrame address f]
  rfl

/-- A frame that is counted, by the result of its judgement. -/
theorem Ends.of_counted {s : State} {spans : List Nat} {header address check : Byte} {data : List Byte} {loose : Nat}
    {ending : Ending} {result : RxResult} (runs : s.part.running = true) (stuck : s.part.dl.line ≠ .stuck)
    (none : s.part.dl.flying = none)
    (read : readFrame spans =
      [.frame { bytes := header :: address :: data ++ [check], loose := loose, ending := ending }])
    (judged : ∀ d : DoorLine,
      d.classify { bytes := header :: address :: data ++ [check], loose := loose, ending := ending } = result)
    (rejected : result ≠ .accepted) :
    Ends (.stationFrameRejected (.frame spans)) s fun q =>
      q.dl.errors = min 65535 (s.part.dl.errors + 1) ∧
      (1 ≤ address.toNat → address.toNat ≤ 48 →
        q.station address.toNat = { s.part.station address.toNat with lastResult := some result }) ∧
      (∀ b, 1 ≤ b → b ≤ 48 → b ≠ address.toNat → q.station b = s.part.station b) ∧ q.dl.queue = s.part.dl.queue ∧
      ChangesOnly [.doorLine] s.part q := by
  have tells := RowTells.frame s spans
  rw [read] at tells
  obtain ⟨t, next, pending, errors, this, others, queue, moves⟩ :=
    Ends.of_rejected runs stuck none tells (by simp) judged rejected
  refine ⟨t, next, pending, errors, fun low high => this _ low high (by simp), fun b low high other => ?_, queue, moves⟩
  refine others b low high fun same => other ?_
  exact (Option.some.inj ((addressByte_iff (some address) high).2 same)).symm

/-- A frame cut short, at its last span or by one outside every window, with what is ignored after it. -/
theorem readFrame_brokenOff {lead bad : Nat} {spans loose rest tail : List Nat} {got : List Byte} (carry : SpansCarry spans got)
    (few : SpansLoose loose) (misfits : SpanMisfits (decide (loose.length % 2 = 1)) bad)
    (ignored : SpansIgnored (decide (loose.length % 2 = 0)) rest) (low : 130 ≤ lead) (high : lead ≤ 200)
    (one : tail ∈ [[], bad :: rest]) :
    readFrame (lead :: (spans ++ loose ++ tail)) = [.frame { bytes := got, loose := loose.length, ending := .symbol }] := by
  simp only [List.mem_cons, List.not_mem_nil, or_false] at one
  obtain rfl | rfl := one
  · rw [List.append_nil]
    exact readFrame_cut carry few low high
  · have broken := Hears.brokenOff carry few misfits low high
    have level : levelAfter true (lead :: (spans ++ loose) ++ [bad]).length = decide (loose.length % 2 = 0) := by
      have length := carry.1
      rw [levelAfter_true, decide_eq_decide]
      simp only [List.length_cons, List.length_append, List.length_nil]
      omega
    have both := broken.append (more := rest) (by rw [level]; exact Hears.ignored ignored)
    have read := both.all
    unfold readFrame
    simpa [Listening.cut] using read

/-- A driven span that is no lead pulse, with what is ignored after it. -/
theorem readFrame_wrongLead {wrong bad : Nat} {spans loose rest tail : List Nat} {got : List Byte} (carry : SpansCarry spans got)
    (few : SpansLoose loose) (misfits : SpanMisfits (decide (loose.length % 2 = 1)) bad)
    (ignored : SpansIgnored (decide (loose.length % 2 = 0)) rest) (off : wrong < 130 ∨ 200 < wrong) (short : wrong < 300)
    (one : tail ∈ [[], bad :: rest]) :
    readFrame (wrong :: (spans ++ loose ++ tail)) = [.frame (gather [] [] .symbol)] := by
  have bits (d : Nat) (member : d ∈ spans ++ loose) : d ≤ 100 := by
    rcases List.mem_append.1 member with inBytes | inLoose
    · exact spansCarry_short carry d inBytes
    · exact spansLoose_short few d inLoose
  have before : Hears .lead true (wrong :: (spans ++ loose)) [.frame (gather [] [] .symbol)] .ended :=
    .cons (events := [_]) (Hears.wrongLead off short) (Hears.ignored (spansIgnored_of_short _ bits))
  have level := going_level (lead := wrong) (loose := loose) carry
  simp only [List.mem_cons, List.not_mem_nil, or_false] at one
  unfold readFrame
  obtain rfl | rfl := one
  · simpa [Listening.cut] using before.all
  · have last : Hears .ended (levelAfter true (wrong :: (spans ++ loose)).length) (bad :: rest) [] .ended := by
      rw [level]
      refine .cons (events := []) (Listening.hear_short .ended (spanMisfits_short misfits)) (Hears.ignored ?_)
      have other : (!decide (loose.length % 2 = 1)) = decide (loose.length % 2 = 0) := by simp [← decide_not]
      rwa [other]
    simpa [Listening.cut] using (before.append last).all

/-- A line clear, a stuck line and a rest, within a frame and after its end. -/
theorem frame_continues (s : State) {lead wrong bad close : Nat} {spans loose ignored : List Nat} {got : List Byte}
    (carry : SpansCarry spans got) (few : SpansLoose loose) (misfits : SpanMisfits (decide (loose.length % 2 = 1)) bad)
    (low : 130 ≤ lead) (high : lead ≤ 200) (off : wrong < 130 ∨ 200 < wrong) (short : wrong < 300) (low' : 130 ≤ close)
    (high' : close ≤ 210) :
    let row := fun (spans : List Nat) => Instr.stationFrameRejected (.frame spans)
    let going := lead :: (spans ++ loose)
    Continues row s [] [] true ∧
    Continues row s going (if loose.length % 2 = 1 then [] else [row going]) (decide (loose.length % 2 = 1)) ∧
    ∀ told ∈ [[wrong], going ++ [bad], lead :: (spans ++ [close])], SpansIgnored (decide (told.length % 2 = 0)) ignored →
      Continues row s (told ++ ignored) [row told] (decide ((told ++ ignored).length % 2 = 0)) := by
  intro row going
  refine ⟨continues_of_hearing (l := .lead) (events := []) (fun tail => RowTells.frame s tail) .none, ?_,
    fun told one quiet => ?_⟩
  · obtain ⟨bits, -, hears⟩ := Hears.going carry few low high
    refine continues_of_hearing (l := .bytes .frame got bits) (events := []) (fun tail => ?_) ?_
    · rw [← going_level (lead := lead) carry, ← hears tail]
      exact RowTells.frame s _
    · by_cases odd : loose.length % 2 = 1
      · simp only [odd, if_true, decide_true]
        exact .none
      · simp only [odd, if_false, decide_false, Bool.false_eq_true]
        refine .one ?_ (by simp [Listening.cut])
        rw [← hears.all]
        exact RowTells.frame s going
  · have hears : ∃ r, Hears .lead true told [.frame r] .ended := by
      simp only [List.mem_cons, List.not_mem_nil, or_false] at one
      obtain rfl | rfl | rfl := one
      · exact ⟨_, .one (Hears.wrongLead off short)⟩
      · exact ⟨_, Hears.brokenOff carry few misfits low high⟩
      · have hears := Hears.closed (loose := []) carry ⟨by simp, by simp⟩ rfl low high low' high'
        exact ⟨_, by simpa using hears⟩
    obtain ⟨r, hears⟩ := hears
    have quiet' : SpansIgnored (levelAfter true told.length) ignored := by rwa [levelAfter_true]
    refine continues_of_hearing (l := .ended) (events := [.frame r]) (fun tail => ?_) ?_
    · have both := (hears.append (Hears.ignored quiet')) tail
      rw [levelAfter_true] at both
      have tells := RowTells.frame s (told ++ ignored ++ tail)
      rw [readFrame, both] at tells
      simpa using tells
    · have tells := RowTells.frame s told
      rw [readFrame, hears.all] at tells
      have before : ToldBefore s [row told] [.frame r] := .one (by simpa [Listening.cut] using tells) (by simp)
      simpa [Listening.cut] using before

/-- Settles O52: what is sent reads back, and each way that a frame ends by its events. -/
theorem spansAreReadAndJudged : Obligations.SpansAreReadAndJudged := by
  refine ⟨fun bytes => ⟨rfl, rfl, sendBytes_length bytes, fun n k b found below => ?_, readFrame_sendFrame bytes,
    fun close low high => spans_readBack bytes low high⟩, ?_, ?_, ?_, ?_⟩
  · rw [sendBytes_get found below, spanOf]
    rcases Nat.mod_two_eq_zero_or_one k with even | odd
    · cases b.getLsbD (7 - k) <;> simp [even]
    · cases b.getLsbD (7 - k) <;> simp [odd]
  · intro s address door condition kind revision motion
    exact ⟨exec_of_stationFrame s address (.doorReport door), exec_of_stationFrame s address (.hello kind revision door),
      exec_of_stationFrame s address (.presence motion), exec_of_stationFrame s address (.status door condition)⟩
  · intro s header address check data runs stuck none
    have sent := readFrame_sendFrame (header :: address :: data ++ [check])
    have judged := fun d : DoorLine => d.classify_closed header address check data
    refine ⟨?_, fun loose close few count low high => ?_, fun length => ?_, fun length wrong => ?_,
      fun kind length right => ?_⟩
    · have cut := readFrame_cut (lead := 160) (loose := []) (sendBytes_carry (header :: address :: data ++ [check]))
        ⟨by simp, by simp⟩ (by omega) (by omega)
      rw [List.append_nil] at cut
      exact .of_counted runs stuck none cut (fun d => d.classify_symbol rfl) (by simp)
    · have read := (Hears.closed (lead := 160) (sendBytes_carry (header :: address :: data ++ [check])) few (by omega)
        (by omega) (by omega) low high).all
      have some : loose.length ≠ 0 := by omega
      exact .of_counted runs stuck none (by simpa [readFrame, Listening.cut] using read)
        (fun d => (judged d _).trans (if_pos (.inl some))) (by simp)
    · exact .of_counted runs stuck none sent (fun d => (judged d 0).trans (if_pos (.inr length))) (by simp)
    · refine .of_counted runs stuck none sent (fun d => (judged d 0).trans ?_) (by simp)
      rw [if_neg (by simp [length]), if_pos wrong]
    · refine .of_counted runs stuck none sent (fun d => (judged d 0).trans ?_) (by simp)
      have own : controllerKind header = true := by simpa [controllerKind] using kind
      rw [if_neg (by simp [length]), if_neg (not_not.2 right), own]
      rfl
  · intro s lead bad spans loose rest got runs stuck none carry few misfits ignored low high dl heard tail one frame
    have tells := fun lead => RowTells.frame s (lead :: (spans ++ loose ++ tail))
    have broken := readFrame_brokenOff carry few misfits ignored low high one
    refine ⟨fun wrong off short => ?_, fun empty => ?_, fun header => ?_⟩
    · have dropped := tells wrong
      rw [readFrame_wrongLead carry few misfits ignored off short one] at dropped
      exact .of_dropped runs stuck dropped rfl
    · have dropped := tells lead
      rw [broken] at dropped
      exact .of_dropped runs stuck dropped empty
    · have counted := tells lead
      rw [broken] at counted
      exact .of_rejected runs stuck none counted header (fun d => d.classify_symbol rfl) (by simp)
  · intro s lead wrong bad close spans loose ignored got carry few misfits low high off short low' high'
    exact frame_continues s carry few misfits low high off short low' high'

end Sys2Proof.Machine
end

section
/-! SUPPORT. The refill of the outbound queue (R87): its order over the pending stations, and what it leaves of the stations and
the entries that it does not touch. -/

namespace Sys2Proof.Machine

/-! ### Pending flags -/

theorem DoorLine.setStation_comm (d : DoorLine) {a b : Nat} (x y : Station) (ha : 1 ≤ a) (hb : 1 ≤ b) (other : b ≠ a) :
    (d.setStation a x).setStation b y = (d.setStation b y).setStation a x := by
  simp only [DoorLine.setStation, Tab.put]
  congr 1
  ext j hj
  simp only [Vector.getElem_setIfInBounds]
  by_cases first : a - 1 = j
  · rw [if_pos first, if_neg (by omega), if_pos first]
  · rw [if_neg first, if_neg first]

theorem DoorLine.setPending_comm (d : DoorLine) {a b : Nat} (f g : Bool) (ha : 1 ≤ a) (hb : 1 ≤ b) (other : b ≠ a) :
    (d.setPending a f).setPending b g = (d.setPending b g).setPending a f := by
  simp only [DoorLine.setPending]
  rw [DoorLine.station_setStation_other _ _ ha hb other, DoorLine.station_setStation_other _ _ hb ha other.symm,
    DoorLine.setStation_comm _ _ _ ha hb other]

theorem DoorLine.setPending_setPending (d : DoorLine) {a : Nat} (f g : Bool) (low : 1 ≤ a) (high : a ≤ 48) :
    (d.setPending a f).setPending a g = d.setPending a g := by
  simp only [DoorLine.setPending]
  rw [DoorLine.station_setStation_same _ _ low high, DoorLine.setStation_setStation]

theorem DoorLine.setPending_station_same (d : DoorLine) {a : Nat} (flag : Bool) (low : 1 ≤ a) (high : a ≤ 48) :
    (d.setPending a flag).station a = { d.station a with pending := flag } := d.station_setStation_same _ low high

theorem DoorLine.setPending_station_other (d : DoorLine) {a b : Nat} (flag : Bool) (ha : 1 ≤ a) (hb : 1 ≤ b) (other : b ≠ a) :
    (d.setPending a flag).station b = d.station b := d.station_setStation_other _ ha hb other

/-! ### One request (R85) -/

/-- Station a wants its outputs sent: it is PRESENT and pending. -/
def DoorLine.Wants (d : DoorLine) (a : Nat) : Prop := (d.station a).pending = true ∧ (d.station a).state = .present

/-- What a SET_OUTPUTS request does for a PRESENT station. -/
theorem DoorLine.requestOutputs_of_present {d : DoorLine} {a : Nat} (present : (d.station a).state = .present) :
    d.requestOutputs a =
      match d.entryOf a with
      | some e =>
        if e.inFlight then (d.setPending a true, false)
        else ({ d with queue := mergeSetOutputs a d.queue }.setPending a false, false)
      | none =>
        if d.queue.length < 16 then ((d.append a .setOutputs).setPending a false, true) else (d.setPending a true, false) := by
  unfold DoorLine.requestOutputs
  rw [present]
  rfl

/-- Controller d' has of d the records of the other stations, all but the pending flag of station b, and no new entries of the
other addresses. -/
structure DoorLine.TouchesOnly (d : DoorLine) (b : Nat) (d' : DoorLine) : Prop where
  others : ∀ a, 1 ≤ a → a ≠ b → d'.station a = d.station a
  own : b ≤ 48 → ∃ flag, d'.station b = { d.station b with pending := flag }
  entries : ∀ x ∈ d'.queue, x.address ≠ b → x ∈ d.queue

theorem DoorLine.TouchesOnly.setPending {d d' : DoorLine} {b : Nat} (hb : 1 ≤ b) (same : d'.stations = d.stations) (flag : Bool)
    (entries : ∀ x ∈ d'.queue, x.address ≠ b → x ∈ d.queue) : d.TouchesOnly b (d'.setPending b flag) := by
  have record (a : Nat) : d'.station a = d.station a := congrArg (fun v => Tab.get v (a - 1)) same
  refine ⟨fun a ha other => ?_, fun high => ⟨flag, ?_⟩, entries⟩
  · rw [d'.setPending_station_other flag hb ha other, record]
  · rw [d'.setPending_station_same flag hb high, record]

/-- What a request leaves of the other stations and of its own. -/
theorem DoorLine.requestOutputs_touchesOnly (d : DoorLine) {b : Nat} (hb : 1 ≤ b) : d.TouchesOnly b (d.requestOutputs b).1 := by
  unfold DoorLine.requestOutputs
  split
  · exact ⟨fun _ _ _ => rfl, fun _ => ⟨_, rfl⟩, fun x listed _ => listed⟩
  · split
    · split
      · exact .setPending hb rfl true fun x listed _ => listed
      · refine .setPending (d := d) (d' := { d with queue := mergeSetOutputs b d.queue }) hb rfl false fun x listed other => ?_
        obtain ⟨e, old, rfl⟩ := List.mem_map.1 listed
        split at other
        · rename_i own
          exact absurd own.1 other
        · rename_i own
          rwa [if_neg own]
    · split
      · refine .setPending (d := d) (d' := d.append b .setOutputs) hb rfl false fun x listed other => ?_
        rcases List.mem_append.1 listed with old | new
        · exact old
        · obtain rfl := List.mem_singleton.1 new
          exact absurd rfl other
      · exact .setPending hb rfl true fun x listed _ => listed
  · exact .setPending hb rfl true fun x listed _ => listed

/-- A request reads no pending flag. -/
theorem DoorLine.requestOutputs_setPending (d : DoorLine) {a b : Nat} (flag : Bool) (ha : 1 ≤ a) (hb : 1 ≤ b) (other : b ≠ a) :
    (d.setPending a flag).requestOutputs b =
      ((d.requestOutputs b).1.setPending a flag, (d.requestOutputs b).2) := by
  have record := d.setPending_station_other flag ha hb other
  have entry : (d.setPending a flag).entryOf b = d.entryOf b := rfl
  have queue (q : List OutEntry) (g : Bool) :
      ({ d.setPending a flag with queue := q } : DoorLine).setPending b g =
        (({ d with queue := q } : DoorLine).setPending b g).setPending a flag :=
    DoorLine.setPending_comm { d with queue := q } flag g ha hb other
  have plain (g : Bool) : (d.setPending a flag).setPending b g = (d.setPending b g).setPending a flag :=
    d.setPending_comm flag g ha hb other
  unfold DoorLine.requestOutputs
  rw [record, entry]
  split
  · rfl
  · split
    · split
      · rw [plain]
      · exact congrArg (·, false) (queue _ _)
    · rw [show (d.setPending a flag).queue = d.queue from rfl]
      split
      · exact congrArg (·, true) (queue _ _)
      · rw [plain]
  · rw [plain]

/-! ### The refill (R87) -/

/-- Stations that want nothing are passed over. -/
theorem DoorLine.refillFrom_append {d : DoorLine} {l : List Nat} (quiet : ∀ b ∈ l, ¬ d.Wants b) (l' : List Nat) :
    d.refillFrom (l ++ l') = d.refillFrom l' := by
  induction l with
  | nil => rfl
  | cons b rest ih =>
    have calm : ¬ ((d.station b).pending && decide ((d.station b).state = .present)) = true := by
      simpa [DoorLine.Wants] using quiet b List.mem_cons_self
    rw [List.cons_append, DoorLine.refillFrom]
    dsimp only
    rw [if_neg calm]
    exact ih fun x member => quiet x (List.mem_cons_of_mem b member)

/-- A station that wants its outputs sent asks for them. -/
theorem DoorLine.refillFrom_cons {d : DoorLine} {a : Nat} (wants : d.Wants a) (l : List Nat) :
    d.refillFrom (a :: l) = if (d.requestOutputs a).2 then (d.requestOutputs a).1 else (d.requestOutputs a).1.refillFrom l := by
  have asks : ((d.station a).pending && decide ((d.station a).state = .present)) = true := by
    simpa [DoorLine.Wants] using wants
  rw [DoorLine.refillFrom]
  dsimp only
  rw [if_pos asks]

/-- A refill over other stations reads no pending flag of this one. -/
theorem DoorLine.refillFrom_setPending (l : List Nat) (d : DoorLine) {a : Nat} (flag : Bool) (ha : 1 ≤ a)
    (others : ∀ b ∈ l, 1 ≤ b ∧ b ≠ a) : (d.setPending a flag).refillFrom l = (d.refillFrom l).setPending a flag := by
  induction l generalizing d with
  | nil => rfl
  | cons b rest ih =>
    obtain ⟨hb, other⟩ := others b List.mem_cons_self
    have later := fun d => ih d fun x member => others x (List.mem_cons_of_mem b member)
    simp only [DoorLine.refillFrom]
    rw [d.setPending_station_other flag ha hb other, d.requestOutputs_setPending flag ha hb other]
    split
    · split
      · rfl
      · exact later _
    · exact later d

/-- A refill leaves of a record all but the pending flag. -/
theorem DoorLine.refillFrom_station (l : List Nat) (d : DoorLine) (range : ∀ b ∈ l, 1 ≤ b ∧ b ≤ 48) {a : Nat} (ha : 1 ≤ a) :
    ∃ flag, (d.refillFrom l).station a = { d.station a with pending := flag } := by
  induction l generalizing d with
  | nil => exact ⟨_, rfl⟩
  | cons b rest ih =>
    obtain ⟨low, high⟩ := range b List.mem_cons_self
    have later := fun d => ih d fun x member => range x (List.mem_cons_of_mem b member)
    have asked : ∃ flag, (d.requestOutputs b).1.station a = { d.station a with pending := flag } := by
      obtain ⟨others, own, -⟩ := d.requestOutputs_touchesOnly low
      by_cases same : a = b
      · subst same
        exact own high
      · exact ⟨_, others a ha same⟩
    simp only [DoorLine.refillFrom]
    split
    · split
      · exact asked
      · obtain ⟨flag, record⟩ := asked
        obtain ⟨flag', record'⟩ := later (d.requestOutputs b).1
        exact ⟨flag', by rw [record', record]⟩
    · exact later d

/-- A refill leaves the record and the entries of a station that wants nothing. -/
theorem DoorLine.refillFrom_quiet (l : List Nat) (d : DoorLine) (range : ∀ b ∈ l, 1 ≤ b) {a : Nat} (ha : 1 ≤ a)
    (quiet : ¬ d.Wants a) :
    (d.refillFrom l).station a = d.station a ∧ ∀ x ∈ (d.refillFrom l).queue, x.address = a → x ∈ d.queue := by
  induction l generalizing d with
  | nil => exact ⟨rfl, fun x listed _ => listed⟩
  | cons b rest ih =>
    have hb := range b List.mem_cons_self
    have range' := fun x member => range x (List.mem_cons_of_mem b member)
    simp only [DoorLine.refillFrom]
    split
    · rename_i asks
      have other : a ≠ b := by
        rintro rfl
        exact quiet (by simpa [DoorLine.Wants] using asks)
      obtain ⟨others, -, queue⟩ := d.requestOutputs_touchesOnly hb
      have own (x : OutEntry) (listed : x ∈ (d.requestOutputs b).1.queue) (mine : x.address = a) : x ∈ d.queue :=
        queue x listed (mine ▸ other)
      split
      · exact ⟨others a ha other, own⟩
      · have calm : ¬ (d.requestOutputs b).1.Wants a := by
          unfold DoorLine.Wants
          rwa [others a ha other]
        obtain ⟨record, entries⟩ := ih (d.requestOutputs b).1 range' calm
        exact ⟨record.trans (others a ha other), fun x listed mine => own x (entries x listed mine) mine⟩
    · exact ih d range' quiet

theorem DoorLine.refill_station (d : DoorLine) {a : Nat} (ha : 1 ≤ a) :
    ∃ flag, d.refill.station a = { d.station a with pending := flag } :=
  DoorLine.refillFrom_station addresses d (fun _ => mem_addresses.1) ha

theorem DoorLine.refill_quiet (d : DoorLine) {a : Nat} (ha : 1 ≤ a) (quiet : ¬ d.Wants a) :
    d.refill.station a = d.station a ∧ ∀ x ∈ d.refill.queue, x.address = a → x ∈ d.queue :=
  DoorLine.refillFrom_quiet addresses d (fun _ member => (mem_addresses.1 member).1) ha quiet

/-- The addresses below a, and those above it. -/
theorem addresses_split {a : Nat} (low : 1 ≤ a) (high : a ≤ 48) :
    ∃ below above, addresses = below ++ a :: above ∧ (∀ b ∈ below, 1 ≤ b ∧ b < a) ∧ ∀ b ∈ above, 1 ≤ b ∧ b ≠ a := by
  refine ⟨(List.range (a - 1)).map (· + 1), (List.range (48 - a)).map (· + (a + 1)), ?_, ?_, ?_⟩
  · have split : List.range 48 = List.range (a - 1) ++ (a - 1) :: (List.range (48 - a)).map (· + a) := by
      refine List.ext_getElem (by simp; omega) fun i h h' => ?_
      rcases Nat.lt_trichotomy i (a - 1) with before | rfl | after
      · rw [List.getElem_append_left (by simpa using before)]
        simp
      · rw [List.getElem_append_right (by simp)]
        simp
      · obtain ⟨k, rfl⟩ : ∃ k, i = a - 1 + (k + 1) := ⟨i - a, by omega⟩
        rw [List.getElem_append_right (by rw [List.length_range]; omega)]
        simp only [List.length_range, Nat.add_sub_cancel_left, List.getElem_cons_succ, List.getElem_map, List.getElem_range]
        omega
    rw [addresses, split, List.map_append, List.map_cons, Nat.sub_add_cancel low, List.map_map]
    rfl
  · simp only [List.mem_map, List.mem_range]
    rintro b ⟨k, below, rfl⟩
    omega
  · simp only [List.mem_map, List.mem_range]
    rintro b ⟨k, -, rfl⟩
    omega

/-- The lowest station that wants its outputs sent decides how a refill goes on. -/
theorem DoorLine.refill_of_lowest {d : DoorLine} {a : Nat} (low : 1 ≤ a) (high : a ≤ 48) (wants : d.Wants a)
    (lowest : ∀ b, 1 ≤ b → b < a → ¬ d.Wants b) :
    ∃ above, (∀ b ∈ above, 1 ≤ b ∧ b ≠ a) ∧
      d.refill = (if (d.requestOutputs a).2 then (d.requestOutputs a).1 else (d.requestOutputs a).1.refillFrom above) ∧
      ∀ d' : DoorLine, (∀ b, 1 ≤ b → b ≠ a → d'.station b = d.station b) → ¬ d'.Wants a →
        d'.refill = d'.refillFrom above := by
  obtain ⟨below, above, split, under, apart⟩ := addresses_split low high
  refine ⟨above, apart, ?_, fun d' others quiet => ?_⟩
  · have quiet (b : Nat) (member : b ∈ below) : ¬ d.Wants b := lowest b (under b member).1 (under b member).2
    rw [DoorLine.refill, split, DoorLine.refillFrom_append quiet, DoorLine.refillFrom_cons wants]
  · have calm (b : Nat) (member : b ∈ below ++ [a]) : ¬ d'.Wants b := by
      rcases List.mem_append.1 member with before | own
      · obtain ⟨one, less⟩ := under b before
        unfold DoorLine.Wants
        rw [others b one (by omega)]
        exact lowest b one less
      · rwa [List.mem_singleton.1 own]
    rw [DoorLine.refill, split, ← List.singleton_append, ← List.append_assoc, DoorLine.refillFrom_append calm]

theorem DoorLine.entryOf_mem {d : DoorLine} {a : Nat} {e : OutEntry} (entry : d.entryOf a = some e) :
    e ∈ d.queue.filter fun x => decide (x.address = a) :=
  List.mem_filter.2
    ⟨List.mem_of_find?_eq_some entry, List.find?_some (p := fun x : OutEntry => decide (x.address = a)) entry⟩

theorem DoorLine.entryOf_isSome {d : DoorLine} {a : Nat} (own : (d.queue.filter fun x => decide (x.address = a)) ≠ []) :
    ∃ e, d.entryOf a = some e := by
  refine Option.ne_none_iff_exists'.1 fun none => own ?_
  rw [List.filter_eq_nil_iff]
  intro x listed same
  exact (d.entryOf_eq_none_iff a).1 none x listed (of_decide_eq_true same)

/-- A request that stays pending leaves the refill as it would be without it. -/
theorem DoorLine.refill_of_pending {d : DoorLine} {a : Nat} (low : 1 ≤ a) (high : a ≤ 48) (wants : d.Wants a)
    (lowest : ∀ b, 1 ≤ b → b < a → ¬ d.Wants b) (asks : d.requestOutputs a = (d.setPending a true, false)) :
    d.refill = ((d.setPending a false).refill).setPending a true := by
  obtain ⟨above, apart, refill, passes⟩ := DoorLine.refill_of_lowest low high wants lowest
  have quiet : ¬ (d.setPending a false).Wants a := by
    unfold DoorLine.Wants
    rw [d.setPending_station_same false low high]
    simp
  rw [refill, asks, if_neg (by simp),
    passes (d.setPending a false) (fun b hb other => d.setPending_station_other false low hb other) quiet,
    DoorLine.refillFrom_setPending above d true low apart, DoorLine.refillFrom_setPending above d false low apart,
    DoorLine.setPending_setPending _ _ _ low high]

/-- The refill of R87, case by case of the lowest station that wants its outputs sent. -/
theorem refillFollows (d : DoorLine) : RefillFollows d := by
  refine ⟨fun none => ?_, fun a low high wants lowest new room => ?_, fun a low high wants lowest => ⟨fun own waits => ?_,
    fun stays => ?_⟩⟩
  · have quiet (b : Nat) (member : b ∈ addresses) : ¬ d.Wants b := none b (mem_addresses.1 member).1 (mem_addresses.1 member).2
    rw [DoorLine.refill, ← List.append_nil addresses, DoorLine.refillFrom_append quiet]
    rfl
  · obtain ⟨above, -, refill, -⟩ := DoorLine.refill_of_lowest low high wants lowest
    rw [refill, DoorLine.requestOutputs_of_present wants.2, (d.entryOf_eq_none_iff a).2 new]
    dsimp only
    rw [if_pos room, if_pos rfl]
    rfl
  · obtain ⟨above, apart, refill, passes⟩ := DoorLine.refill_of_lowest low high wants lowest
    obtain ⟨e, entry⟩ := DoorLine.entryOf_isSome own
    have waiting : e.inFlight = false := waits e (DoorLine.entryOf_mem entry)
    have merged : mergeSetOutputs a d.queue =
        d.queue.map fun x => if x.address = a then { x with kind := .setOutputs } else x := by
      refine List.map_congr_left fun x listed => ?_
      by_cases same : x.address = a
      · rw [if_pos same, if_pos ⟨same, waits x (List.mem_filter.2 ⟨listed, by simpa using same⟩)⟩]
      · rw [if_neg same, if_neg fun both => same both.1]
    rw [refill, DoorLine.requestOutputs_of_present wants.2, entry]
    simp only [waiting, Bool.false_eq_true, if_false]
    rw [merged]
    have passed := passes (({ d with
      queue := d.queue.map fun x => if x.address = a then { x with kind := .setOutputs } else x } : DoorLine).setPending a false)
      (fun b hb other => d.setPending_station_other false low hb other)
    refine (passed fun quiet => ?_).symm
    have same : (d.setPending a false).Wants a := quiet
    unfold DoorLine.Wants at same
    rw [d.setPending_station_same false low high] at same
    simp at same
  · refine DoorLine.refill_of_pending low high wants lowest ?_
    rw [DoorLine.requestOutputs_of_present wants.2]
    rcases stays with ⟨own, flies⟩ | ⟨none, full⟩
    · obtain ⟨e, entry⟩ := DoorLine.entryOf_isSome own
      rw [entry]
      dsimp only
      rw [if_pos (flies e (DoorLine.entryOf_mem entry))]
    · have new : d.entryOf a = Option.none := by
        refine (d.entryOf_eq_none_iff a).2 fun x listed same => ?_
        exact absurd (by simpa using same) (List.filter_eq_nil_iff.1 none x listed)
      rw [new]
      dsimp only
      rw [if_neg (by omega)]

end Sys2Proof.Machine
end

section
/-! SUPPORT. Stations heard and silenced while an entry of theirs is in flight (R95, R96, R98, R104, R145): what becomes of the
record, what they post and what they hand on. -/

namespace Sys2Proof.Machine

/-! ### Requests that stay pending (R85) -/

/-- A request for the outputs of station a stays pending: it is enabled, and its own entry is in flight while it is PRESENT. -/
def DoorLine.Defers (d : DoorLine) (a : Nat) : Prop :=
  (d.station a).state ≠ .disabled ∧ ((d.station a).state = .present → ∃ e, d.entryOf a = some e ∧ e.inFlight = true)

theorem DoorLine.requestOutputs_of_defers {d : DoorLine} {a : Nat} (defers : d.Defers a) :
    (d.requestOutputs a).1 = d.setPending a true := by
  obtain ⟨enabled, flies⟩ := defers
  unfold DoorLine.requestOutputs
  split
  · contradiction
  · rename_i present
    obtain ⟨e, entry, flying⟩ := flies present
    rw [entry]
    simp [flying]
  · rfl

/-- Defers turns on the state of the record and the queue alone. -/
theorem DoorLine.Defers.setStation {d : DoorLine} {a : Nat} {n : Station} (defers : d.Defers a) (low : 1 ≤ a) (high : a ≤ 48)
    (state : n.state = (d.station a).state) : (d.setStation a n).Defers a := by
  unfold DoorLine.Defers
  rw [d.station_setStation_same n low high, state]
  exact defers

theorem Part.formOutputs_dl_of_defers {s : Part} {a : Nat} (defers : s.dl.Defers a) (low : 1 ≤ a) (high : a ≤ 48) :
    ∃ o flag, (s.formOutputs a).dl = s.dl.setStation a { s.station a with commanded := o, pending := flag } := by
  unfold Part.formOutputs
  dsimp only
  split
  · exact ⟨_, _, (s.dl.setStation_self a).symm⟩
  · refine ⟨s.formedOutputs a, true, ?_⟩
    have stays := defers.setStation (n := { s.station a with commanded := s.formedOutputs a }) low high rfl
    rw [DoorLine.requestOutputs_of_defers stays, DoorLine.setPending, s.dl.station_setStation_same _ low high,
      DoorLine.setStation_setStation]

/-! ### A change of a door -/

/-- The record n after a change of the door of the record st (R104). -/
structure Station.DoorMoves (st n : Station) (door : DoorState) (docked : Bool) : Prop where
  rest : n = { st with
    door := n.door, docked := n.docked, opens := n.opens, watch := n.watch, openedAt := n.openedAt, limitSent := n.limitSent
    commanded := n.commanded, pending := n.pending }
  doorMoves : n.door = door
  dockedMoves : n.docked = docked
  opens : n.opens = if st.door = .closed ∧ door = .opened then min 65535 (st.opens + 1) else st.opens
  starts : st.door ≠ .opened → door = .opened → docked = false → n.watch = some 0
  stops : st.door = .opened → door ≠ .opened → n.watch = none

theorem Station.DoorMoves.refl (st : Station) : st.DoorMoves st st.door st.docked where
  rest := rfl
  doorMoves := rfl
  dockedMoves := rfl
  opens := by rw [if_neg (by rintro ⟨closed, opened⟩; simp [closed] at opened)]
  starts other opened := absurd opened other
  stops opened other := absurd opened other

theorem Station.DoorMoves.moveDoor (st : Station) (door : DoorState) (docked : Bool) (now : OpenedAt) (sent : Bool)
    (commanded : Outputs) (pending : Bool) :
    st.DoorMoves { st.moveDoor door docked now with limitSent := sent, commanded := commanded, pending := pending } door
      docked where
  rest := by
    simp only [Station.moveDoor, Station.countOpening]
    split <;> rfl
  doorMoves := rfl
  dockedMoves := rfl
  opens := by
    simp only [Station.moveDoor, Station.countOpening, satAdd]
    split <;> rfl
  starts other opened free := by simp [Station.moveDoor, Station.watchAfter, opened, free, other]
  stops _ other := by simp [Station.moveDoor, Station.watchAfter, other]

/-- A door change while requests of the station stay pending moves its record alone. -/
theorem Part.changeDoor_dl_of_defers {s : Part} {a : Nat} (door : DoorState) (docked : Bool) (defers : s.dl.Defers a)
    (low : 1 ≤ a) (high : a ≤ 48) :
    ∃ n, (s.changeDoor a door docked).dl = s.dl.setStation a n ∧ (s.station a).DoorMoves n door docked := by
  by_cases same : (s.station a).door = door ∧ (s.station a).docked = docked
  · obtain ⟨rfl, rfl⟩ := same
    rw [Part.changeDoor_same ⟨rfl, rfl⟩]
    exact ⟨s.station a, (s.dl.setStation_self a).symm, .refl _⟩
  · rw [Part.changeDoor_eq same]
    obtain ⟨sent, moved⟩ := s.doorMoved_dl door docked low high
    generalize handed : (((s.doorMoved a door docked).postDoor a (s.station a)).owe (.evaluate (s.station a).cfg.zone)).owe
      (.demand (((s.doorMoved a door docked).postDoor a (s.station a)).zone (s.station a).cfg.zone).cfg.group) = p
    have dl : p.dl = s.dl.setStation a { (s.station a).moveDoor door docked s.clock.openedAt with limitSent := sent } := by
      rw [← handed, ← moved]
      simp [Part.owe]
    have state : ((s.station a).moveDoor door docked s.clock.openedAt).state = (s.station a).state := by
      simp only [Station.moveDoor, Station.countOpening]
      split <;> rfl
    obtain ⟨o, flag, formed⟩ :=
      Part.formOutputs_dl_of_defers (s := p) (dl ▸ defers.setStation low high state) low high
    refine ⟨_, ?_, .moveDoor (s.station a) door docked s.clock.openedAt sent o flag⟩
    rw [formed, Part.station, dl, s.dl.station_setStation_same _ low high, DoorLine.setStation_setStation]

theorem Part.changeDoor_hands (s : Part) (a : Nat) (door : DoorState) (docked : Bool) :
    (s.changeDoor a door docked).due = s.due ++ doorHanded s a door docked := by
  rw [s.changeDoor_due a door docked, doorHanded]
  by_cases same : (s.station a).door = door ∧ (s.station a).docked = docked
  · rw [if_pos same, if_neg (by simp [same])]
  · rw [if_neg same, if_pos (by
      by_contra both
      exact same (by simpa using both))]

/-- Work of the door line controller that hands events on. -/
theorem ChangesOnly.of_records {p q : Part} (clock : q.clock = p.clock) (cal : q.cal = p.cal) (mu : q.mu = p.mu)
    (zc : q.zc = p.zc) (air : q.air = p.air) (lb : q.lb = p.lb) (running : q.running = p.running)
    (still : q.link.still = p.link.still) : ChangesOnly [.doorLine, .notices, .handed] p q := by
  intro piece other
  by_cases conditioner : piece = .conditioner
  · subst conditioner
    exact zc
  · exact ChangesOnly.of_doorWork clock cal mu air lb running still piece (by simp_all)

/-! ### A station heard (R95, R98) -/

/-- The record of a station that is heard. -/
def Station.heardAt (st : Station) (timeout : Nat) : Station :=
  { st with state := .present, silence := some timeout, noAnswers := 0 }

theorem Part.hear_dl (s : Part) (a : Nat) (cause : StationCause) :
    (s.hear a cause).dl = s.dl.setStation a ((s.station a).heardAt s.dl.timeout) := by
  unfold Part.hear
  dsimp only
  split
  · rfl
  · simp [Part.setStation, Station.heardAt]

/-- A station that becomes PRESENT posts STATION (R110). -/
theorem Part.hear_posts (s : Part) {a : Nat} (cause : StationCause) (low : 1 ≤ a) (high : a ≤ 48) :
    Posts (stationTold a (s.station a).state .present cause (s.station a).lastResult) s (s.hear a cause) := by
  unfold Part.hear
  dsimp only
  split
  · rename_i present
    rw [present, stationTold, told, if_neg (by simp)]
    exact .nothing rfl
  · rename_i away
    exact .of_link (p' := s.setStation a ((s.station a).heardAt s.dl.timeout)) rfl
      (Part.postStationMove_posts (s.station a).state cause (s.station_setStation_same _ low high) (.inr ⟨away, rfl⟩))

theorem reportedOf_eq (b : Byte) : reportedOf b = doorFields b := by
  have below : b.toNat / 64 < 4 := by omega
  unfold reportedOf doorFields positionOf
  rw [Nat.mod_eq_of_lt below]
  generalize b.toNat / 64 = n at below
  interval_cases n <;> rfl

theorem reportedOf_door (b : Byte) : (reportedOf b).door = doorOf b := by
  have below : b.toNat / 64 < 4 := by omega
  unfold reportedOf Reported.door doorOf positionOf
  rw [Nat.mod_eq_of_lt below]
  generalize b.toNat / 64 = n at below
  interval_cases n <;> rfl

theorem reportedOf_docked (b : Byte) : (reportedOf b).docked = dockedOf b := by
  rw [Reported.docked, reportedOf_door]
  rfl

/-- The door byte of a PRESENT station changes its door (R98). -/
theorem Part.takeDoorByte_of_present {s : Part} {a : Nat} (b : Byte) (present : (s.station a).state = .present) :
    s.takeDoorByte a b =
      (s.setStation a { s.station a with reported := some (doorFields b) }).changeDoor a (doorOf b) (dockedOf b) := by
  unfold Part.takeDoorByte
  dsimp only
  rw [if_pos present, reportedOf_door, reportedOf_docked, reportedOf_eq]

/-- The record n of a station that was heard with a door byte, found as st, and then holds this condition byte. -/
structure Station.Heard (st n : Station) (timeout : Nat) (b : Byte) (condition : Option Byte) : Prop where
  state : n.state = .present
  silence : n.silence = some timeout
  noAnswers : n.noAnswers = 0
  cfg : n.cfg = st.cfg
  holds : n.condition = condition
  reported : n.reported = some (doorFields b)
  doorHeard : n.door = doorOf b
  dockedHeard : n.docked = dockedOf b
  opens : n.opens = if st.door = .closed ∧ doorOf b = .opened then min 65535 (st.opens + 1) else st.opens
  starts : st.door ≠ .opened → doorOf b = .opened → dockedOf b = false → n.watch = some 0
  stops : st.door = .opened → doorOf b ≠ .opened → n.watch = none

/-- Station a is heard in an answer, with its door byte. -/
def Part.answeredWith (s : Part) (a : Nat) (b : Byte) : Part := (s.hear a .answer).takeDoorByte a b

theorem Part.takeAnswer_eq (s : Part) (a : Nat) (door condition : Byte) :
    s.takeAnswer a door none = s.answeredWith a door ∧
      s.takeAnswer a door (some condition) = (s.answeredWith a door).takeCondition a condition := ⟨rfl, rfl⟩

/-- The record of a station that is heard, before its door changes. -/
def Station.heardAs (st : Station) (timeout : Nat) (b : Byte) : Station :=
  { st with state := .present, silence := some timeout, noAnswers := 0, reported := some (doorFields b) }

theorem Part.answeredWith_eq (s : Part) {a : Nat} (b : Byte) (low : 1 ≤ a) (high : a ≤ 48) :
    ∃ p : Part, s.answeredWith a b = p.changeDoor a (doorOf b) (dockedOf b) ∧
      p.dl = s.dl.setStation a ((s.station a).heardAs s.dl.timeout b) ∧ p.link = (s.hear a .answer).link ∧
      p.due = s.due ∧ p.clock = s.clock ∧ p.zc = s.zc := by
  have record : (s.hear a .answer).station a = (s.station a).heardAt s.dl.timeout := by
    unfold Part.station
    rw [s.hear_dl a .answer]
    exact s.dl.station_setStation_same _ low high
  refine ⟨_, Part.takeDoorByte_of_present b (by rw [record]; rfl), ?_, rfl, by simp, by simp, by simp⟩
  rw [record]
  change (s.hear a .answer).dl.setStation a _ = _
  rw [s.hear_dl a .answer]
  exact DoorLine.setStation_setStation _ _ _ _

theorem Part.answeredWith_dl {s : Part} {a : Nat} {e : OutEntry} (b : Byte) (low : 1 ≤ a) (high : a ≤ 48)
    (entry : s.dl.entryOf a = some e) (flies : e.inFlight = true) :
    ∃ n, (s.answeredWith a b).dl = s.dl.setStation a n ∧ (s.station a).Heard n s.dl.timeout b (s.station a).condition := by
  obtain ⟨p, taken, dl, -⟩ := s.answeredWith_eq b low high
  have record : p.station a = (s.station a).heardAs s.dl.timeout b := by
    unfold Part.station
    rw [dl]
    exact s.dl.station_setStation_same _ low high
  have defers : p.dl.Defers a := by
    refine ⟨?_, fun _ => ⟨e, ?_, flies⟩⟩
    · rw [show p.dl.station a = _ from record]
      simp [Station.heardAs]
    · rw [dl]
      exact entry
  obtain ⟨n, changed, moves⟩ := Part.changeDoor_dl_of_defers (doorOf b) (dockedOf b) defers low high
  rw [record] at moves
  obtain ⟨rest, door, docked, opens, starts, stops⟩ := moves
  refine ⟨n, ?_, by rw [rest]; rfl, by rw [rest]; rfl, by rw [rest]; rfl, by rw [rest]; rfl, by rw [rest]; rfl, by rw [rest]; rfl,
    door, docked, opens, starts, stops⟩
  rw [taken, changed, dl, DoorLine.setStation_setStation]

theorem Part.answeredWith_posts (s : Part) {a : Nat} (b : Byte) (low : 1 ≤ a) (high : a ≤ 48) :
    Posts (stationTold a (s.station a).state .present .answer (s.station a).lastResult ++
      doorTold a (s.station a) (doorOf b) (dockedOf b) (s.dl.limit (s.station a).cfg.zone)) s (s.answeredWith a b) := by
  obtain ⟨p, taken, dl, link, -, clock, -⟩ := s.answeredWith_eq b low high
  have record : p.station a = (s.station a).heardAs s.dl.timeout b := by
    unfold Part.station
    rw [dl]
    exact s.dl.station_setStation_same _ low high
  have still : (s.hear a .answer).link.still = s.link.still := by simp
  have second := p.changeDoor_posts (doorOf b) (dockedOf b) low high
  rw [record, dl] at second
  rw [taken]
  exact (s.hear_posts .answer low high).append (Posts.of_link link second) (Link.mask_of_still still)
    (by simp [clock]) (Link.transmitter_of_still still)

theorem Part.answeredWith_due (s : Part) {a : Nat} (b : Byte) (low : 1 ≤ a) (high : a ≤ 48) :
    (s.answeredWith a b).due = s.due ++ doorHanded s a (doorOf b) (dockedOf b) := by
  obtain ⟨p, taken, dl, -, due, -, zc⟩ := s.answeredWith_eq b low high
  have record : p.station a = (s.station a).heardAs s.dl.timeout b := by
    unfold Part.station
    rw [dl]
    exact s.dl.station_setStation_same _ low high
  rw [taken, p.changeDoor_hands, due, doorHanded, record, Part.zone, zc]
  rfl

theorem ChangesOnly.answeredWith (s : Part) (a : Nat) (b : Byte) :
    ChangesOnly [.doorLine, .notices, .handed] s (s.answeredWith a b) := by
  unfold Part.answeredWith
  exact .of_records (by simp) (by simp) (by simp) (by simp) (by simp) (by simp) (by simp) (by simp)

/-! ### A condition byte (R101) -/

theorem Part.takeCondition_dl (s : Part) (a : Nat) (c : Byte) :
    (s.takeCondition a c).dl = s.dl.setStation a { s.station a with condition := some c } := by
  unfold Part.takeCondition
  dsimp only
  split
  · rfl
  · split
    · rfl
    · simp [Part.setStation]

/-- A condition byte that differs from the one held posts STATION. -/
theorem Part.takeCondition_posts (s : Part) {a : Nat} (c : Byte) (present : (s.station a).state = .present) :
    Posts (told ((s.station a).condition ≠ none ∧ (s.station a).condition ≠ some c) .station a
      (u8 StationState.present.code ++ u8 StationState.present.code ++ u8 StationCause.condition.code ++ [c])) s
      (s.takeCondition a c) := by
  unfold Part.takeCondition told
  have code : (s.station a).state.code = StationState.present.code := congrArg StationState.code present
  dsimp only
  rw [← code]
  generalize held : (s.station a).condition = old
  cases old with
  | none =>
    rw [if_neg (by simp)]
    exact .nothing rfl
  | some old =>
    dsimp only
    by_cases same : old = c
    · rw [if_pos same, if_neg (by simp [same])]
      exact .nothing rfl
    · rw [if_neg same, if_pos (by simp [same])]
      exact .of_link (p' := s.setStation a { s.station a with condition := some c }) rfl (Posts.post _ .station a _)

/-! ### A station silenced (R96) -/

theorem Part.silence_of_away {s : Part} {a : Nat} (cause : StationCause) (away : (s.station a).state ≠ .present) :
    s.silence a cause = s := if_neg away

/-- The record of a station that goes SILENT, its door apart. -/
def Station.goneSilent (st : Station) : Station := { st with state := .silent, silence := none }

/-- The part with station a SILENT and told so, before its door goes UNKNOWN. -/
def Part.goneSilent (s : Part) (a : Nat) (cause : StationCause) : Part :=
  (s.setStation a (s.station a).goneSilent).postStationMove a .present cause

theorem Part.silence_of_present {s : Part} {a : Nat} (cause : StationCause) (present : (s.station a).state = .present) :
    s.silence a cause = (s.goneSilent a cause).changeDoor a .unknown false := if_pos present

theorem Part.goneSilent_station (s : Part) {a : Nat} (cause : StationCause) (low : 1 ≤ a) (high : a ≤ 48) :
    (s.goneSilent a cause).dl = s.dl.setStation a (s.station a).goneSilent ∧
      (s.goneSilent a cause).station a = (s.station a).goneSilent := by
  have dl : (s.goneSilent a cause).dl = s.dl.setStation a (s.station a).goneSilent := by
    simp [Part.goneSilent, Part.setStation]
  refine ⟨dl, ?_⟩
  unfold Part.station
  rw [dl]
  exact s.dl.station_setStation_same _ low high

/-- The record of a PRESENT station that is silenced. -/
theorem Part.silence_dl {s : Part} {a : Nat} (cause : StationCause) (low : 1 ≤ a) (high : a ≤ 48)
    (present : (s.station a).state = .present) :
    ∃ n, (s.silence a cause).dl = s.dl.setStation a n ∧ n.noAnswers = (s.station a).noAnswers ∧ n.state = .silent ∧
      n.silence = none ∧ n.door = .unknown ∧ n.docked = false := by
  obtain ⟨dl, record⟩ := s.goneSilent_station cause low high
  have silent : ((s.goneSilent a cause).dl.station a).state = .silent := congrArg Station.state record
  obtain ⟨n, changed, ⟨rest, door, docked, -⟩⟩ :=
    Part.changeDoor_dl_of_defers (s := s.goneSilent a cause) .unknown false ⟨by simp [silent], by simp [silent]⟩ low high
  rw [record] at rest
  refine ⟨n, ?_, by rw [rest]; rfl, by rw [rest]; rfl, by rw [rest]; rfl, door, docked⟩
  rw [Part.silence_of_present cause present, changed, dl, DoorLine.setStation_setStation]

/-- A station that is silenced posts STATION and DOOR (R110). -/
theorem Part.silence_posts {s : Part} {a : Nat} (cause : StationCause) (low : 1 ≤ a) (high : a ≤ 48)
    (present : (s.station a).state = .present) : Posts (leaveTold a (s.station a) .silent cause) s (s.silence a cause) := by
  obtain ⟨-, record⟩ := s.goneSilent_station cause low high
  rw [Part.silence_of_present cause present, leaveTold, present]
  have first : Posts (stationTold a .present .silent cause (s.station a).lastResult) s (s.goneSilent a cause) :=
    .of_link (p' := s.setStation a (s.station a).goneSilent) rfl
      (Part.postStationMove_posts .present cause (s.station_setStation_same _ low high)
        (.inl ⟨rfl, by simp [Station.goneSilent]⟩))
  have second := (s.goneSilent a cause).changeDoor_posts .unknown false low high
  rw [doorTold_unknown, record] at second
  have still : (s.goneSilent a cause).link.still = s.link.still := by simp [Part.goneSilent]
  exact first.append second (Link.mask_of_still still) (by simp) (Link.transmitter_of_still still)

theorem Part.silence_due {s : Part} {a : Nat} (cause : StationCause) (low : 1 ≤ a) (high : a ≤ 48)
    (present : (s.station a).state = .present) : (s.silence a cause).due = s.due ++ doorHanded s a .unknown false := by
  obtain ⟨-, record⟩ := s.goneSilent_station cause low high
  have zc : (s.goneSilent a cause).zc = s.zc := by simp [Part.goneSilent]
  have due : (s.goneSilent a cause).due = s.due := by simp [Part.goneSilent]
  rw [Part.silence_of_present cause present, Part.changeDoor_hands, due, doorHanded, record, Part.zone, zc]
  rfl

theorem ChangesOnly.silence (s : Part) (a : Nat) (cause : StationCause) :
    ChangesOnly [.doorLine, .notices, .handed] s (s.silence a cause) :=
  .of_records (by simp) (by simp) (by simp) (by simp) (by simp) (by simp) (by simp) (by simp)

end Sys2Proof.Machine
end

section
/-! SUPPORT. Answers to the frame in flight, by their spans (R65, R75): which row an answer is, and where it fails. -/

namespace Sys2Proof.Machine

/-! ### Answers as rows -/

/-- The bytes of a good answer of a kind, its check among them. -/
def EntryKind.answerLength : EntryKind → Nat
  | .query => 3
  | .setOutputs => 2

/-- An answer of another length is a missing answer. -/
theorem Part.answerEnded_of_length {s : Part} {e : OutEntry} {r : Received} (flying : s.dl.flying = some e)
    (length : r.bytes.length ≠ e.kind.answerLength) : s.answerEnded r = s.noAnswer := by
  unfold Part.answerEnded
  rw [flying]
  dsimp only
  split
  · rename_i kind _ bytes
    exact absurd (by rw [bytes, kind]; rfl) length
  · rename_i kind _ bytes
    exact absurd (by rw [bytes, kind]; rfl) length
  · rfl

/-- Answers that read as these events are the row that tells them. -/
theorem RowTells.answer_same {i : Instr} {s : State} {spans : List Nat} {r : Received} (flies : s.part.dl.flying ≠ none)
    (read : readAnswer spans = [.answer r]) (tells : RowTells i s [.answer r]) :
    exec (.stationFrameRejected (.answer spans)) s = exec i s :=
  RowTells.same (RowTells.answer flies spans) (read ▸ tells)

/-- Answers sent whole, by their length (R65, R75). -/
theorem exec_of_wholeAnswer {s : State} {e : OutEntry} (flying : s.part.dl.flying = some e) (door condition check : Byte)
    {close : Nat} (low : 130 ≤ close) (high : close ≤ 210) :
    (e.kind = .query → exec (.stationFrameRejected (.answer (close :: sendAnswer [door, condition, check]))) s =
      exec (.queryAnswer door condition check) s) ∧
    (e.kind = .setOutputs → exec (.stationFrameRejected (.answer (close :: sendAnswer [door, check]))) s =
      exec (.setOutputsAnswer door check) s) ∧
    ∀ bytes : List Byte, bytes.length ≠ e.kind.answerLength →
      exec (.stationFrameRejected (.answer (close :: sendAnswer bytes))) s = exec .noAnswer s := by
  have flies : s.part.dl.flying ≠ none := by simp [flying]
  have read (bytes : List Byte) := (spans_readBack bytes low high).1
  refine ⟨fun query => ?_, fun setOutputs => ?_, fun bytes length => ?_⟩
  · refine RowTells.answer_same flies (read _) (.one (exec_queryAnswer door condition check s) ?_)
    simp [Part.takeLineEvent, Part.answerEnded, flying, query]
  · refine RowTells.answer_same flies (read _) (.one (exec_setOutputsAnswer door check s) ?_)
    simp [Part.takeLineEvent, Part.answerEnded, flying, setOutputs]
  · exact RowTells.answer_same flies (read bytes)
      (.one (exec_noAnswer s) (Part.answerEnded_of_length (r := ⟨bytes, 0, .rested⟩) flying length).symm)

/-! ### Answers that fail -/

/-- Spans of an answer that has failed. -/
def FailsBy (spans : List Nat) : Prop := ∃ r : Received, r.ending = .symbol ∧ Hears .close false spans [.answer r] .ended

theorem FailsBy.wrongClose {d : Nat} (wrong : d < 130 ∨ 210 < d) (short : d < 220) : FailsBy [d] :=
  ⟨_, rfl, .one (Hears.wrongClose wrong short)⟩

theorem FailsBy.wrongMark {close mark : Nat} (low : 130 ≤ close) (high : close ≤ 210) (wrong : mark < 60 ∨ 100 < mark)
    (short : mark < 300) : FailsBy [close, mark] :=
  ⟨_, rfl, .cons (events := []) (Hears.rightClose low high) (.one (Hears.wrongMark wrong short))⟩

/-- The level after the spans of an answer's bytes. -/
theorem answerGoing_level {close mark : Nat} {spans loose : List Nat} {got : List Byte} (carry : SpansCarry spans got) :
    levelAfter false (close :: mark :: (spans ++ loose)).length = decide (loose.length % 2 = 1) := by
  have length := carry.1
  rw [levelAfter_false, decide_eq_decide]
  simp only [List.length_cons, List.length_append]
  omega

theorem FailsBy.misfit {close mark bad : Nat} {spans loose : List Nat} {got : List Byte} (carry : SpansCarry spans got)
    (few : SpansLoose loose) (low : 130 ≤ close) (high : close ≤ 210) (low' : 60 ≤ mark) (high' : mark ≤ 100)
    (misfits : SpanMisfits (decide (loose.length % 2 = 1)) bad ∨ loose.length % 2 = 0 ∧ 130 ≤ bad ∧ bad < 220) :
    FailsBy (close :: mark :: (spans ++ loose) ++ [bad]) := by
  obtain ⟨bits, -, hears⟩ := Hears.answerGoing carry few low high low' high'
  refine ⟨_, rfl, hears.append (.one (Hears.answerMisfit got bits ?_))⟩
  rw [answerGoing_level carry]
  rcases misfits with misfits | ⟨even, window⟩
  · exact .inl misfits
  · exact .inr ⟨by simp [even], window⟩

/-- What follows a failed answer and is ignored leaves it a missing answer (R75). -/
theorem FailsBy.exec {s : State} {told ignored : List Nat} (fails : FailsBy told) (flies : s.part.dl.flying ≠ none)
    (quiet : SpansIgnored (decide (told.length % 2 = 1)) ignored) :
    exec (.stationFrameRejected (.answer (told ++ ignored))) s = exec .noAnswer s := by
  obtain ⟨r, symbol, hears⟩ := fails
  rw [← levelAfter_false] at quiet
  have read := (hears.append (Hears.ignored quiet)).all
  exact RowTells.answer_same flies (by simpa [readAnswer, Listening.cut] using read) (.noAnswer s symbol)

/-- One more span that is no line clear, no stuck line and no rest. -/
theorem spansIgnored_cons {driven : Bool} {d : Nat} {rest : List Nat} (short : d < if driven then 300 else 220)
    (quiet : SpansIgnored (!driven) rest) : SpansIgnored driven (d :: rest) := by
  intro k d' span
  cases k with
  | zero =>
    obtain rfl := Option.some.inj span
    cases driven <;> simpa using short
  | succ k =>
    have later := quiet k d' span
    rcases Nat.mod_two_eq_zero_or_one k with even | odd
    · rw [show (k + 1) % 2 = 1 by omega]
      cases driven <;> simpa [even] using later
    · rw [show (k + 1) % 2 = 0 by omega]
      cases driven <;> simpa [odd] using later

/-- An answer whose close or answer mark is none is a missing answer (R75). -/
theorem exec_of_wrongOpening {s : State} (flies : s.part.dl.flying ≠ none) {close mark : Nat} {spans : List Nat}
    (short : close < 220) (short' : mark < 300) (wrong : close < 130 ∨ 210 < close ∨ mark < 60 ∨ 100 < mark)
    (quiet : SpansIgnored false spans) :
    exec (.stationFrameRejected (.answer (close :: mark :: spans))) s = exec .noAnswer s := by
  by_cases off : close < 130 ∨ 210 < close
  · exact (FailsBy.wrongClose off short).exec flies (spansIgnored_cons (driven := true) short' quiet)
  · exact (FailsBy.wrongMark (by omega) (by omega) (by omega) short').exec flies (by simpa using quiet)

/-- A line clear, a stuck line or a rest after an answer that has failed. -/
theorem FailsBy.continues {s : State} {told ignored : List Nat} (fails : FailsBy told) (flies : s.part.dl.flying ≠ none)
    (quiet : SpansIgnored (decide (told.length % 2 = 1)) ignored) :
    Continues (fun spans => .stationFrameRejected (.answer spans)) s (told ++ ignored) [.noAnswer]
      (decide ((told ++ ignored).length % 2 = 1)) := by
  obtain ⟨r, symbol, hears⟩ := fails
  rw [← levelAfter_false] at quiet
  refine continues_of_hearing (l := .ended) (events := [.answer r]) (fun tail => ?_) ?_
  · have both := (hears.append (Hears.ignored quiet)) tail
    have tells := RowTells.answer flies (told ++ ignored ++ tail)
    rw [readAnswer, both] at tells
    simpa [levelAfter_false] using tells
  · simpa [Listening.cut] using ToldBefore.one (RowTells.noAnswer s symbol) (by simp)

/-- A line clear, a stuck line or a rest at any place within an answer. -/
theorem answer_continues {s : State} (flies : s.part.dl.flying ≠ none) {close mark : Nat} {spans loose : List Nat}
    {got : List Byte} (carry : SpansCarry spans got) (few : SpansLoose loose) (low : 130 ≤ close) (high : close ≤ 210)
    (low' : 60 ≤ mark) (high' : mark ≤ 100) :
    let row := fun (spans : List Nat) => Instr.stationFrameRejected (.answer spans)
    let going := close :: mark :: (spans ++ loose)
    Continues row s [] [.noAnswer] false ∧
    Continues row s [close] [] true ∧
    Continues row s going (if loose.length % 2 = 1 then [] else [row going]) (decide (loose.length % 2 = 1)) := by
  intro row going
  refine ⟨?_, ?_, ?_⟩
  · exact continues_of_hearing (l := .close) (events := []) (fun tail => RowTells.answer flies tail)
      (.one (.noAnswer s rfl) (by simp [Listening.cut]))
  · refine continues_of_hearing (l := .mark) (events := []) (fun tail => ?_) .none
    have tells := RowTells.answer flies ([close] ++ tail)
    rwa [readAnswer, Hears.one (Hears.rightClose low high) tail] at tells
  · obtain ⟨bits, -, hears⟩ := Hears.answerGoing carry few low high low' high'
    refine continues_of_hearing (l := .bytes .answer got bits) (events := []) (fun tail => ?_) ?_
    · rw [← answerGoing_level (close := close) (mark := mark) carry, ← hears tail]
      exact RowTells.answer flies _
    · by_cases odd : loose.length % 2 = 1
      · simp only [odd, if_true, decide_true]
        exact .none
      · simp only [odd, if_false, decide_false, Bool.false_eq_true]
        refine .one ?_ (by simp [Listening.cut])
        rw [← hears.all]
        exact RowTells.answer flies going

end Sys2Proof.Machine
end

section
/-! SUPPORT. The end of a frame in flight by its answer (R74, R75, R86): a good one handed on, a missing one counted, the third in a
row silencing the station. -/

namespace Sys2Proof.Machine

/-! ### The head entry in flight -/

/-- Entry e heads the queue in flight, the only one of its address and the only one in flight. -/
structure DoorLine.HeadFlies (d : DoorLine) (e : OutEntry) (rest : List OutEntry) : Prop where
  queue : d.queue = e :: rest
  flies : e.inFlight = true
  others : ∀ x ∈ rest, x.inFlight = false ∧ x.address ≠ e.address

/-- The controller with its frame off the line and the head entry gone, its queue refilled (R86, R87). -/
def DoorLine.without (d : DoorLine) (rest : List OutEntry) : DoorLine := ({ d with queue := rest, sending := none }).refill

namespace DoorLine.HeadFlies

variable {d : DoorLine} {e : OutEntry} {rest : List OutEntry}

theorem flying (head : d.HeadFlies e rest) : d.flying = some e := by
  simp [DoorLine.flying, head.queue, head.flies]

theorem entryOf (head : d.HeadFlies e rest) : d.entryOf e.address = some e := by
  simp [DoorLine.entryOf, head.queue]

theorem setStation (head : d.HeadFlies e rest) (a : Nat) (n : Station) : (d.setStation a n).HeadFlies e rest :=
  ⟨head.queue, head.flies, head.others⟩

theorem endFlight (head : d.HeadFlies e rest) : d.endFlight = d.without rest := by
  have leaves : ({ d with sending := none } : DoorLine).queue.any (fun x => x.inFlight) = true := by
    simp [head.queue, head.flies]
  have stay : (d.queue.filter fun x => !x.inFlight) = rest := by
    rw [head.queue, List.filter_cons_of_neg (by simp [head.flies])]
    exact List.filter_eq_self.2 fun x listed => by simp [(head.others x listed).1]
  unfold DoorLine.endFlight DoorLine.leave
  rw [if_pos leaves]
  exact congrArg (fun q => DoorLine.refill { d with queue := q, sending := none }) stay

end DoorLine.HeadFlies

theorem DoorLine.unheard_iff (d : DoorLine) (e : OutEntry) :
    d.unheard e = true ↔ ¬ (e.orphan = false ∧ (d.station e.address).state ≠ .disabled) := by
  unfold DoorLine.unheard
  cases e.orphan <;> simp

theorem DoorLine.without_station (d : DoorLine) (rest : List OutEntry) {a : Nat} (low : 1 ≤ a) :
    ∃ flag, (d.without rest).station a = { d.station a with pending := flag } :=
  ({ d with queue := rest, sending := none } : DoorLine).refill_station low

/-! ### A good answer (R74) -/

theorem Part.receiveAnswer_of_bad {s : Part} {e : OutEntry} {kind : EntryKind} {door : Byte} {condition : Option Byte}
    {check : Byte} (flying : s.dl.flying = some e) (bad : e.kind ≠ kind ∨ check ≠ crc8 (door :: condition.toList)) :
    s.receiveAnswer kind door condition check = s.noAnswer := by
  unfold Part.receiveAnswer
  rw [flying]
  refine if_neg ?_
  rintro ⟨same, good⟩
  exact bad.elim (fun other => other same) fun other => other (of_decide_eq_true good).symm

theorem Part.receiveAnswer_of_good {s : Part} {e : OutEntry} {door : Byte} {condition : Option Byte}
    {check : Byte} (flying : s.dl.flying = some e) (good : check = crc8 (door :: condition.toList)) :
    (s.dl.unheard e = true → s.receiveAnswer e.kind door condition check = { s with dl := s.dl.endFlight }) ∧
      (s.dl.unheard e ≠ true → s.receiveAnswer e.kind door condition check =
        { s.takeAnswer e.address door condition with dl := (s.takeAnswer e.address door condition).dl.endFlight }) := by
  have accepted : e.kind = e.kind ∧ answerGood (door :: condition.toList) check = true := ⟨rfl, decide_eq_true good.symm⟩
  unfold Part.receiveAnswer
  rw [flying]
  dsimp only
  rw [if_pos accepted]
  exact ⟨fun unheard => by rw [if_pos unheard], fun heard => by rw [if_neg heard]⟩

/-- Part q after a good answer with this door byte to the entry e of part p, the entries of rest behind it. -/
def AnswerTaken (p : Part) (e : OutEntry) (rest : List OutEntry) (door : Byte) (q : Part) : Prop :=
  ∃ d : DoorLine, q.dl = d.without rest ∧ d = { p.dl with stations := d.stations } ∧
    (∀ b, 1 ≤ b → b ≤ 48 → b ≠ e.address → d.station b = p.station b) ∧
    (d.station e.address).state = .present ∧ (d.station e.address).silence = some p.dl.timeout ∧
    (d.station e.address).noAnswers = 0 ∧ (d.station e.address).cfg = (p.station e.address).cfg ∧
    DoorByteTaken (p.station e.address) q e.address door ∧
    q.due = p.due ++ doorHanded p e.address (doorOf door) (dockedOf door) ∧
    ChangesOnly [.doorLine, .notices, .handed] p q

/-- Part x heard station e.address of part p, with a door byte, and then holds this condition byte of it. -/
structure Part.HeardAnswer (p : Part) (e : OutEntry) (door : Byte) (condition : Option Byte) (n : Station) (x : Part) : Prop where
  dl : x.dl = p.dl.setStation e.address n
  record : (p.station e.address).Heard n p.dl.timeout door condition
  due : x.due = p.due ++ doorHanded p e.address (doorOf door) (dockedOf door)
  moves : ChangesOnly [.doorLine, .notices, .handed] p x

/-- A part whose station was heard, at the end of the flight. -/
theorem Part.HeardAnswer.answerTaken {p x : Part} {e : OutEntry} {rest : List OutEntry} {door : Byte} {n : Station}
    {condition : Option Byte} (heard : p.HeardAnswer e door condition n x) (head : p.dl.HeadFlies e rest)
    (low : 1 ≤ e.address) (high : e.address ≤ 48) :
    let q := ({ x with dl := x.dl.endFlight } : Part).close
    AnswerTaken p e rest door q ∧ (q.station e.address).condition = condition := by
  intro q
  obtain ⟨dl, record, due, moves⟩ := heard
  have ended : q.dl = (p.dl.setStation e.address n).without rest := by
    rw [← (head.setStation e.address n).endFlight, ← dl]
    rfl
  have this := p.dl.station_setStation_same n low high
  obtain ⟨flag, final⟩ := (p.dl.setStation e.address n).without_station rest low
  rw [this] at final
  have final : q.station e.address = { n with pending := flag } := by
    unfold Part.station
    rw [ended, final]
  refine ⟨⟨p.dl.setStation e.address n, ended, rfl, fun b low' _ other => p.dl.station_setStation_other n low low' other, ?_⟩,
    by rw [final]; exact record.holds⟩
  rw [this]
  refine ⟨record.state, record.silence, record.noAnswers, record.cfg, ?_, due, ?_⟩
  · unfold DoorByteTaken
    rw [final]
    exact ⟨record.reported, record.doorHeard, record.dockedHeard, record.opens, record.starts, record.stops⟩
  · exact ((moves.trans (.of_dl x x.dl.endFlight)).mono (by simp)).closed

theorem Station.Heard.withCondition {st n : Station} {timeout : Nat} {b : Byte} {held : Option Byte}
    (heard : st.Heard n timeout b held) (c : Byte) : st.Heard { n with condition := some c } timeout b (some c) :=
  ⟨heard.state, heard.silence, heard.noAnswers, heard.cfg, rfl, heard.reported, heard.doorHeard, heard.dockedHeard, heard.opens,
    heard.starts, heard.stops⟩

theorem Part.answeredWith_heard (p : Part) {e : OutEntry} {rest : List OutEntry} (head : p.dl.HeadFlies e rest)
    (low : 1 ≤ e.address) (high : e.address ≤ 48) (door : Byte) :
    ∃ n, p.HeardAnswer e door (p.station e.address).condition n (p.answeredWith e.address door) := by
  obtain ⟨n, dl, record⟩ := Part.answeredWith_dl door low high head.entryOf head.flies
  exact ⟨n, dl, record, p.answeredWith_due door low high, .answeredWith p e.address door⟩

/-- The condition byte of a QUERY answer after its door byte (R101). -/
theorem Part.HeardAnswer.takeCondition {p x : Part} {e : OutEntry} {door : Byte} {n : Station} {held : Option Byte}
    (heard : p.HeardAnswer e door held n x) (low : 1 ≤ e.address) (high : e.address ≤ 48) (c : Byte) :
    p.HeardAnswer e door (some c) { n with condition := some c } (x.takeCondition e.address c) ∧
      Posts (told (held ≠ none ∧ held ≠ some c) .station e.address
        (u8 StationState.present.code ++ u8 StationState.present.code ++ u8 StationCause.condition.code ++ [c])) x
        (x.takeCondition e.address c) := by
  obtain ⟨dl, record, due, moves⟩ := heard
  have station : x.station e.address = n := by
    unfold Part.station
    rw [dl]
    exact p.dl.station_setStation_same n low high
  have taken := x.takeCondition_dl e.address c
  rw [dl, station, DoorLine.setStation_setStation] at taken
  have posts := x.takeCondition_posts c (station ▸ record.state)
  rw [station, record.holds] at posts
  have moves' : ChangesOnly [.doorLine, .notices, .handed] x (x.takeCondition e.address c) :=
    .of_records (by simp) (by simp) (by simp) (by simp) (by simp) (by simp) (by simp) (by simp)
  exact ⟨⟨taken, record.withCondition c, by simpa using due, (moves.trans moves').mono (by simp)⟩, posts⟩

/-- A row that hands a good answer on (R74). -/
theorem Ends.of_heardAnswer {i : Instr} {s : State} {e : OutEntry} {rest : List OutEntry} {door check : Byte}
    {condition held : Option Byte} {n : Station} {x : Part} {ws : List Posting}
    (acts : exec i s = s.act fun p => p.receiveAnswer e.kind door condition check) (runs : s.part.running = true)
    (head : s.part.dl.HeadFlies e rest) (low : 1 ≤ e.address) (high : e.address ≤ 48)
    (good : check = crc8 (door :: condition.toList)) (hears : s.part.dl.unheard e ≠ true)
    (taken : s.part.takeAnswer e.address door condition = x) (heard : s.part.HeardAnswer e door held n x)
    (posts : Posts ws s.part x) :
    Ends i s fun q =>
      AnswerTaken s.part e rest door q ∧ (q.station e.address).condition = held ∧ Posts ws s.part q := by
  refine .of_act acts runs ?_
  rw [(Part.receiveAnswer_of_good head.flying good).2 hears, taken]
  obtain ⟨answered, holds⟩ := heard.answerTaken head low high
  exact ⟨answered, holds, Posts.closed posts⟩

/-- A good answer to SET_OUTPUTS (R74, R95, R98). -/
theorem Ends.of_setOutputsAnswer {s : State} {e : OutEntry} {rest : List OutEntry} {door check : Byte}
    (kind : e.kind = .setOutputs) (runs : s.part.running = true) (head : s.part.dl.HeadFlies e rest) (low : 1 ≤ e.address)
    (high : e.address ≤ 48) (good : check = crc8 [door]) (hears : s.part.dl.unheard e ≠ true) :
    let st := s.part.station e.address
    Ends (.setOutputsAnswer door check) s fun q =>
      AnswerTaken s.part e rest door q ∧ (q.station e.address).condition = st.condition ∧
        Posts (stationTold e.address st.state .present .answer st.lastResult ++
          doorTold e.address st (doorOf door) (dockedOf door) (s.part.dl.limit st.cfg.zone)) s.part q := by
  obtain ⟨n, heard⟩ := s.part.answeredWith_heard head low high door
  exact .of_heardAnswer (condition := none) (kind ▸ exec_setOutputsAnswer door check s) runs head low high good hears
    (s.part.takeAnswer_eq e.address door 0).1 heard (s.part.answeredWith_posts door low high)

/-- A good answer to QUERY (R74, R95, R98, R101). -/
theorem Ends.of_queryAnswer {s : State} {e : OutEntry} {rest : List OutEntry} {door condition check : Byte}
    (kind : e.kind = .query) (runs : s.part.running = true) (head : s.part.dl.HeadFlies e rest) (low : 1 ≤ e.address)
    (high : e.address ≤ 48) (good : check = crc8 [door, condition]) (hears : s.part.dl.unheard e ≠ true) :
    let st := s.part.station e.address
    Ends (.queryAnswer door condition check) s fun q =>
      AnswerTaken s.part e rest door q ∧ (q.station e.address).condition = some condition ∧
        Posts (stationTold e.address st.state .present .answer st.lastResult ++
          doorTold e.address st (doorOf door) (dockedOf door) (s.part.dl.limit st.cfg.zone) ++
          told (st.condition ≠ none ∧ st.condition ≠ some condition) .station e.address
            (u8 StationState.present.code ++ u8 StationState.present.code ++ u8 StationCause.condition.code ++ [condition]))
          s.part q := by
  obtain ⟨n, heard⟩ := s.part.answeredWith_heard head low high door
  obtain ⟨conditioned, told⟩ := heard.takeCondition low high condition
  have still : (s.part.answeredWith e.address door).link.still = s.part.link.still := by simp [Part.answeredWith]
  have posts := (s.part.answeredWith_posts door low high).append told (Link.mask_of_still still) (by simp)
    (Link.transmitter_of_still still)
  exact .of_heardAnswer (condition := some condition) (kind ▸ exec_queryAnswer door condition check s) runs head low high good
    hears (s.part.takeAnswer_eq e.address door condition).2 conditioned posts

/-- A good answer for a station disabled meanwhile ends the flight alone (R74). -/
theorem Becomes.of_unheardAnswer {i : Instr} {s : State} {e : OutEntry} {rest : List OutEntry} {door check : Byte}
    {condition : Option Byte} (acts : exec i s = s.act fun p => p.receiveAnswer e.kind door condition check)
    (runs : s.part.running = true) (head : s.part.dl.HeadFlies e rest)
    (good : check = crc8 (door :: condition.toList)) (unheard : s.part.dl.unheard e = true) :
    Becomes i s { s.part with dl := s.part.dl.without rest } := by
  refine .of_act acts runs ?_
  rw [(Part.receiveAnswer_of_good head.flying good).1 unheard, head.endFlight]

/-! ### A missing answer (R75) -/

theorem Part.noAnswer_of_unheard {s : Part} {e : OutEntry} {rest : List OutEntry} (head : s.dl.HeadFlies e rest)
    (unheard : s.dl.unheard e = true) : s.noAnswer = { s with dl := s.dl.without rest } := by
  unfold Part.noAnswer
  rw [head.flying]
  dsimp only
  rw [if_pos unheard, head.endFlight]

theorem Part.noAnswer_of_first {s : Part} {e : OutEntry} (flying : s.dl.flying = some e) (heard : s.dl.unheard e ≠ true)
    (few : (s.station e.address).noAnswers < 2) :
    s.noAnswer = { s with dl := (s.dl.setNoAnswers e.address ((s.station e.address).noAnswers + 1)).land } := by
  have below : (s.station e.address).noAnswers + 1 < 3 := by omega
  unfold Part.noAnswer
  rw [flying]
  dsimp only
  rw [if_neg heard]
  exact if_pos below

/-- The third missing answer in a row (log 39). -/
theorem Part.noAnswer_of_third {s : Part} {e : OutEntry} {rest : List OutEntry} (head : s.dl.HeadFlies e rest)
    (heard : s.dl.unheard e ≠ true) (third : 2 ≤ (s.station e.address).noAnswers) :
    s.noAnswer =
      ({ s with dl := (s.dl.setStation e.address { s.station e.address with noAnswers := 0 }).without rest }).silence e.address
        .noAnswer := by
  have reached : ¬ (s.station e.address).noAnswers + 1 < 3 := by omega
  unfold Part.noAnswer
  rw [head.flying]
  dsimp only
  rw [if_neg heard, ← (head.setStation _ _).endFlight]
  exact if_neg reached

/-- The third missing answer takes the entry from the queue and silences a PRESENT station. -/
theorem Ends.of_thirdMissing {s : State} {e : OutEntry} {rest : List OutEntry} (runs : s.part.running = true)
    (head : s.part.dl.HeadFlies e rest) (low : 1 ≤ e.address) (high : e.address ≤ 48) (heard : s.part.dl.unheard e ≠ true)
    (third : 2 ≤ (s.part.station e.address).noAnswers) :
    let a := e.address
    let st := s.part.station a
    Ends .noAnswer s fun q =>
      let d := (s.part.dl.setStation a { st with noAnswers := 0 }).without rest
      q.dl = { d with stations := q.dl.stations } ∧
      (∀ b, 1 ≤ b → b ≤ 48 → b ≠ a → q.station b = d.station b) ∧ (q.station a).noAnswers = 0 ∧
      (st.state = .present →
        (q.station a).state = .silent ∧ (q.station a).silence = none ∧ (q.station a).door = .unknown ∧
        (q.station a).docked = false) ∧
      (st.state = .present →
        Posts (leaveTold a st .silent .noAnswer) s.part q ∧ q.due = s.part.due ++ doorHanded s.part a .unknown false) ∧
      (st.state ≠ .present → q.dl = d ∧ q.due = s.part.due ∧ Posts [] s.part q) ∧
      ChangesOnly [.doorLine, .notices, .handed] s.part q := by
  intro a st
  refine .of_act (exec_noAnswer s) runs ?_
  rw [Part.noAnswer_of_third head heard third]
  obtain ⟨flag, record⟩ := (s.part.dl.setStation a { st with noAnswers := 0 }).without_station rest low
  rw [s.part.dl.station_setStation_same _ low high] at record
  generalize (s.part.dl.setStation a { st with noAnswers := 0 }).without rest = d at record
  have moves : ChangesOnly [.doorLine, .notices, .handed] s.part (Part.silence { s.part with dl := d } a .noAnswer) :=
    ((ChangesOnly.of_dl s.part d).trans (.silence _ a .noAnswer)).mono (by simp)
  by_cases present : st.state = .present
  · have here : (Part.station { s.part with dl := d } a).state = .present := (congrArg Station.state record).trans present
    obtain ⟨n, dl, count, state, silence, door, docked⟩ := Part.silence_dl .noAnswer low high here
    have posts := Part.silence_posts .noAnswer low high here
    have due := Part.silence_due .noAnswer low high here
    have old : Part.station { s.part with dl := d } a = { st with noAnswers := 0, pending := flag } := record
    rw [old] at count
    rw [leaveTold, old] at posts
    rw [doorHanded, old] at due
    generalize Part.silence { s.part with dl := d } a .noAnswer = p at dl posts due moves
    have stations : p.close.dl = d.setStation a n := dl
    have station : p.close.station a = n := by
      unfold Part.station
      rw [stations]
      exact d.station_setStation_same n low high
    refine ⟨by rw [stations]; rfl, fun b low' _ other => ?_, by rw [station]; exact count, fun _ => ?_, fun _ => ⟨?_, due⟩,
      fun away => absurd present away, moves.closed⟩
    · unfold Part.station
      rw [stations]
      exact d.station_setStation_other n low low' other
    · rw [station]
      exact ⟨state, silence, door, docked⟩
    · exact Posts.closed (Posts.of_link (p' := { s.part with dl := d }) rfl posts)
  · have away : (Part.station { s.part with dl := d } a).state ≠ .present := fun here =>
      present ((congrArg Station.state record).symm.trans here)
    rw [Part.silence_of_away .noAnswer away] at moves ⊢
    exact ⟨rfl, fun _ _ _ _ => rfl, congrArg Station.noAnswers record, fun here => absurd here present,
      fun here => absurd here present, fun _ => ⟨rfl, rfl, Posts.closed (.nothing rfl)⟩, moves.closed⟩

end Sys2Proof.Machine
end

section
/-! SUPPORT. The end of the controller's own answer (R73, R87). Settles O53 with the answers of the stations. -/

namespace Sys2Proof.Machine

/-! ### The controller's own answer -/

/-- The commanded outputs read no pending flag, and nothing of the queue. -/
theorem Part.formedOutputs_of_record {s : Part} {d : DoorLine} {a : Nat} {flag : Bool}
    (record : d.station a = { s.station a with pending := flag }) :
    Part.formedOutputs { s with dl := d } a = s.formedOutputs a := by
  have same : Part.station { s with dl := d } a = { s.station a with pending := flag } := record
  unfold Part.formedOutputs
  rw [same]

/-- A request for a PRESENT station leaves it pending, or with a SET_OUTPUTS entry (R85). -/
theorem DoorLine.requestOutputs_stands {d : DoorLine} {a : Nat} (low : 1 ≤ a) (high : a ≤ 48)
    (present : (d.station a).state = .present) :
    ((d.requestOutputs a).1.station a).pending = true ∨
      ∃ x ∈ (d.requestOutputs a).1.queue, x.address = a ∧ x.kind = .setOutputs := by
  rw [DoorLine.requestOutputs_of_present present]
  split
  · rename_i e entry
    split
    · exact .inl (by rw [d.setPending_station_same true low high])
    · rename_i waits
      obtain ⟨listed, own⟩ := List.mem_filter.1 (DoorLine.entryOf_mem entry)
      have own : e.address = a := of_decide_eq_true own
      refine .inr ⟨{ e with kind := .setOutputs }, List.mem_map.2 ⟨e, listed, ?_⟩, own, rfl⟩
      rw [if_pos ⟨own, by simpa using waits⟩]
  · split
    · exact .inr ⟨_, List.mem_append_right _ List.mem_cons_self, rfl, rfl⟩
    · exact .inl (by rw [d.setPending_station_same true low high])

/-- A waiting SET_OUTPUTS entry of station a. -/
def needless (a : Nat) (x : OutEntry) : Bool := decide (x.address = a) && decide (x.kind = .setOutputs) && !x.inFlight

theorem needless_eq_false {a : Nat} {x : OutEntry} (own : x.address = a) (stays : needless a x = false) :
    x.kind = .query ∨ x.inFlight = true := by
  unfold needless at stays
  cases kind : x.kind with
  | query => exact .inl rfl
  | setOutputs => exact .inr (by simpa [own, kind] using stays)

/-- The controller after its own answer to station a was sent whole: the station is not pending, and its waiting SET_OUTPUTS entry
is gone (R87, R103). -/
def DoorLine.answered (d : DoorLine) (a : Nat) : DoorLine := (({ d with answering := none }).setPending a false).leave (needless a)

theorem DoorLine.answered_stands (d : DoorLine) {a : Nat} (low : 1 ≤ a) (high : a ≤ 48) :
    (d.answered a).station a = { d.station a with pending := false } ∧
      ∀ x ∈ (d.answered a).queue, x.address = a → x.kind = .query ∨ x.inFlight = true := by
  have record := DoorLine.setPending_station_same { d with answering := none } false low high
  unfold DoorLine.answered DoorLine.leave
  split
  · have calm : ¬ DoorLine.Wants
        { ({ d with answering := none } : DoorLine).setPending a false with queue := d.queue.filter fun x => !needless a x } a := by
      rintro ⟨pending, -⟩
      exact absurd ((congrArg Station.pending record).symm.trans pending) (by simp)
    obtain ⟨this, entries⟩ := DoorLine.refill_quiet _ low calm
    refine ⟨this.trans record, fun x listed own => needless_eq_false own ?_⟩
    simpa using (List.mem_filter.1 (entries x listed own)).2
  · rename_i none
    refine ⟨record, fun x listed own => needless_eq_false own ?_⟩
    exact Bool.eq_false_iff.2 fun needless => none (List.any_eq_true.2 ⟨x, listed, needless⟩)

theorem Part.answerSent_eq {s : Part} {ans : Answer} (answering : s.dl.answering = some ans) (low : 1 ≤ ans.address)
    (high : ans.address ≤ 48) :
    s.answerSent = { s with
      dl := if s.formedOutputs ans.address = (s.station ans.address).lastFormed then s.dl.answered ans.address
        else ((s.dl.answered ans.address).requestOutputs ans.address).1 } := by
  have record : (s.dl.answered ans.address).station ans.address = { s.station ans.address with pending := false } :=
    (s.dl.answered_stands low high).1
  have formed := Part.formedOutputs_of_record record
  have last : (Part.station { s with dl := s.dl.answered ans.address } ans.address).lastFormed =
      (s.station ans.address).lastFormed := (congrArg Station.lastFormed record :)
  unfold Part.answerSent
  rw [answering]
  change (if Part.formedOutputs { s with dl := s.dl.answered ans.address } ans.address =
      (Part.station { s with dl := s.dl.answered ans.address } ans.address).lastFormed then _ else _) = _
  rw [formed, last]
  split <;> rfl

/-! ### The clauses of the statement -/

/-- Without a frame in flight no answer is told, and none is missing. -/
theorem answers_of_grounded {s : State} (runs : s.part.running = true) (none : s.part.dl.flying = none)
    (door condition check : Byte) (spans : List Nat) :
    Becomes (.queryAnswer door condition check) s s.part ∧ Becomes (.setOutputsAnswer door check) s s.part ∧
      Becomes .noAnswer s s.part ∧ Becomes (.stationFrameRejected (.answer spans)) s s.part := by
  have answer (kind : EntryKind) (condition : Option Byte) : s.part.receiveAnswer kind door condition check = s.part := by
    unfold Part.receiveAnswer
    rw [none]
  exact ⟨.of_act (exec_queryAnswer door condition check s) runs (answer _ _),
    .of_act (exec_setOutputsAnswer door check s) runs (answer _ _),
    .of_act (exec_noAnswer s) runs (Part.noAnswer_of_grounded none),
    .of_act (exec_stationFrameRejected _ s) runs (if_pos none)⟩

/-- An answer of another kind, or with a wrong check, is a missing answer (R75). -/
theorem exec_of_badAnswer {s : State} {e : OutEntry} (flying : s.part.dl.flying = some e) (door condition check : Byte) :
    (e.kind ≠ .query ∨ check ≠ crc8 [door, condition] → exec (.queryAnswer door condition check) s = exec .noAnswer s) ∧
      (e.kind ≠ .setOutputs ∨ check ≠ crc8 [door] → exec (.setOutputsAnswer door check) s = exec .noAnswer s) := by
  have missing {kind : EntryKind} {condition : Option Byte} (bad : e.kind ≠ kind ∨ check ≠ crc8 (door :: condition.toList)) :
      s.act (fun p => p.receiveAnswer kind door condition check) = exec .noAnswer s := by
    rw [exec_noAnswer]
    exact State.act_congr (congrArg Part.close (Part.receiveAnswer_of_bad flying bad))
  exact ⟨fun bad => (exec_queryAnswer door condition check s).trans (missing bad),
    fun bad => (exec_setOutputsAnswer door check s).trans (missing bad)⟩

/-- An earlier missing answer sends the entry back to waiting. -/
theorem Becomes.of_fewMissing {s : State} {e : OutEntry} (runs : s.part.running = true) (flying : s.part.dl.flying = some e)
    (heard : s.part.dl.unheard e ≠ true) (few : (s.part.station e.address).noAnswers < 2) :
    let st := s.part.station e.address
    Becomes .noAnswer s { s.part with dl :=
      { s.part.dl.setStation e.address { st with noAnswers := st.noAnswers + 1 } with
        queue := s.part.dl.queue.map fun x => { x with inFlight := false, orphan := false }, sending := none } } :=
  .of_act (exec_noAnswer s) runs (Part.noAnswer_of_first flying heard few)

/-- The end of the controller's own answer (R73, R87, R103). -/
theorem answerSent_ends {s : State} {ans : Answer} (runs : s.part.running = true)
    (answering : s.part.dl.answering = some ans) (low : 1 ≤ ans.address) (high : ans.address ≤ 48) :
    let a := ans.address
    let st := s.part.station a
    let left := s.part.dl.answered a
    (s.part.formedOutputs a = st.lastFormed →
      Becomes .answerSent s { s.part with dl := left } ∧ (left.station a).pending = false ∧
        ∀ x ∈ left.queue, x.address = a → x.kind = .query ∨ x.inFlight = true) ∧
    (s.part.formedOutputs a ≠ st.lastFormed →
      Becomes .answerSent s { s.part with dl := (left.requestOutputs a).1 } ∧
        (st.state = .present → ((left.requestOutputs a).1.station a).pending = true ∨
          ∃ x ∈ (left.requestOutputs a).1.queue, x.address = a ∧ x.kind = .setOutputs)) := by
  intro a st left
  obtain ⟨record, entries⟩ := s.part.dl.answered_stands low high
  have sent := Part.answerSent_eq answering low high
  refine ⟨fun same => ⟨.of_act (exec_answerSent s) runs ?_, congrArg Station.pending record, entries⟩,
    fun differs => ⟨.of_act (exec_answerSent s) runs ?_, fun present => ?_⟩⟩
  · rw [sent, if_pos same]
  · rw [sent, if_neg differs]
  · exact DoorLine.requestOutputs_stands low high ((congrArg Station.state record).trans present)

/-! ### The statement -/

/-- Settles O53: the refill, each end of the frame in flight, and the end of the controller's own answer. -/
theorem answersEndTheirFrames : Obligations.AnswersEndTheirFrames := by
  refine ⟨refillFollows, ?_, ?_⟩
  · intro s door condition check spans runs dl
    refine ⟨fun none => answers_of_grounded runs none door condition check spans, fun e rest queue flies others low high => ?_⟩
    have head : dl.HeadFlies e rest := ⟨queue, flies, others⟩
    have flying : s.part.dl.flying = some e := head.flying
    have inFlight : s.part.dl.flying ≠ none := by simp [flying]
    have unheard := dl.unheard_iff e
    obtain ⟨badQuery, badSetOutputs⟩ := exec_of_badAnswer flying door condition check
    intro a st heard withDl ends good present
    have hears (h : heard) : dl.unheard e ≠ true := fun un => unheard.1 un h
    refine ⟨fun kind right => ⟨fun h => ?_, fun h => ?_⟩, fun kind right => ⟨fun h => ?_, fun h => ?_⟩, badQuery,
      badSetOutputs, fun h few => ?_, fun h third => ?_, fun h => ?_, fun close bytes low' high' => ?_,
      fun close mark short short' wrong quiet => ?_, ?_⟩
    · exact Ends.of_queryAnswer kind runs head low high right (hears h)
    · exact .of_unheardAnswer (condition := some condition) (kind ▸ exec_queryAnswer door condition check s) runs head right
        (unheard.2 h)
    · exact Ends.of_setOutputsAnswer kind runs head low high right (hears h)
    · exact .of_unheardAnswer (condition := none) (kind ▸ exec_setOutputsAnswer door check s) runs head right (unheard.2 h)
    · exact .of_fewMissing runs flying (hears h) few
    · exact .of_thirdMissing runs head low high (hears h) third
    · exact .of_act (exec_noAnswer s) runs (Part.noAnswer_of_unheard head (unheard.2 h))
    · obtain ⟨query, setOutputs, other⟩ := exec_of_wholeAnswer flying door condition check low' high'
      exact ⟨query, setOutputs, other bytes⟩
    · exact exec_of_wrongOpening inFlight short short' wrong quiet
    · intro close wrong carry bare carried loose ignored bad got low' high' low'' high'' carries few misfits off short row going
      obtain ⟨first, second, within⟩ := answer_continues inFlight carries few low' high' low'' high''
      have broken := FailsBy.misfit carries few low' high' low'' high'' misfits
      refine ⟨fun quiet => ?_, first, second, within, fun told one quiet => ?_⟩
      · have level : decide ((going ++ [bad]).length % 2 = 1) = decide (loose.length % 2 = 0) := by
          have length := carries.1
          simp only [going, decide_eq_decide, List.length_append, List.length_cons, List.length_nil]
          omega
        rw [show going ++ bad :: spans = (going ++ [bad]) ++ spans by simp]
        exact broken.exec inFlight (by rwa [level])
      · have fails : FailsBy told := by
          simp only [List.mem_cons, List.not_mem_nil, or_false] at one
          obtain rfl | rfl | rfl := one
          · exact .wrongClose (by omega) (by omega)
          · exact .wrongMark low' high' (by omega) (by omega)
          · exact broken
        exact fails.continues inFlight quiet
  · intro s runs dl
    refine ⟨fun none => .of_act (exec_answerSent s) runs ?_, fun ans answering low high => answerSent_ends runs answering low high⟩
    unfold Part.answerSent
    rw [none]

end Sys2Proof.Machine
end

section
/-! SUPPORT. The timers of the door line (R85, R96, R97, R106, R107) and the door-open limit of a phase (R108): silence, the
probe cycle, the watches judged, and the hand-off taken. Settles O56. -/

namespace Sys2Proof.Machine

/-! ### Silence (R96) -/

/-- The record of a PRESENT station that is silenced: the door of the SILENT one goes UNKNOWN, and nothing else moves. -/
theorem Part.silence_moves {s : Part} {a : Nat} (cause : StationCause) (low : 1 ≤ a) (high : a ≤ 48)
    (present : (s.station a).state = .present) :
    ∃ n, (s.silence a cause).dl = s.dl.setStation a n ∧ (s.station a).goneSilent.DoorMoves n .unknown false := by
  obtain ⟨dl, record⟩ := s.goneSilent_station cause low high
  have silent : ((s.goneSilent a cause).dl.station a).state = .silent := congrArg Station.state record
  obtain ⟨n, changed, moves⟩ :=
    Part.changeDoor_dl_of_defers (s := s.goneSilent a cause) .unknown false ⟨by simp [silent], by simp [silent]⟩ low high
  rw [record] at moves
  exact ⟨n, by rw [Part.silence_of_present cause present, changed, dl, DoorLine.setStation_setStation], moves⟩

theorem Part.silenceExpires_of_running {s : Part} {a : Nat}
    (runs : (s.station a).silence ≠ some 0 ∨ (s.station a).state ≠ .present) : s.silenceExpires a = s := by
  unfold Part.silenceExpires
  split
  · rename_i out
    exact Part.silence_of_away .silence (runs.resolve_left fun waits => waits (of_decide_eq_true out))
  · rfl

theorem Part.silenceExpires_of_out {s : Part} {a : Nat} (out : (s.station a).silence = some 0) :
    s.silenceExpires a = s.silence a .silence := if_pos (decide_eq_true out)

/-- The silence timer of a PRESENT station runs out. -/
theorem Ends.of_silence {s : State} {a : Nat} (runs : s.part.running = true) (low : 1 ≤ a) (high : a ≤ 48)
    (out : (s.part.station a).silence = some 0) (present : (s.part.station a).state = .present) :
    let st := s.part.station a
    Ends (.silenceTimerExpiry a) s fun q =>
      let n := q.station a
      n.state = .silent ∧ n.silence = none ∧ n.door = .unknown ∧ n.docked = false ∧ n.opens = st.opens ∧
      n.demand = st.demand ∧ n.cfg = st.cfg ∧ q.due = s.part.due ++ doorHanded s.part a .unknown false ∧
      (∀ b, 1 ≤ b → b ≤ 48 → b ≠ a → q.station b = s.part.station b) ∧
      Posts (leaveTold a st .silent .silence) s.part q ∧ ChangesOnly [.doorLine, .notices, .handed] s.part q := by
  refine .of_act (exec_silenceTimerExpiry a s) runs ?_
  rw [if_pos (isAddress_of low high), Part.silenceExpires_of_out out]
  obtain ⟨n, dl, rest, door, docked, opens, -⟩ := Part.silence_moves .silence low high present
  have record : (s.part.silence a .silence).close.station a = n :=
    (congrArg (·.station a) dl).trans (s.part.dl.station_setStation_same n low high)
  dsimp only
  rw [record]
  refine ⟨by rw [rest]; rfl, by rw [rest]; rfl, door, docked, opens.trans (if_neg fun both => nomatch both.2),
    by rw [rest]; rfl, by rw [rest]; rfl, Part.silence_due .silence low high present, fun b low' _ other => ?_,
    (Part.silence_posts .silence low high present).closed, (ChangesOnly.silence s.part a .silence).closed⟩
  exact (congrArg (·.station b) dl).trans (s.part.dl.station_setStation_other n low low' other)

/-! ### The probe cycle (R85, R97) -/

/-- The stations of a list that a probe cycle asks: ABSENT or SILENT, without an entry. -/
def DoorLine.probed (d : DoorLine) (l : List Nat) : List Nat :=
  l.filter fun a =>
    decide (((d.station a).state = .absent ∨ (d.station a).state = .silent) ∧ ∀ e ∈ d.queue, e.address ≠ a)

/-- A waiting QUERY entry. -/
def queryOf (a : Nat) : OutEntry := { address := a, kind := .query, inFlight := false, orphan := false }

/-- A QUERY wanted for an enabled station (R85). -/
theorem DoorLine.requestQuery_of_enabled {d : DoorLine} {a : Nat} (enabled : (d.station a).state ≠ .disabled) :
    d.requestQuery a =
      match d.entryOf a with
      | some _ => (d, false)
      | none => if d.queue.length < 16 then ({ d with queue := d.queue ++ [queryOf a] }, false) else (d, true) := by
  unfold DoorLine.requestQuery
  split
  · contradiction
  · rfl

theorem DoorLine.probed_append (d : DoorLine) {a : Nat} {l : List Nat} (new : a ∉ l) :
    DoorLine.probed { d with queue := d.queue ++ [queryOf a] } l = d.probed l := by
  refine List.filter_congr fun b member => decide_eq_decide.2 ?_
  have other : a ≠ b := fun same => new (same ▸ member)
  simp only [List.mem_append, List.mem_singleton, or_imp, forall_and, forall_eq, queryOf, ne_eq, other, not_false_eq_true,
    and_true]
  rfl

/-- A probe cycle over a list appends as many of its queries as the queue has places for. -/
theorem DoorLine.probeFrom_eq (l : List Nat) (d : DoorLine) (once : l.Nodup) :
    d.probeFrom l = { d with queue := d.queue ++ ((d.probed l).take (16 - d.queue.length)).map queryOf } := by
  induction l generalizing d with
  | nil => simp [DoorLine.probeFrom, DoorLine.probed]
  | cons a rest ih =>
    obtain ⟨new, once⟩ := List.nodup_cons.1 once
    have passed (stays : ¬ (((d.station a).state = .absent ∨ (d.station a).state = .silent) ∧ ∀ e ∈ d.queue, e.address ≠ a)) :
        d.probed (a :: rest) = d.probed rest := List.filter_cons_of_neg (by simpa using stays)
    simp only [DoorLine.probeFrom]
    split
    · rename_i away
      have enabled : (d.station a).state ≠ .disabled := by rcases away with h | h <;> simp [h]
      rw [DoorLine.requestQuery_of_enabled enabled]
      cases entry : d.entryOf a with
      | some e =>
        have listed : ¬ ∀ e ∈ d.queue, e.address ≠ a := fun none => by
          rw [(d.entryOf_eq_none_iff a).2 none] at entry
          cases entry
        rw [passed fun both => listed both.2]
        exact ih d once
      | none =>
        have asked : d.probed (a :: rest) = a :: d.probed rest :=
          List.filter_cons_of_pos (decide_eq_true ⟨away, (d.entryOf_eq_none_iff a).1 entry⟩)
        dsimp only
        rw [asked]
        by_cases room : d.queue.length < 16
        · obtain ⟨k, places⟩ : ∃ k, 16 - d.queue.length = k + 1 := ⟨15 - d.queue.length, by omega⟩
          have fewer : 16 - (d.queue.length + 1) = k := by omega
          rw [if_pos room, if_neg Bool.false_ne_true, ih _ once, d.probed_append new, places]
          simp [fewer]
        · rw [if_neg room, if_pos rfl, show 16 - d.queue.length = 0 by omega]
          simp
    · rename_i present
      rw [passed fun both => present both.1]
      exact ih d once

/-! ### Watches judged (R107) -/

/-- A record whose watch was judged against a limit in minutes. -/
def Station.judged (st : Station) (minutes : Nat) : Station := { st with limitSent := st.limitSent || st.overLimit minutes }

/-- A record judged holds the mark of a notice sent exactly where its watch has reached the limit, or it was sent before. -/
theorem Station.limitSent_judged (st : Station) (minutes : Nat) :
    (st.limitSent || st.overLimit minutes) =
      (st.limitSent || match st.watch with
        | some w => decide (minutes * 60 ≤ w)
        | none => false) := by
  unfold Station.overLimit
  cases st.watch <;> cases st.limitSent <;> simp

theorem Part.judgeWatch_judges (s : Part) (a : Nat) :
    (s.judgeWatch a).dl = s.dl.setStation a ((s.station a).judged (s.dl.limit (s.station a).cfg.zone)) := by
  unfold Part.judgeWatch Station.judged
  dsimp only
  split
  · rename_i reached
    simp [Part.setStation, reached]
  · rename_i under
    simp only [Bool.not_eq_true] at under
    rw [under, Bool.or_false]
    exact (s.dl.setStation_self a).symm

/-- What the stations of a list post as their watches are judged. -/
def Part.longTolds (s : Part) (l : List Nat) : List Posting :=
  l.flatMap fun a =>
    longTold a (s.station a).watch (s.station a).limitSent (s.station a).cfg.zone (s.dl.limit (s.station a).cfg.zone)

/-- The watches of a list judged, one after another. -/
structure WatchesJudged (l : List Nat) (p q : Part) : Prop where
  dl : q.dl = { p.dl with stations := q.dl.stations }
  judged : ∀ a ∈ l, q.station a = (p.station a).judged (p.dl.limit (p.station a).cfg.zone)
  others : ∀ a, 1 ≤ a → a ∉ l → q.station a = p.station a
  posts : Posts (p.longTolds l) p q

theorem WatchesJudged.forEach (l : List Nat) (s : Part) (range : ∀ a ∈ l, 1 ≤ a ∧ a ≤ 48) (once : l.Nodup) :
    WatchesJudged l s (s.forEach l Part.judgeWatch) := by
  induction l generalizing s with
  | nil => exact ⟨rfl, fun _ member => absurd member List.not_mem_nil, fun _ _ _ => rfl, .nothing rfl⟩
  | cons a rest ih =>
    obtain ⟨low, high⟩ := range a List.mem_cons_self
    have range' := fun b member => range b (List.mem_cons_of_mem a member)
    obtain ⟨new, once⟩ := List.nodup_cons.1 once
    obtain ⟨dl, judged, others, posts⟩ := ih (s.judgeWatch a) range' once
    have first := s.judgeWatch_judges a
    have limit (z : Nat) : (s.judgeWatch a).dl.limit z = s.dl.limit z := by rw [first]; rfl
    have this : (s.judgeWatch a).station a = (s.station a).judged (s.dl.limit (s.station a).cfg.zone) :=
      (congrArg (·.station a) first).trans (s.dl.station_setStation_same _ low high)
    have other {b : Nat} (low' : 1 ≤ b) (apart : b ≠ a) : (s.judgeWatch a).station b = s.station b :=
      (congrArg (·.station b) first).trans (s.dl.station_setStation_other _ low low' apart)
    have later {b : Nat} (member : b ∈ rest) : (s.judgeWatch a).station b = s.station b :=
      other (range' b member).1 fun same => new (same ▸ member)
    refine ⟨dl.trans (by rw [first]; rfl), fun b member => ?_, fun b low' out => ?_, ?_⟩
    · rcases List.mem_cons.1 member with rfl | member
      · exact (others b low new).trans this
      · exact (judged b member).trans (by rw [later member, limit])
    · rw [List.mem_cons, not_or] at out
      exact (others b low' out.2).trans (other low' out.1)
    · have tells : (s.judgeWatch a).longTolds rest = s.longTolds rest :=
        List.flatMap_congr fun b member => by rw [later member, limit]
      rw [tells] at posts
      have still : (s.judgeWatch a).link.still = s.link.still := by simp
      exact (s.judgeWatch_posts a rfl).append posts (Link.mask_of_still still)
        (foldl_keeps (·.clock) _ (fun p b => (p.judgeWatch_keeps b).1) rest _).symm (Link.transmitter_of_still still)

/-- Work on the records that hands nothing on. -/
theorem ChangesOnly.of_watches {p q : Part} (clock : q.clock = p.clock) (cal : q.cal = p.cal) (mu : q.mu = p.mu)
    (zc : q.zc = p.zc) (air : q.air = p.air) (lb : q.lb = p.lb) (running : q.running = p.running) (due : q.due = p.due)
    (still : q.link.still = p.link.still) : ChangesOnly [.doorLine, .notices] p q := by
  intro piece other
  by_cases handed : piece = .handed
  · subst handed
    exact due
  · exact ChangesOnly.of_records clock cal mu zc air lb running still piece (by simp_all)

theorem ChangesOnly.doorSecond (s : Part) : ChangesOnly [.doorLine, .notices] s s.doorSecond :=
  .of_watches (by simp) (by simp) (by simp) (by simp) (by simp) (by simp) (by simp) (by simp) (by simp)

theorem ChangesOnly.takeLimit (s : Part) (z limit : Nat) (mark : Bool) :
    ChangesOnly [.doorLine, .notices] s (s.takeLimit z limit mark) :=
  .of_watches (by simp) (by simp) (by simp) (by simp) (by simp) (by simp) (by simp) (by simp) (by simp)

/-! ### The second timer (R106, R107) -/

theorem Part.longTolds_addresses (s : Part) :
    s.longTolds addresses = (List.range 48).flatMap fun k =>
      longTold (k + 1) (s.station (k + 1)).watch (s.station (k + 1)).limitSent (s.station (k + 1)).cfg.zone
        (s.dl.limit (s.station (k + 1)).cfg.zone) := flatMap_addresses _

/-- A second of the controller's timer: every record older, its watch judged. -/
theorem Part.doorSecond_judged (s : Part) :
    WatchesJudged addresses { s with dl := { s.dl with stations := Tab.each s.dl.stations Station.tick } } s.doorSecond :=
  .forEach addresses _ (fun _ => mem_addresses.1) addresses_nodup

theorem Part.ticked_station (s : Part) {a : Nat} (low : 1 ≤ a) (high : a ≤ 48) :
    Part.station { s with dl := { s.dl with stations := Tab.each s.dl.stations Station.tick } } a = (s.station a).tick :=
  Tab.get_each s.dl.stations _ (a - 1) (by omega)

/-- What a second posts: DOOR_OPEN_LONG of each watch that reaches its limit, by address (log 24). -/
theorem Part.doorSecond_posts (s : Part) :
    Posts ((List.range 48).flatMap fun k =>
      let st := s.station (k + 1)
      longTold (k + 1) (st.watch.map fun w => min 65535 (w + 1)) st.limitSent st.cfg.zone (s.dl.limit st.cfg.zone)) s
      s.doorSecond := by
  have posts := s.doorSecond_judged.posts
  rw [Part.longTolds_addresses] at posts
  refine Posts.of_link (p' := { s with dl := { s.dl with stations := Tab.each s.dl.stations Station.tick } }) rfl ?_
  convert posts using 1
  refine List.flatMap_congr fun k below => ?_
  rw [s.ticked_station (by omega) (by have := List.mem_range.1 below; omega)]
  rfl

/-! ### The hand-off of a phase (R106, R108) -/

/-- The oldest door-open limit that waits for a zone is the one taken, and it alone leaves the list. -/
theorem limitDue_of_waiting {z limit : Nat} {mark : Bool} {older : List Due} (later : List Due)
    (first : ∀ l m, Due.doorLimit z l m ∉ older) :
    limitDue z (older ++ .doorLimit z limit mark :: later) = some (limit, mark) ∧
      takeDue (isLimitOf z) (older ++ .doorLimit z limit mark :: later) =
        some (.doorLimit z limit mark, older ++ later) := by
  induction older with
  | nil => simp [limitDue, takeDue, isLimitOf]
  | cons d rest ih =>
    obtain ⟨limit', taken⟩ := ih fun l m member => first l m (List.mem_cons_of_mem d member)
    have passes : isLimitOf z d = false := by
      cases d with
      | doorLimit y l m =>
        refine decide_eq_false fun same => first l m ?_
        rw [same]
        exact List.mem_cons_self
      | _ => rfl
    refine ⟨?_, by rw [List.cons_append, takeDue, passes, taken]; rfl⟩
    cases d with
    | doorLimit y l m => exact (if_neg (of_decide_eq_false passes)).trans limit'
    | _ => exact limit'

theorem limitDue_of_none {z : Nat} {due : List Due} (none : ∀ l m, Due.doorLimit z l m ∉ due) : limitDue z due = .none := by
  induction due with
  | nil => rfl
  | cons d rest ih =>
    have rest := ih fun l m member => none l m (List.mem_cons_of_mem d member)
    cases d with
    | doorLimit y l m =>
      have other : y ≠ z := by
        rintro rfl
        exact none l m List.mem_cons_self
      exact (if_neg other).trans rest
    | _ => exact rest

/-- The limit taken is the oldest one handed, else that of the phase last handed, without a mark (log 31). -/
theorem Part.takePhaseLimit_eq {s : Part} {z limit : Nat} {mark : Bool} {older later : List Due}
    (first : ∀ l m, Due.doorLimit z l m ∉ older)
    (hands : s.due = older ++ .doorLimit z limit mark :: later ∨
      (s.due = older ∧ later = [] ∧ mark = false ∧ limit = s.cal.running.doorLimit (s.calZone z).effective)) :
    s.takePhaseLimit z = Part.takeLimit { s with due := older ++ later } z limit mark := by
  unfold Part.takePhaseLimit
  rcases hands with waits | ⟨due, rfl, rfl, rfl⟩
  · obtain ⟨oldest, taken⟩ := limitDue_of_waiting (limit := limit) (mark := mark) later first
    rw [waits, oldest]
    dsimp only
    rw [Part.settleDue, waits, taken]
  · rw [due, limitDue_of_none first, List.append_nil, ← due]
    rfl

/-- The door-open limit of zone z taken from a hand-off: the watches of its stations judged, and their shift counters cleared at
a shift start. -/
structure LimitTaken (z limit : Nat) (mark : Bool) (p q : Part) : Prop where
  holds : q.dl.limit z = limit
  limits : ∀ y, y ≠ z → q.dl.limit y = p.dl.limit y
  apart : ∀ a, 1 ≤ a → a ≤ 48 → (p.station a).cfg.zone ≠ z → q.station a = p.station a
  own : ∀ a, 1 ≤ a → a ≤ 48 → (p.station a).cfg.zone = z →
    q.station a =
      { (p.station a).judged limit with
        opens := if mark then 0 else (p.station a).opens
        openSeconds := if mark then 0 else (p.station a).openSeconds }
  posts : Posts
    ((List.range 48).flatMap fun k =>
      let st := p.station (k + 1)
      if st.cfg.zone = z then longTold (k + 1) st.watch st.limitSent z limit else []) p q

/-- Of a filtered list, what is said of each of its members. -/
theorem flatMap_filter_eq {α β : Type} (p : α → Bool) (f : α → List β) (l : List α) :
    (l.filter p).flatMap f = l.flatMap fun x => if p x then f x else [] := by
  induction l with
  | nil => rfl
  | cons x rest ih => cases keep : p x <;> simp [keep, ih]

/-- A zone's stations start a shift, or not. -/
theorem DoorLine.startShift_station (d : DoorLine) (z : Nat) {a : Nat} (low : 1 ≤ a) (high : a ≤ 48) :
    (d.startShift z).station a =
      if (d.station a).cfg.zone = z then { d.station a with opens := 0, openSeconds := 0 } else d.station a :=
  Tab.get_each d.stations _ (a - 1) (by omega)

theorem Part.takeLimit_taken (s : Part) {z : Nat} (limit : Nat) (mark : Bool) (within : z < 12) :
    LimitTaken z limit mark s (s.takeLimit z limit mark) := by
  let limited : Part := { s with dl := { s.dl with limits := Tab.put s.dl.limits z limit } }
  have held : limited.dl.limit z = limit := Tab.get_put_same _ _ _ within
  have listed {a : Nat} : a ∈ limited.dl.addressesOf z ↔ (1 ≤ a ∧ a ≤ 48) ∧ (s.station a).cfg.zone = z := by
    rw [DoorLine.addressesOf, List.mem_filter, mem_addresses, decide_eq_true_iff]
    rfl
  obtain ⟨dl, judged, others, posts⟩ := WatchesJudged.forEach (limited.dl.addressesOf z) limited
    (fun a member => (listed.1 member).1) (addresses_nodup.filter _)
  have work : s.takeLimit z limit mark =
      (let judged := limited.forEach (limited.dl.addressesOf z) Part.judgeWatch
       if mark then { judged with dl := judged.dl.startShift z } else judged) := rfl
  rw [work]
  generalize limited.forEach (limited.dl.addressesOf z) Part.judgeWatch = q at dl judged others posts
  dsimp only
  have limits (y : Nat) : q.dl.limit y = limited.dl.limit y := by rw [dl]; rfl
  have own {a : Nat} (low : 1 ≤ a) (high : a ≤ 48) (zone : (s.station a).cfg.zone = z) :
      q.station a = (s.station a).judged limit := by
    rw [← held]
    exact (judged a (listed.2 ⟨⟨low, high⟩, zone⟩)).trans (by rw [show limited.station a = s.station a from rfl, zone])
  have apart {a : Nat} (low : 1 ≤ a) (zone : (s.station a).cfg.zone ≠ z) : q.station a = s.station a :=
    others a low fun member => zone (listed.1 member).2
  have tells : limited.longTolds (limited.dl.addressesOf z) = (List.range 48).flatMap fun k =>
      let st := s.station (k + 1)
      if st.cfg.zone = z then longTold (k + 1) st.watch st.limitSent z limit else [] := by
    rw [← flatMap_addresses fun a =>
      if (s.station a).cfg.zone = z then longTold a (s.station a).watch (s.station a).limitSent z limit else []]
    rw [Part.longTolds, DoorLine.addressesOf, flatMap_filter_eq]
    refine List.flatMap_congr fun a _ => ?_
    change (if decide ((s.station a).cfg.zone = z) = true then longTold a (s.station a).watch (s.station a).limitSent
      (s.station a).cfg.zone (limited.dl.limit (s.station a).cfg.zone) else []) = _
    by_cases zone : (s.station a).cfg.zone = z
    · rw [if_pos zone, if_pos (decide_eq_true zone), zone, held]
    · rw [if_neg zone, if_neg (by simpa using zone)]
  rw [tells] at posts
  cases mark with
  | false =>
    exact ⟨(limits z).trans held, fun y other => (limits y).trans (Tab.get_put_other _ _ _ _ other.symm),
      fun a low _ zone => apart low zone, fun a low high zone => own low high zone, posts⟩
  | true =>
    refine ⟨(limits z).trans held, fun y other => (limits y).trans (Tab.get_put_other _ _ _ _ other.symm),
      fun a low high zone => ?_, fun a low high zone => ?_, posts⟩
    · refine (q.dl.startShift_station z low high).trans ?_
      rw [show q.dl.station a = s.station a from apart low zone, if_neg zone]
    · refine (q.dl.startShift_station z low high).trans ?_
      rw [show q.dl.station a = (s.station a).judged limit from own low high zone]
      exact if_pos zone

/-! ### The statement -/

/-- Settles O56: each timer of the door line, and the hand-off of a phase. -/
theorem doorTimersSilenceProbeAndCount : Obligations.DoorTimersSilenceProbeAndCount := by
  intro s runs dl limitSent
  refine ⟨fun a low high => ⟨fun stays => ?_, fun out present => .of_silence runs low high out present⟩, ?_, ?_, ?_⟩
  · refine .of_act (exec_silenceTimerExpiry a s) runs ?_
    rw [if_pos (isAddress_of low high), Part.silenceExpires_of_running stays]
  · refine .of_act (exec_probeTimerExpiry s) runs ?_
    rw [Part.probeCycle, DoorLine.probeFrom_eq addresses _ addresses_nodup]
    rfl
  · refine .of_act (exec_doorSecondTick s) runs ?_
    obtain ⟨line, judged, -, -⟩ := s.part.doorSecond_judged
    have posts := s.part.doorSecond_posts
    have moves := ChangesOnly.doorSecond s.part
    generalize s.part.doorSecond = q at line judged posts moves
    refine ⟨fun a low high => ?_, posts.closed, line, moves.closed⟩
    have record := judged a (mem_addresses.2 ⟨low, high⟩)
    rw [s.part.ticked_station low high, Station.judged, Station.limitSent_judged] at record
    exact record
  · intro z limit mark older later within first hands
    refine .of_act (exec_phaseHandoffDoorLine z s) runs ?_
    rw [if_pos within, Part.takePhaseLimit_eq first hands]
    obtain ⟨holds, limits, apart, own, posts⟩ :=
      Part.takeLimit_taken { s.part with due := older ++ later } limit mark within
    have moves := (ChangesOnly.of_due s.part (older ++ later)).trans (.takeLimit _ z limit mark)
    refine ⟨(Part.takeLimit_keeps _ z limit mark).2.2.2.2.2.2.1, holds, fun y _ other => limits y other,
      fun a low high => ⟨apart a low high, fun zone => ?_⟩, (Posts.of_link rfl posts).closed, (moves.mono (by simp)).closed⟩
    have record := own a low high zone
    rw [Station.judged, Station.limitSent_judged] at record
    exact record

end Sys2Proof.Machine
end

section
/-! SUPPORT. A station's record written with its outputs requested, whatever its state (R85, R104, R145), and what an operation
of the controller makes of every record. -/

namespace Sys2Proof.Machine

/-! ### One record written -/

/-- Controller d' holds the record n of station a in d, its outputs requested or not (R145). -/
def DoorLine.Takes (d : DoorLine) (a : Nat) (n : Station) (d' : DoorLine) : Prop :=
  d' = d.setStation a n ∨ d' = ((d.setStation a n).requestOutputs a).1

/-- Controller d' holds the record n of station a; of d stay the other records and all but the queue. -/
structure DoorLine.Holds (d : DoorLine) (a : Nat) (n : Station) (d' : DoorLine) : Prop where
  record : d'.station a = n
  others : ∀ b, 1 ≤ b → b ≠ a → d'.station b = d.station b
  frame : d' = { d with stations := d'.stations, queue := d'.queue }

theorem DoorLine.requestOutputs_frame (d : DoorLine) (a : Nat) :
    (d.requestOutputs a).1 =
      { d with stations := (d.requestOutputs a).1.stations, queue := (d.requestOutputs a).1.queue } := by
  unfold DoorLine.requestOutputs
  (repeat' split) <;> rfl

section
variable {d d' : DoorLine} {a : Nat} {n : Station} (low : 1 ≤ a) (high : a ≤ 48)
include low high

theorem DoorLine.Holds.setStation (d : DoorLine) (n : Station) : d.Holds a n (d.setStation a n) :=
  ⟨d.station_setStation_same n low high, fun _ low' other => d.station_setStation_other n low low' other, rfl⟩

/-- No request is made for a DISABLED station (R85). -/
theorem DoorLine.Takes.of_disabled (takes : d.Takes a n d') (disabled : n.state = .disabled) : d' = d.setStation a n := by
  rcases takes with rfl | rfl
  · rfl
  · simp [DoorLine.requestOutputs, d.station_setStation_same n low high, disabled]

theorem DoorLine.Takes.holds (takes : d.Takes a n d') : ∃ flag, d.Holds a { n with pending := flag } d' := by
  have written := DoorLine.Holds.setStation low high d n
  rcases takes with rfl | rfl
  · exact ⟨_, written⟩
  · obtain ⟨others, own, -⟩ := (d.setStation a n).requestOutputs_touchesOnly low
    obtain ⟨flag, record⟩ := own high
    refine ⟨flag, by rw [record, written.record], fun b low' other => (others b low' other).trans (written.others b low' other),
      ((d.setStation a n).requestOutputs_frame a).trans rfl⟩

omit high in
/-- Of two records written one after the other the second is held. -/
theorem DoorLine.Holds.again {x : Station} (holds : (d.setStation a x).Holds a n d') : d.Holds a n d' :=
  ⟨holds.record, fun b low' other => (holds.others b low' other).trans (d.station_setStation_other x low low' other),
    holds.frame.trans rfl⟩

/-- A record held and then written anew. -/
theorem DoorLine.Holds.write {x : Station} (holds : d.Holds a x d') (n : Station) : d.Holds a n (d'.setStation a n) :=
  ⟨d'.station_setStation_same n low high,
    fun b low' other => (d'.station_setStation_other n low low' other).trans (holds.others b low' other), by
      rw [holds.frame]
      rfl⟩

end

/-! ### Operations on one station -/

theorem Part.formOutputs_takes (s : Part) (a : Nat) :
    ∃ o, s.dl.Takes a { s.station a with commanded := o } (s.formOutputs a).dl := by
  unfold Part.formOutputs
  dsimp only
  split
  · exact ⟨(s.station a).commanded, .inl (s.dl.setStation_self a).symm⟩
  · exact ⟨s.formedOutputs a, .inr rfl⟩

theorem Part.setDemand_takes (s : Part) {a : Nat} (demand : Nat) (runOn : Option Nat) (low : 1 ≤ a) (high : a ≤ 48) :
    ∃ o, s.dl.Takes a { s.station a with demand := demand, commanded := o } (s.setDemand a demand runOn).dl := by
  unfold Part.setDemand
  generalize handed : ((s.setStation a { s.station a with demand := demand }).setRunOn a runOn).handCurtain a = p
  have dl : p.dl = s.dl.setStation a { s.station a with demand := demand } := by simp [← handed, Part.setStation]
  obtain ⟨o, takes⟩ := p.formOutputs_takes a
  refine ⟨o, ?_⟩
  rwa [DoorLine.Takes, Part.station, dl, s.dl.station_setStation_same _ low high, DoorLine.setStation_setStation] at takes

/-- A door change writes the record moved (R104), and its outputs may be requested. -/
theorem Part.changeDoor_takes (s : Part) {a : Nat} (door : DoorState) (docked : Bool) (low : 1 ≤ a) (high : a ≤ 48) :
    ∃ sent o, let st := s.station a
      st.door = door ∧ st.docked = docked ∧ (s.changeDoor a door docked).dl = s.dl ∨
        s.dl.Takes a { st.moveDoor door docked s.clock.openedAt with limitSent := sent, commanded := o }
          (s.changeDoor a door docked).dl := by
  by_cases same : (s.station a).door = door ∧ (s.station a).docked = docked
  · exact ⟨false, Outputs.off, .inl ⟨same.1, same.2, by rw [Part.changeDoor_same same]⟩⟩
  · rw [Part.changeDoor_eq same]
    obtain ⟨sent, moved⟩ := s.doorMoved_dl door docked low high
    generalize handed : (((s.doorMoved a door docked).postDoor a (s.station a)).owe (.evaluate (s.station a).cfg.zone)).owe
      (.demand (((s.doorMoved a door docked).postDoor a (s.station a)).zone (s.station a).cfg.zone).cfg.group) = p
    have dl : p.dl = s.dl.setStation a { (s.station a).moveDoor door docked s.clock.openedAt with limitSent := sent } := by
      rw [← handed, ← moved]
      simp [Part.owe]
    obtain ⟨o, takes⟩ := p.formOutputs_takes a
    refine ⟨sent, o, .inr ?_⟩
    rwa [DoorLine.Takes, Part.station, dl, s.dl.station_setStation_same _ low high, DoorLine.setStation_setStation] at takes

/-- A door change moves its record alone, and the queue. -/
theorem Part.changeDoor_holds (s : Part) {a : Nat} (door : DoorState) (docked : Bool) (low : 1 ≤ a) (high : a ≤ 48) :
    ∃ n, s.dl.Holds a n (s.changeDoor a door docked).dl ∧ (s.station a).DoorMoves n door docked := by
  obtain ⟨sent, o, ⟨rfl, rfl, stays⟩ | takes⟩ := s.changeDoor_takes door docked low high
  · exact ⟨s.station a, by rw [stays]; exact ⟨rfl, fun _ _ _ => rfl, rfl⟩, .refl _⟩
  · obtain ⟨flag, holds⟩ := takes.holds low high
    exact ⟨_, holds, .moveDoor _ door docked _ sent o flag⟩

/-! ### Every record -/

/-- From d to d' the line, the timeout and the error count stay, and every record moves as R says. -/
structure DoorLine.Moves (R : Station → Station → Prop) (d d' : DoorLine) : Prop where
  line : d'.line = d.line
  timeout : d'.timeout = d.timeout
  errors : d'.errors = d.errors
  records : ∀ b, R (d.station b) (d'.station b)

/-- A record keeps all but its demand, its outputs and its pending flag. -/
def Station.SameButOutputs (x y : Station) : Prop :=
  y = { x with demand := y.demand, commanded := y.commanded, lastFormed := y.lastFormed, pending := y.pending }

/-- A record keeps its configuration, and stays enabled or DISABLED. -/
def Station.SameSetting (x y : Station) : Prop := y.cfg = x.cfg ∧ (y.state = .disabled ↔ x.state = .disabled)

theorem Station.SameButOutputs.refl (x : Station) : x.SameButOutputs x := rfl

theorem Station.SameSetting.refl (x : Station) : x.SameSetting x := ⟨rfl, .rfl⟩

theorem Station.SameButOutputs.trans {x y z : Station} (first : x.SameButOutputs y) (second : y.SameButOutputs z) :
    x.SameButOutputs z := by
  unfold Station.SameButOutputs at *
  rw [second, first]

theorem Station.SameButOutputs.setting {x y : Station} (same : x.SameButOutputs y) : x.SameSetting y := by
  rw [Station.SameButOutputs] at same
  rw [same]
  exact ⟨rfl, .rfl⟩

theorem Station.SameSetting.trans {x y z : Station} (first : x.SameSetting y) (second : y.SameSetting z) : x.SameSetting z :=
  ⟨second.1.trans first.1, second.2.trans first.2⟩

namespace DoorLine.Moves

variable {R : Station → Station → Prop} {d d' d'' : DoorLine}

theorem trans (pass : ∀ x y z, R x y → R y z → R x z) (first : d.Moves R d') (second : d'.Moves R d'') : d.Moves R d'' where
  line := second.line.trans first.line
  timeout := second.timeout.trans first.timeout
  errors := second.errors.trans first.errors
  records b := pass _ _ _ (first.records b) (second.records b)

theorem mono {R' : Station → Station → Prop} (weaker : ∀ x y, R x y → R' x y) (moves : d.Moves R d') : d.Moves R' d' :=
  ⟨moves.line, moves.timeout, moves.errors, fun b => weaker _ _ (moves.records b)⟩

/-- Operations that keep the records. -/
theorem of_stations (refl : ∀ x, R x x) (line : d'.line = d.line) (timeout : d'.timeout = d.timeout)
    (errors : d'.errors = d.errors) (stations : d'.stations = d.stations) : d.Moves R d' :=
  ⟨line, timeout, errors, fun b => by
    rw [show d'.station b = d.station b from congrArg (Tab.get · (b - 1)) stations]
    exact refl _⟩

/-- A record written: whatever its number is, no other record moves. -/
theorem setStation (refl : ∀ x, R x x) (d : DoorLine) {a : Nat} {n : Station} (own : R (d.station a) n) :
    d.Moves R (d.setStation a n) := by
  refine ⟨rfl, rfl, rfl, fun b => ?_⟩
  by_cases here : a - 1 = b - 1
  · have same : d.station b = d.station a := congrArg (Tab.get d.stations) here.symm
    by_cases within : a - 1 < 48
    · have record : (d.setStation a n).station b = n := by
        rw [DoorLine.station, ← here]
        exact Tab.get_put_same _ _ _ within
      rw [record, same]
      exact own
    · have stays : (d.setStation a n).station b = d.station b :=
        congrArg (Tab.get · (b - 1)) (Tab.put_beyond d.stations (a - 1) n (by omega))
      rw [stays]
      exact refl _
  · have stays : (d.setStation a n).station b = d.station b := Tab.get_put_other d.stations _ _ n here
    rw [stays]
    exact refl _

end DoorLine.Moves

/-- The outputs of the stations alone have moved. -/
def DoorLine.OutputsMove (d d' : DoorLine) : Prop := d.Moves Station.SameButOutputs d'

/-- No station has been enabled, disabled or configured. -/
def DoorLine.SettingsStay (d d' : DoorLine) : Prop := d.Moves Station.SameSetting d'

theorem DoorLine.SettingsStay.trans {d d' d'' : DoorLine} (first : d.SettingsStay d') (second : d'.SettingsStay d'') :
    d.SettingsStay d'' := Moves.trans (fun _ _ _ => Station.SameSetting.trans) first second

theorem DoorLine.SettingsStay.setStation (d : DoorLine) {a : Nat} {n : Station} (own : (d.station a).SameSetting n) :
    d.SettingsStay (d.setStation a n) := Moves.setStation Station.SameSetting.refl d own

namespace DoorLine.OutputsMove

theorem trans {d d' d'' : DoorLine} (first : d.OutputsMove d') (second : d'.OutputsMove d'') : d.OutputsMove d'' :=
  Moves.trans (fun _ _ _ => Station.SameButOutputs.trans) first second

theorem settings {d d' : DoorLine} (moves : d.OutputsMove d') : d.SettingsStay d' :=
  Moves.mono (fun _ _ => Station.SameButOutputs.setting) moves

theorem refl (d : DoorLine) : d.OutputsMove d := Moves.of_stations Station.SameButOutputs.refl rfl rfl rfl rfl

theorem setStation (d : DoorLine) {a : Nat} {n : Station} (own : (d.station a).SameButOutputs n) :
    d.OutputsMove (d.setStation a n) := Moves.setStation Station.SameButOutputs.refl d own

/-- What is queued, in flight or answered is no matter to the records. -/
theorem frame (d : DoorLine) (queue : List OutEntry) (sending : Option (List Byte)) :
    d.OutputsMove { d with queue := queue, sending := sending } :=
  Moves.of_stations Station.SameButOutputs.refl rfl rfl rfl rfl

end DoorLine.OutputsMove

theorem DoorLine.setPending_moves (d : DoorLine) (a : Nat) (flag : Bool) : d.OutputsMove (d.setPending a flag) :=
  .setStation d rfl

theorem DoorLine.requestOutputs_moves (d : DoorLine) (a : Nat) : d.OutputsMove (d.requestOutputs a).1 := by
  have queued (q : List OutEntry) (flag : Bool) : d.OutputsMove (({ d with queue := q } : DoorLine).setPending a flag) :=
    (OutputsMove.frame d q d.sending).trans (setPending_moves _ a flag)
  unfold DoorLine.requestOutputs
  split
  · exact .refl d
  · split
    · split
      · exact d.setPending_moves a true
      · exact queued _ false
    · split
      · exact queued _ false
      · exact d.setPending_moves a true
  · exact d.setPending_moves a true

theorem DoorLine.refillFrom_moves (l : List Nat) (d : DoorLine) : d.OutputsMove (d.refillFrom l) := by
  induction l generalizing d with
  | nil => exact .refl d
  | cons a rest ih =>
    simp only [DoorLine.refillFrom]
    split
    · split
      · exact d.requestOutputs_moves a
      · exact (d.requestOutputs_moves a).trans (ih _)
    · exact ih d

theorem DoorLine.leave_moves (d : DoorLine) (p : OutEntry → Bool) : d.OutputsMove (d.leave p) := by
  unfold DoorLine.leave
  split
  · exact (OutputsMove.frame d _ d.sending).trans (refillFrom_moves addresses _)
  · exact .refl d

theorem DoorLine.endFlight_moves (d : DoorLine) : d.OutputsMove d.endFlight :=
  (OutputsMove.frame d d.queue none).trans (leave_moves { d with sending := none } _)

/-! ### Outputs formed afresh, evaluations and passes (R118, R145, R171) -/

/-- From p to q the outputs of the stations alone have moved. -/
def Part.OutputsMove (p q : Part) : Prop := p.dl.OutputsMove q.dl

namespace Part.OutputsMove

theorem of_eq {p q : Part} (same : q.dl = p.dl) : p.OutputsMove q := by
  rw [OutputsMove, same]
  exact .refl _

theorem refl (p : Part) : p.OutputsMove p := .of_eq rfl

theorem trans {p q r : Part} (first : p.OutputsMove q) (second : q.OutputsMove r) : p.OutputsMove r :=
  DoorLine.OutputsMove.trans first second

theorem forEach {f : Part → Nat → Part} (moves : ∀ s n, Part.OutputsMove s (f s n)) (l : List Nat) (s : Part) :
    s.OutputsMove (s.forEach l f) := by
  induction l generalizing s with
  | nil => exact .refl _
  | cons x rest ih => exact (moves s x).trans (ih _)

end Part.OutputsMove

theorem Part.formOutputs_moves (s : Part) (a : Nat) : s.OutputsMove (s.formOutputs a) := by
  have written : s.dl.OutputsMove (s.dl.setStation a { s.station a with commanded := s.formedOutputs a }) :=
    .setStation s.dl rfl
  simp only [Part.formOutputs]
  split
  · exact .refl _
  · exact written.trans (DoorLine.requestOutputs_moves _ a)

theorem Part.setDemand_moves (s : Part) (a demand : Nat) (runOn : Option Nat) :
    s.OutputsMove (s.setDemand a demand runOn) := by
  let demanded := s.setStation a { s.station a with demand := demand }
  have written : s.OutputsMove demanded := DoorLine.OutputsMove.setStation s.dl rfl
  have handed : demanded.OutputsMove ((demanded.setRunOn a runOn).handCurtain a) := .of_eq (by simp)
  exact (written.trans handed).trans (Part.formOutputs_moves _ a)

theorem Part.computeCurtain_moves (s : Part) (a : Nat) : s.OutputsMove (s.computeCurtain a) := s.setDemand_moves a _ _

theorem Part.evaluate_moves (s : Part) (z : Nat) : s.OutputsMove (s.evaluate z) := by
  simp only [Part.evaluate]
  refine .trans (.trans (.of_eq ?_) (.forEach Part.computeCurtain_moves _ _)) (.of_eq (Part.setZone_dl _ _ _))
  simp

theorem Part.driveOutputs_moves (s : Part) (before : Budget) (queue : List Nat) :
    s.OutputsMove (s.driveOutputs before queue) :=
  .forEach Part.formOutputs_moves _ { s with lb := if s.lb.image = before.image then s.lb else s.lb.refresh }

theorem Part.withTable_moves (s : Part) (lb : Budget) : s.OutputsMove (s.withTable lb) :=
  (Part.driveOutputs_moves { s with lb := lb.allocate } s.lb lb.settle.1.queue).trans
    (.of_eq (Part.budgetCheck_keeps _).2.2.2.1)

theorem Part.takeChange_moves (s : Part) (c : Change) : s.OutputsMove (s.takeChange c) := by
  simp only [Part.takeChange]
  split
  · exact s.withTable_moves _
  · exact .of_eq rfl

theorem Part.takeNth_moves (s : Part) (n : Nat) : s.OutputsMove (s.takeNth n) := by
  unfold Part.takeNth Part.takeOldest
  split
  · split
    · rename_i d rest _
      exact Part.takeChange_moves { s with due := rest } d
    · exact .refl _
  · exact s.withTable_moves s.lb

/-- What is taken before an answer is formed moves the outputs of the records alone (R99). -/
theorem Part.takeEarly_moves (s : Part) (e : Early) : s.OutputsMove (s.takeEarly e) := by
  cases e with
  | evaluation z =>
    simp only [Part.takeEarly]
    split
    · exact .trans (.of_eq (Part.settleDue_keeps s _).2.2.2.1) (Part.evaluate_moves _ z)
    · exact .refl _
  | demand g =>
    simp only [Part.takeEarly]
    split
    · exact .of_eq (by simp)
    · exact .refl _
  | pass n =>
    simp only [Part.takeEarly]
    split
    · exact s.takeNth_moves n
    · exact .refl _

theorem Part.takeEarlies_move (early : List Early) (s : Part) : s.OutputsMove (early.foldl Part.takeEarly s) := by
  induction early generalizing s with
  | nil => exact .refl _
  | cons e rest ih => exact (s.takeEarly_moves e).trans (ih _)

/-! ### A missing answer (R75) -/

theorem Part.judgeWatch_settings (s : Part) (a : Nat) : s.dl.SettingsStay (s.judgeWatch a).dl := by
  rw [s.judgeWatch_judges a]
  exact .setStation s.dl ⟨rfl, .rfl⟩

theorem Part.changeDoor_settings (s : Part) (a : Nat) (door : DoorState) (docked : Bool) :
    s.dl.SettingsStay (s.changeDoor a door docked).dl := by
  by_cases same : (s.station a).door = door ∧ (s.station a).docked = docked
  · rw [Part.changeDoor_same same]
    exact (DoorLine.OutputsMove.refl _).settings
  · rw [Part.changeDoor_eq same]
    refine .trans ?_ (Part.formOutputs_moves _ a).settings
    simp only [Part.owe_dl, Part.postDoor_keeps]
    have state : ((s.station a).moveDoor door docked s.clock.openedAt).state = (s.station a).state := by
      simp only [Station.moveDoor, Station.countOpening]
      split <;> rfl
    have moved : s.dl.SettingsStay (s.setStation a ((s.station a).moveDoor door docked s.clock.openedAt)).dl :=
      .setStation s.dl ⟨Station.moveDoor_cfg _ _ _ _, by rw [state]; rfl⟩
    unfold Part.doorMoved
    dsimp only
    split
    · exact moved.trans (Part.judgeWatch_settings _ a)
    · exact moved

theorem Part.silence_settings (s : Part) (a : Nat) (cause : StationCause) : s.dl.SettingsStay (s.silence a cause).dl := by
  by_cases present : (s.station a).state = .present
  · rw [Part.silence_of_present cause present]
    refine .trans ?_ (Part.changeDoor_settings _ a _ _)
    simp only [Part.goneSilent, Part.postStationMove_keeps]
    exact .setStation s.dl ⟨rfl, by
      rw [show (s.dl.station a).state = .present from present]
      simp [Station.goneSilent]⟩
  · rw [Part.silence_of_away cause present]
    exact (DoorLine.OutputsMove.refl _).settings

/-- A missing answer enables, disables and configures no station, and leaves the line's state. -/
theorem Part.noAnswer_settings (s : Part) : s.dl.SettingsStay s.noAnswer.dl := by
  have counts (a n : Nat) : s.dl.SettingsStay (s.dl.setNoAnswers a n) := .setStation s.dl ⟨rfl, .rfl⟩
  unfold Part.noAnswer
  split
  · exact (DoorLine.OutputsMove.refl _).settings
  · rename_i e _
    split
    · exact s.dl.endFlight_moves.settings
    · dsimp only
      split
      · exact (counts _ _).trans (DoorLine.OutputsMove.frame _ _ none).settings
      · exact ((counts _ 0).trans (DoorLine.endFlight_moves _).settings).trans
          (Part.silence_settings { s with dl := (s.dl.setNoAnswers e.address 0).endFlight } e.address .noAnswer)

end Sys2Proof.Machine
end

section
/-! SUPPORT. The commanded outputs of a station (R144), and the light level of a zone with its hand-offs (R134 to R138,
R146). -/

namespace Sys2Proof.Machine

/-! ### Commanded outputs -/

/-- A curtain heats where a CURTAIN load that the station owns is ON. -/
theorem Budget.anyOwnedOn_iff (lb : Budget) (kind : LoadKind) (owner : Nat) :
    ((lb.owned kind owner).any fun i => decide ((lb.load i).state = .on)) = true ↔
      ∃ i < 128, (lb.load i).cfg.kind = kind ∧ (lb.load i).cfg.owner = some owner ∧ (lb.load i).state = .on := by
  simp only [List.any_eq_true, Budget.owned, Tab.where, List.mem_filter, List.mem_range, Bool.and_eq_true, decide_eq_true_eq,
    and_assoc]
  rfl

theorem Part.formedOutputs_cases (p : Part) (a : Nat) :
    let o := p.formedOutputs a
    let demand := (p.station a).demand
    let heats := ∃ i < 128, (p.lb.load i).cfg.kind = .curtain ∧ (p.lb.load i).cfg.owner = some a ∧ (p.lb.load i).state = .on
    o.light = decide ((p.station a).door = .opened) ∧ (demand = 2 → heats → o.stage = 2) ∧
      (demand = 2 → ¬ heats → o.stage = 1) ∧ (demand = 1 → o.stage = 1) ∧ (demand = 0 → o.stage = 0) := by
  intro o demand heats
  have owned := p.lb.anyOwnedOn_iff .curtain a
  have stage : o.stage = if demand = 0 then 0 else
      if 2 ≤ demand && ((p.lb.owned .curtain a).any fun i => decide ((p.lb.load i).state = .on)) then 2 else 1 := rfl
  refine ⟨rfl, fun two on => ?_, fun two off => ?_, fun one => ?_, fun zero => ?_⟩
  · rw [stage, owned.2 on]
    simp [two]
  · rw [stage, Bool.eq_false_iff.2 (owned.not.2 off)]
    simp [two]
  · simp [stage, one]
  · simp [stage, zero]

/-! ### The light of a zone -/

/-- The light request of a zone with its source: an override alone, else the largest of the four terms, the first on equal
values (R134). -/
theorem Part.lightOf_cases (s : Part) (z : Nat) :
    let n := s.lightOf z
    let base := s.cal.running.baseLight (s.calZone z).effective
    let presence := if (s.zone z).presence.isSome then s.cal.running.header.presenceLight else 0
    let door := if s.anyDoorOpen z then s.cal.running.header.doorLight else 0
    let floor := (s.zone z).cfg.floor
    (∀ o, (s.calZone z).lightOverride = some o → n = (.override, o.level)) ∧
    ((s.calZone z).lightOverride = none →
      n.2 = max (max base presence) (max door floor) ∧
      n.1 = if n.2 = base then .base else if n.2 = presence then .presence else if n.2 = door then .door else .floor) := by
  intro n base presence door floor
  refine ⟨fun o held => by simp only [n, Part.lightOf, held], fun none => ?_⟩
  have terms : n = largestTerm (s.lightTerms z) := by simp only [n, Part.lightOf, none]
  rw [terms]
  simp only [Part.lightTerms, base, presence, door, floor, show s.effective z = (s.calZone z).effective from rfl]
  generalize s.cal.running.baseLight (s.calZone z).effective = b
  generalize s.cal.running.header.presenceLight = pl
  generalize s.cal.running.header.doorLight = dl
  generalize (s.zone z).cfg.floor = f
  cases (s.zone z).presence.isSome <;> cases s.anyDoorOpen z <;> simp [largestTerm] <;> grind

/-- The rest of what LightFollows says of a zone whose level is formed: the direct output, or the request handed. -/
theorem Part.computeLight_zone (s : Part) {z : Nat} (hz : z < 12) :
    ∃ direct handed, (s.computeLight z).zone z =
        { s.zone z with lr := (s.lightOf z).2, lightSource := (s.lightOf z).1, direct := direct, handedLight := handed } ∧
      (s.lb.count .light z = 0 → direct = if (s.zone z).cfg.dim.isSome then (s.lightOf z).2 else 0) ∧
      (s.lb.count .light z ≠ 0 → direct = 0) ∧
      (s.lb.count .light z ≠ 0 → (s.zone z).evaluated = true → handed = lightRequest (s.lightOf z).2) ∧
      ((s.zone z).evaluated = false → handed = (s.zone z).handedLight) ∧
      (s.computeLight z).due =
        s.due ++ if handed = (s.zone z).handedLight then [] else [.budget (.light z handed)] := by
  unfold Part.computeLight
  dsimp only
  split
  · rename_i none
    exact ⟨_, (s.zone z).handedLight, Part.zone_setZone _ _ _ hz, fun _ => rfl, fun some => absurd none some,
      fun some => absurd none some, fun _ => rfl, by simp⟩
  · rename_i some
    split
    · rename_i kept
      refine ⟨0, (s.zone z).handedLight, Part.zone_setZone _ _ _ hz, fun none => absurd none some, fun _ => rfl,
        fun _ evaluated => ?_, fun _ => rfl, by simp⟩
      exact kept.resolve_left (by simp [evaluated])
    · rename_i moved
      simp only [not_or] at moved
      refine ⟨0, lightRequest (s.lightOf z).2, Part.zone_setZone _ _ _ hz, fun none => absurd none some, fun _ => rfl,
        fun _ _ => rfl, fun fresh => absurd fresh moved.1, ?_⟩
      rw [if_neg (Ne.symm moved.2)]
      rfl

theorem Part.computeLight_follows (s : Part) {z : Nat} (hz : z < 12) :
    LightFollows s (s.computeLight z) z (s.zone z).presence.isSome := by
  obtain ⟨direct, handed, zone, drives, owned, hands, fresh, due⟩ := s.computeLight_zone hz
  obtain ⟨override, largest⟩ := s.lightOf_cases z
  unfold LightFollows
  dsimp only
  rw [zone, due]
  refine ⟨fun o held => by simp [override o held], largest, drives, owned, fun some evaluated => ?_, fun first => ?_⟩
  · exact ⟨hands some evaluated, fun moved => by simp [Ne.symm moved]⟩
  · refine ⟨fresh first, fun r listed => ?_⟩
    simpa [fresh first] using listed

/-- LightFollows looks at the calendar, the doors, the loads and the request handed before alone. -/
theorem LightFollows.of_before {p s q : Part} {z : Nat} {present : Bool} (follows : LightFollows s q z present)
    (cal : s.cal = p.cal) (lb : s.lb = p.lb) (doors : s.anyDoorOpen z = p.anyDoorOpen z)
    (handed : (s.zone z).handedLight = (p.zone z).handedLight)
    (due : ∀ r, Due.budget (.light z r) ∈ s.due → Due.budget (.light z r) ∈ p.due) : LightFollows p q z present := by
  unfold LightFollows Part.calZone at *
  rw [cal, lb, doors, handed] at follows
  obtain ⟨override, largest, drives, owned, hands, fresh⟩ := follows
  exact ⟨override, largest, drives, owned, hands, fun first =>
    ⟨(fresh first).1, fun r listed => due r ((fresh first).2 r listed)⟩⟩

theorem LightFollows.of_after {p q q' : Part} {z : Nat} {present : Bool} (follows : LightFollows p q z present)
    (zone : q'.zone z = q.zone z) (due : q'.due = q.due) : LightFollows p q' z present := by
  unfold LightFollows at *
  rwa [zone, due]

theorem Part.light_not_guardHanded (s : Part) (z : Nat) (r : LightRequest) : Due.budget (.light z r) ∉ s.guardHanded z := by
  unfold Part.guardHanded
  split <;> simp

/-- Presence told to a zone (R136, R137): its timer, its guard and its light, and no other zone's record. -/
theorem Part.takePresence_follows (s : Part) {z : Nat} (hz : z < 12) :
    let q := s.takePresence z
    (q.zone z).presence = some (s.cal.running.header.presenceHold * 60) ∧ (q.zone z).evaluated = (s.zone z).evaluated ∧
      (q.zone z).lightGuard = true ∧ LightFollows s q z true ∧ ∀ y, y ≠ z → q.zone y = s.zone y := by
  intro q
  let timed := s.setZone z { s.zone z with presence := some (s.cal.running.header.presenceHold * 60) }
  have zoneTimed : timed.zone z = { s.zone z with presence := some (s.cal.running.header.presenceHold * 60) } :=
    Part.zone_setZone _ _ _ hz
  have guard : timed.lightGuardOf z = true := by simp [Part.lightGuardOf, zoneTimed]
  obtain ⟨judged, others, due⟩ := timed.judgeLightGuard_hands z hz
  rw [guard, zoneTimed] at judged
  obtain ⟨direct, handed, zone, -⟩ := (timed.judgeLightGuard z).computeLight_zone hz
  have follows := (timed.judgeLightGuard z).computeLight_follows hz
  rw [judged] at zone follows
  change q.zone z = _ at zone
  refine ⟨by rw [zone], by rw [zone], by rw [zone], ?_, fun y other => ?_⟩
  · refine LightFollows.of_before follows (by simp [timed]) (by simp [timed]) ?_ (by rw [judged]) fun r listed => ?_
    · unfold Part.anyDoorOpen
      simp [timed]
    · rw [due, List.mem_append] at listed
      exact listed.resolve_right (timed.light_not_guardHanded z r)
  · have light : q.zone y = (timed.judgeLightGuard z).zone y := by
      simp only [q, Part.takePresence, Part.withPresence, Part.computeLight]
      (repeat' split) <;> exact Part.zone_setZone_other _ _ _ _ other
    rw [light, others y other]
    exact Part.zone_setZone_other _ _ _ _ other

end Sys2Proof.Machine
end

section
/-! SUPPORT. A frame of an enabled station handed to its record (R95, R98 to R102), and the answer formed of it (R99, R103). -/

namespace Sys2Proof.Machine

theorem Part.station_of_written {p : Part} {d : DoorLine} {a : Nat} {n : Station} (dl : p.dl = d.setStation a n) (low : 1 ≤ a)
    (high : a ≤ 48) : p.station a = n :=
  (congrArg (DoorLine.station · a) dl).trans (d.station_setStation_same n low high)

/-! ### Frames with a door byte -/

/-- Station a is heard in a frame of its own, with its door byte. -/
def Part.reportedWith (s : Part) (a : Nat) (b : Byte) : Part := (s.hear a .frame).takeDoorByte a b

theorem Part.reportedWith_eq (s : Part) {a : Nat} (b : Byte) (low : 1 ≤ a) (high : a ≤ 48) :
    ∃ p : Part, s.reportedWith a b = p.changeDoor a (doorOf b) (dockedOf b) ∧
      p.dl = s.dl.setStation a ((s.station a).heardAs s.dl.timeout b) ∧
      p.station a = (s.station a).heardAs s.dl.timeout b ∧ p.link = (s.hear a .frame).link ∧
      p.due = s.due ∧ p.clock = s.clock ∧ p.zc = s.zc := by
  have record := Part.station_of_written (s.hear_dl a .frame) low high
  have dl : ((s.hear a .frame).setStation a { (s.hear a .frame).station a with reported := some (doorFields b) }).dl =
      s.dl.setStation a ((s.station a).heardAs s.dl.timeout b) := by
    rw [record]
    change (s.hear a .frame).dl.setStation a _ = _
    rw [s.hear_dl a .frame]
    exact DoorLine.setStation_setStation _ _ _ _
  exact ⟨_, Part.takeDoorByte_of_present b (by rw [record]; rfl), dl, Part.station_of_written dl low high, rfl, by simp,
    by simp, by simp⟩

/-- A station that reports its door: heard, its door as the byte has it. -/
theorem Part.reportedWith_holds (s : Part) {a : Nat} (b : Byte) (low : 1 ≤ a) (high : a ≤ 48) :
    ∃ n, s.dl.Holds a n (s.reportedWith a b).dl ∧
      ((s.station a).heardAs s.dl.timeout b).DoorMoves n (doorOf b) (dockedOf b) := by
  obtain ⟨p, taken, dl, record, -⟩ := s.reportedWith_eq b low high
  obtain ⟨n, holds, moves⟩ := p.changeDoor_holds (doorOf b) (dockedOf b) low high
  rw [record] at moves
  rw [dl] at holds
  exact ⟨n, by rw [taken]; exact holds.again low, moves⟩

theorem Part.reportedWith_posts (s : Part) {a : Nat} (b : Byte) (low : 1 ≤ a) (high : a ≤ 48) :
    Posts (stationTold a (s.station a).state .present .frame (s.station a).lastResult ++
      doorTold a (s.station a) (doorOf b) (dockedOf b) (s.dl.limit (s.station a).cfg.zone)) s (s.reportedWith a b) := by
  obtain ⟨p, taken, dl, record, link, -, clock, -⟩ := s.reportedWith_eq b low high
  have still : (s.hear a .frame).link.still = s.link.still := by simp
  have second := p.changeDoor_posts (doorOf b) (dockedOf b) low high
  rw [record, dl] at second
  rw [taken]
  exact (s.hear_posts .frame low high).append (Posts.of_link link second) (Link.mask_of_still still)
    (by simp [clock]) (Link.transmitter_of_still still)

theorem Part.reportedWith_due (s : Part) {a : Nat} (b : Byte) (low : 1 ≤ a) (high : a ≤ 48) :
    (s.reportedWith a b).due = s.due ++ doorHanded s a (doorOf b) (dockedOf b) := by
  obtain ⟨p, taken, -, record, -, due, -, zc⟩ := s.reportedWith_eq b low high
  rw [taken, p.changeDoor_hands, due, doorHanded, record, Part.zone, zc]
  rfl

/-- What the record of a station heard with its door byte keeps of the one before. -/
theorem Station.DoorMoves.heard {st n : Station} {timeout : Nat} {b : Byte}
    (moves : (st.heardAs timeout b).DoorMoves n (doorOf b) (dockedOf b)) :
    st.Heard n timeout b st.condition ∧ n.lastResult = st.lastResult ∧ n.stationType = st.stationType ∧
      n.revision = st.revision := by
  obtain ⟨rest, door, docked, opens, starts, stops⟩ := moves
  exact ⟨⟨by rw [rest]; rfl, by rw [rest]; rfl, by rw [rest]; rfl, by rw [rest]; rfl, by rw [rest]; rfl, by rw [rest]; rfl,
    door, docked, opens, starts, stops⟩, by rw [rest]; rfl, by rw [rest]; rfl, by rw [rest]; rfl⟩

/-- Part x has handed a frame with a door byte to station a of part p, whose record is then n, and has posted ws (R98). -/
structure Part.ReportsDoor (p : Part) (a : Nat) (door : Byte) (n : Station) (ws : List Posting) (x : Part) : Prop where
  holds : p.dl.Holds a n x.dl
  record : (p.station a).Heard n p.dl.timeout door n.condition
  accepted : n.lastResult = some .accepted
  due : x.due = p.due ++ doorHanded p a (doorOf door) (dockedOf door)
  posts : Posts ws p x
  moves : ChangesOnly [.doorLine, .notices, .handed] p x

/-- Part p with the result ACCEPTED recorded for station a (R72). -/
def Part.accepted (p : Part) (a : Nat) : Part := { p with dl := p.dl.recordResult (some a) .accepted }

theorem Part.accepted_dl (p : Part) {a : Nat} (low : 1 ≤ a) (high : a ≤ 48) :
    (p.accepted a).dl = p.dl.setStation a { p.station a with lastResult := some .accepted } := by
  simp [Part.accepted, DoorLine.recordResult, isAddress_of low high, Part.station]

/-- The notices of a frame with a door byte: the station's becoming PRESENT and its door's change (R110). -/
def reportTold (p : Part) (a : Nat) (door : Byte) : List Posting :=
  stationTold a (p.station a).state .present .frame (some .accepted) ++
    doorTold a (p.station a) (doorOf door) (dockedOf door) (p.dl.limit (p.station a).cfg.zone)

/-- A door byte after the result, the type and the revision of a frame have been stored. -/
theorem Part.ReportsDoor.of_stored {p y : Part} {a : Nat} {kind revision : Option Byte} {ws : List Posting} (door : Byte)
    (low : 1 ≤ a) (high : a ≤ 48)
    (dl : y.dl = p.dl.setStation a
      { p.station a with lastResult := some .accepted, stationType := kind, revision := revision })
    (due : y.due = p.due) (zc : y.zc = p.zc) (still : y.link.still = p.link.still)
    (posts : Posts ws p y) (moves : ChangesOnly [.doorLine, .notices, .handed] p y) :
    ∃ n, p.ReportsDoor a door n (ws ++ reportTold p a door) (y.reportedWith a door) ∧ n.condition = (p.station a).condition ∧
      n.stationType = kind ∧ n.revision = revision := by
  have stored : y.station a =
      { p.station a with lastResult := some .accepted, stationType := kind, revision := revision } :=
    Part.station_of_written dl low high
  obtain ⟨n, holds, doorMoves⟩ := y.reportedWith_holds door low high
  have told := y.reportedWith_posts door low high
  rw [stored, dl] at doorMoves told
  rw [dl] at holds
  obtain ⟨record, result, type, revised⟩ := doorMoves.heard
  have condition : n.condition = (p.station a).condition := record.holds
  have moves' : ChangesOnly [.doorLine, .notices, .handed] y (y.reportedWith a door) := by
    unfold Part.reportedWith
    exact .of_records (by simp) (by simp) (by simp) (by simp) (by simp) (by simp) (by simp) (by simp)
  have clock' : (y.reportedWith a door).clock = y.clock := by simp [Part.reportedWith]
  refine ⟨n, ⟨holds.again low, ?_, result, ?_, ?_, (moves.trans moves').mono (by simp)⟩, condition, type, revised⟩
  · rw [condition]
    exact ⟨record.state, record.silence, record.noAnswers, record.cfg, record.holds, record.reported, record.doorHeard,
      record.dockedHeard, record.opens, record.starts, record.stops⟩
  · rw [y.reportedWith_due door low high, due, doorHanded, stored, Part.zone, zc]
    rfl
  · exact posts.append told (Link.mask_of_still still) clock'.symm (Link.transmitter_of_still still)

theorem Part.handFrame_doorReport (p : Part) {a : Nat} (door : Byte) (low : 1 ≤ a) (high : a ≤ 48) :
    ∃ n, p.ReportsDoor a door n (reportTold p a door) ((p.accepted a).handFrame a (.doorReport door)) ∧
      n.condition = (p.station a).condition := by
  obtain ⟨n, reports, condition, -⟩ := Part.ReportsDoor.of_stored (y := p.accepted a) (ws := []) door low high
    (p.accepted_dl low high) rfl rfl rfl (.nothing rfl) ((ChangesOnly.of_dl p _).mono (by simp))
  exact ⟨n, reports, condition⟩

/-- The STATION notice of a byte of a PRESENT station that its record keeps. -/
def keptTold (b : Prop) [Decidable b] (a : Nat) (cause : StationCause) (last : Byte) : List Posting :=
  told b .station a (u8 StationState.present.code ++ u8 StationState.present.code ++ u8 cause.code ++ [last])

/-- A HELLO stores the type and the revision, and is told of by a station already PRESENT (R100). -/
theorem Part.takeHello_stores (s : Part) (a : Nat) (kind revision : Byte) :
    (s.takeHello a kind revision).dl =
        s.dl.setStation a { s.station a with stationType := some kind, revision := some revision } ∧
      Posts (keptTold ((s.station a).state = .present) a .hello kind) s (s.takeHello a kind revision) := by
  unfold Part.takeHello keptTold
  dsimp only
  refine ⟨?_, .of_link (p' := s.setStation a { s.station a with stationType := some kind, revision := some revision }) rfl
    (.of_told _ _ .station a _)⟩
  split
  · simp [Part.setStation]
  · rfl

theorem Part.handFrame_hello (p : Part) {a : Nat} (kind revision door : Byte) (low : 1 ≤ a) (high : a ≤ 48) :
    ∃ n, p.ReportsDoor a door n (keptTold ((p.station a).state = .present) a .hello kind ++ reportTold p a door)
        ((p.accepted a).handFrame a (.hello kind revision door)) ∧
      n.stationType = some kind ∧ n.revision = some revision := by
  have stored := (p.accepted a).takeHello_stores a kind revision
  have record := Part.station_of_written (p.accepted_dl low high) low high
  rw [record, p.accepted_dl low high, DoorLine.setStation_setStation] at stored
  obtain ⟨n, reports, -, type, revised⟩ := Part.ReportsDoor.of_stored door low high stored.1
    (by simp [Part.accepted]) (by simp [Part.accepted]) (by simp [Part.accepted])
    (Posts.of_link rfl stored.2)
    (.of_records (by simp [Part.accepted]) (by simp [Part.accepted]) (by simp [Part.accepted]) (by simp [Part.accepted])
      (by simp [Part.accepted]) (by simp [Part.accepted]) (by simp [Part.accepted]) (by simp [Part.accepted]))
  exact ⟨n, reports, type, revised⟩

theorem Part.handFrame_status (p : Part) {a : Nat} (door condition : Byte) (low : 1 ≤ a) (high : a ≤ 48) :
    ∃ n, p.ReportsDoor a door n (reportTold p a door ++
        keptTold ((p.station a).condition ≠ none ∧ (p.station a).condition ≠ some condition) a .condition condition)
        ((p.accepted a).handFrame a (.status door condition)) ∧
      n.condition = some condition := by
  obtain ⟨n, reports, held⟩ := p.handFrame_doorReport door low high
  obtain ⟨holds, record, accepted, due, posts, moves⟩ := reports
  change p.dl.Holds a n ((p.accepted a).reportedWith a door).dl at holds
  change ((p.accepted a).reportedWith a door).due = _ at due
  change Posts _ p ((p.accepted a).reportedWith a door) at posts
  change ChangesOnly _ p ((p.accepted a).reportedWith a door) at moves
  change ∃ n, p.ReportsDoor a door n _ (((p.accepted a).reportedWith a door).takeCondition a condition) ∧ _
  have clock : ((p.accepted a).reportedWith a door).clock = p.clock := by simp [Part.reportedWith, Part.accepted]
  have still : ((p.accepted a).reportedWith a door).link.still = p.link.still := by simp [Part.reportedWith, Part.accepted]
  generalize (p.accepted a).reportedWith a door = x at *
  have station : x.station a = n := holds.record
  have told := x.takeCondition_posts condition (station ▸ record.state)
  rw [station, held] at told
  refine ⟨{ n with condition := some condition },
    ⟨?_, record.withCondition condition, accepted, by simpa using due, ?_, ?_⟩, rfl⟩
  · rw [x.takeCondition_dl a condition, station]
    exact holds.write low high _
  · exact posts.append told (Link.mask_of_still still) (by simp) (Link.transmitter_of_still still)
  · exact (moves.trans (.of_records (q := x.takeCondition a condition) (by simp) (by simp) (by simp) (by simp) (by simp)
      (by simp) (by simp) (by simp))).mono (by simp)

/-! ### A presence frame (R102) -/

/-- The record of a station heard in a PRESENCE_REPORT. -/
def Station.sensed (st : Station) (timeout : Nat) (motion : Byte) : Station :=
  { st.heardAt timeout with lastResult := some .accepted, motion := min 65535 (st.motion + motion.toNat) }

/-- The part whose station was heard in a PRESENCE_REPORT, before its zone is told. -/
theorem Part.handFrame_presence (p : Part) {a : Nat} (motion : Byte) (low : 1 ≤ a) (high : a ≤ 48) :
    ∃ x : Part, (p.accepted a).handFrame a (.presence motion) = x.takePresence (p.station a).cfg.zone ∧
      x.dl = p.dl.setStation a ((p.station a).sensed p.dl.timeout motion) ∧ x.due = p.due ∧ x.zc = p.zc ∧ x.lb = p.lb ∧
      x.cal = p.cal ∧ Posts (stationTold a (p.station a).state .present .frame (some .accepted)) p x ∧
      ChangesOnly [.doorLine, .notices, .handed] p x := by
  have accepted := p.accepted_dl low high
  have record := Part.station_of_written accepted low high
  have heard := (p.accepted a).hear_dl a .frame
  have told := (p.accepted a).hear_posts .frame low high
  rw [record] at told
  rw [record, accepted, DoorLine.setStation_setStation] at heard
  have this := Part.station_of_written heard low high
  have zone : (((p.accepted a).hear a .frame).station a).cfg.zone = (p.station a).cfg.zone := by
    rw [this]
    rfl
  refine ⟨_, congrArg (Part.takePresence _) zone, ?_, by simp [Part.accepted], by simp [Part.accepted], by simp [Part.accepted],
    by simp [Part.accepted], .of_unsent (q := (p.accepted a).hear a .frame) rfl rfl (.of_link rfl told),
    .of_records (by simp [Part.accepted]) (by simp [Part.accepted]) (by simp [Part.accepted]) (by simp [Part.accepted])
      (by simp [Part.accepted]) (by simp [Part.accepted]) (by simp [Part.accepted]) (by simp [Part.accepted])⟩
  change ((p.accepted a).hear a .frame).dl.setStation a _ = _
  rw [this, heard, DoorLine.setStation_setStation]
  rfl

/-! ### The frame accepted, and answered -/

/-- The record n of a station whose frame was ACCEPTED, found as st (R72, R95). -/
structure Station.Accepts (st n : Station) (timeout : Nat) : Prop where
  state : n.state = .present
  silence : n.silence = some timeout
  noAnswers : n.noAnswers = 0
  lastResult : n.lastResult = some .accepted
  cfg : n.cfg = st.cfg

theorem Part.ReportsDoor.accepts {p x : Part} {a : Nat} {door : Byte} {n : Station} {ws : List Posting}
    (reports : p.ReportsDoor a door n ws x) : (p.station a).Accepts n p.dl.timeout :=
  ⟨reports.record.state, reports.record.silence, reports.record.noAnswers, reports.accepted, reports.record.cfg⟩

/-- Whatever its kind, a frame handed to a station's record makes it PRESENT and moves no other record. -/
theorem Part.handFrame_accepts (p : Part) {a : Nat} (f : StationFrame) (low : 1 ≤ a) (high : a ≤ 48) :
    ∃ n, p.dl.Holds a n ((p.accepted a).handFrame a f).dl ∧ (p.station a).Accepts n p.dl.timeout := by
  cases f with
  | doorReport door =>
    obtain ⟨n, reports, -⟩ := p.handFrame_doorReport door low high
    exact ⟨n, reports.holds, reports.accepts⟩
  | hello kind revision door =>
    obtain ⟨n, reports, -⟩ := p.handFrame_hello kind revision door low high
    exact ⟨n, reports.holds, reports.accepts⟩
  | presence motion =>
    obtain ⟨x, handed, dl, -⟩ := p.handFrame_presence motion low high
    refine ⟨(p.station a).sensed p.dl.timeout motion, ?_, rfl, rfl, rfl, rfl, rfl⟩
    rw [handed, show (x.takePresence (p.station a).cfg.zone).dl = x.dl by simp, dl]
    exact .setStation low high p.dl _
  | status door condition =>
    obtain ⟨n, reports, -⟩ := p.handFrame_status door condition low high
    exact ⟨n, reports.holds, reports.accepts⟩

theorem Part.formAnswer_moves (s : Part) (a : Nat) : s.OutputsMove (s.formAnswer a) := by
  have written : s.dl.OutputsMove (s.dl.setStation a { s.station a with lastFormed := s.formedOutputs a }) :=
    .setStation s.dl rfl
  exact written.trans (DoorLine.Moves.of_stations Station.SameButOutputs.refl rfl rfl rfl rfl)

/-- The answer carries the outputs as they are formed, which are stored (R73, R103). -/
theorem Part.formAnswer_formed (s : Part) {a : Nat} (low : 1 ≤ a) (high : a ≤ 48) :
    let q := s.formAnswer a
    let o := (q.formedOutputs a).byte
    (q.station a).lastFormed = q.formedOutputs a ∧ q.dl.answering = some { address := a, bytes := [o, crc8 [o]] } := by
  have record : (s.formAnswer a).station a = { s.station a with lastFormed := s.formedOutputs a } :=
    s.dl.station_setStation_same _ low high
  have same : (s.formAnswer a).formedOutputs a = s.formedOutputs a := by
    unfold Part.formedOutputs
    rw [record]
    simp
  intro q o
  refine ⟨by rw [same, record], ?_⟩
  simp only [o, q, same]
  rfl

theorem Part.acceptFrame_eq (p : Part) (a : Nat) (f : StationFrame) (early : List Early) :
    p.acceptFrame a f early =
      if p.dl.line = .dead then (p.accepted a).handFrame a f
      else (early.foldl Part.takeEarly ((p.accepted a).handFrame a f)).formAnswer a := rfl

/-- After the frame is handed on, the outputs of the stations alone move: taken early, and formed for the answer. -/
theorem Part.acceptFrame_moves (p : Part) (a : Nat) (f : StationFrame) (early : List Early) :
    ((p.accepted a).handFrame a f).OutputsMove (p.acceptFrame a f early) := by
  rw [Part.acceptFrame_eq]
  split
  · exact .refl _
  · exact (Part.takeEarlies_move early _).trans (Part.formAnswer_moves _ a)

/-- With nothing taken early, an answer alone comes after the frame is handed on. -/
theorem Part.acceptFrame_nil (p : Part) {a : Nat} (f : StationFrame) (low : 1 ≤ a) :
    let x := (p.accepted a).handFrame a f
    let q := p.acceptFrame a f []
    (∀ b, 1 ≤ b → b ≠ a → q.station b = x.station b) ∧ ∃ dl, q = { x with dl := dl } := by
  intro x q
  have answered : q = if p.dl.line = .dead then x else x.formAnswer a := Part.acceptFrame_eq p a f []
  rw [answered]
  split
  · exact ⟨fun _ _ _ => rfl, x.dl, rfl⟩
  · exact ⟨fun b low' other => x.dl.station_setStation_other _ low low' other, _, rfl⟩

/-- Part q has taken an ACCEPTED frame of station a of p, and answered it unless p's line is DEAD. -/
structure Part.FrameAccepted (p : Part) (a : Nat) (q : Part) : Prop where
  record : (p.station a).Accepts (q.station a) p.dl.timeout
  errors : q.dl.errors = p.dl.errors
  line : q.dl.line = p.dl.line
  answer : p.dl.line ≠ .dead →
    let o := (q.formedOutputs a).byte
    (q.station a).lastFormed = q.formedOutputs a ∧ q.dl.answering = some { address := a, bytes := [o, crc8 [o]] }

theorem Station.Accepts.outputs {st n m : Station} {timeout : Nat} (accepts : st.Accepts n timeout)
    (moves : n.SameButOutputs m) : st.Accepts m timeout := by
  rw [Station.SameButOutputs] at moves
  rw [moves]
  exact ⟨accepts.state, accepts.silence, accepts.noAnswers, accepts.lastResult, accepts.cfg⟩

theorem Part.acceptFrame_accepted (p : Part) {a : Nat} (f : StationFrame) (early : List Early) (low : 1 ≤ a) (high : a ≤ 48) :
    p.FrameAccepted a (p.acceptFrame a f early) := by
  obtain ⟨n, holds, accepts⟩ := p.handFrame_accepts f low high
  have moves := p.acceptFrame_moves a f early
  have records := moves.records a
  rw [holds.record] at records
  refine ⟨accepts.outputs records, moves.errors.trans (by rw [holds.frame]), moves.line.trans (by rw [holds.frame]),
    fun alive => ?_⟩
  rw [Part.acceptFrame_eq, if_neg alive]
  exact Part.formAnswer_formed _ low high

end Sys2Proof.Machine
end

section
/-! SUPPORT. The frames of the stations as the line finds them: taken, counted, or after a frame in flight (R71 to R77, R95). -/

namespace Sys2Proof.Machine

/-! ### The line at a frame (R76) -/

theorem Part.frameArrives_line {s : Part} (none : s.dl.flying = none) :
    ∃ answering, s.frameArrives = { s with
        dl := { s.dl with answering := answering, line := if s.dl.line = .ready then .busy else s.dl.line } } ∧
      (s.dl.line ≠ .dead → answering = Option.none) := by
  unfold Part.frameArrives
  rw [Part.noAnswer_of_grounded none]
  split
  · rename_i dead
    exact ⟨s.dl.answering, by rw [if_neg (by simp [dead])], fun alive => absurd dead alive⟩
  · exact ⟨Option.none, by rw [← LineState.driven_eq], fun _ => rfl⟩

/-- Part p is s with a frame of another node arriving on its line, and nothing in flight. -/
structure Part.MetBy (s p : Part) : Prop where
  frame : ∃ answering line, p = { s with dl := { s.dl with answering := answering, line := line } }
  line : p.dl.line = if s.dl.line = .ready then .busy else s.dl.line
  answering : s.dl.line ≠ .dead → p.dl.answering = none

theorem Part.metBy_frameArrives {s : Part} (none : s.dl.flying = none) : s.MetBy s.frameArrives := by
  obtain ⟨answering, arrives, dropped⟩ := Part.frameArrives_line none
  rw [arrives]
  exact ⟨⟨_, _, rfl⟩, rfl, dropped⟩

theorem Part.MetBy.station {s p : Part} (met : s.MetBy p) (b : Nat) : p.station b = s.station b := by
  obtain ⟨_, _, rfl⟩ := met.frame
  rfl

theorem Part.MetBy.keeps {s p : Part} (met : s.MetBy p) :
    p.clock = s.clock ∧ p.cal = s.cal ∧ p.mu = s.mu ∧ p.zc = s.zc ∧ p.air = s.air ∧ p.lb = s.lb ∧ p.link = s.link ∧
      p.due = s.due ∧ p.running = s.running ∧ ∀ z, p.anyDoorOpen z = s.anyDoorOpen z := by
  obtain ⟨_, _, rfl⟩ := met.frame
  exact ⟨rfl, rfl, rfl, rfl, rfl, rfl, rfl, rfl, rfl, fun _ => rfl⟩

/-- A frame from an enabled station is ACCEPTED (R71). -/
theorem Part.receiveFrame_enabled {s : Part} {address : Byte} (f : StationFrame) (early : List Early)
    (stuck : s.dl.line ≠ .stuck) (low : 1 ≤ address.toNat) (high : address.toNat ≤ 48)
    (enabled : (s.frameArrives.station address.toNat).state ≠ .disabled) :
    s.receiveFrame address f early = s.frameArrives.acceptFrame address.toNat f early := by
  have takes : s.frameArrives.dl.rejects address.toNat = false := by
    rw [DoorLine.rejects, isAddress_of low high]
    exact decide_eq_false enabled
  unfold Part.receiveFrame
  simp [stuck, takes]

/-- One from any other address is NOT_ACCEPTED. -/
theorem Part.receiveFrame_rejected {s : Part} {address : Byte} (f : StationFrame) (early : List Early)
    (stuck : s.dl.line ≠ .stuck)
    (other : address.toNat = 0 ∨ 48 < address.toNat ∨ (s.frameArrives.station address.toNat).state = .disabled) :
    s.receiveFrame address f early =
      { s.frameArrives with dl := s.frameArrives.dl.recordResult (some address.toNat) .notAccepted } := by
  have rejects : s.frameArrives.dl.rejects address.toNat = true := by
    rcases other with zero | beyond | disabled
    · simp [DoorLine.rejects, isAddress, zero]
    · simp [DoorLine.rejects, isAddress, Nat.not_le.2 beyond]
    · rw [DoorLine.rejects, Bool.or_eq_true, decide_eq_true_eq]
      exact .inr disabled
  unfold Part.receiveFrame
  simp [stuck, rejects]

/-- The rows of the frames of the stations. -/
def stationFrames (address door condition kind revision motion : Byte) (early : List Early) : List Instr :=
  [.doorReport address door early, .hello address kind revision door early, .statusReport address door condition early,
    .presenceReport address motion]

theorem exec_of_stationFrames {address door condition kind revision motion : Byte} {early : List Early} {i : Instr}
    (listed : i ∈ stationFrames address door condition kind revision motion early) :
    ∃ f early, ∀ s, exec i s = s.act fun p => p.receiveFrame address f early := by
  simp only [stationFrames, List.mem_cons, List.not_mem_nil, or_false] at listed
  rcases listed with rfl | rfl | rfl | rfl
  · exact ⟨_, _, exec_doorReport _ _ _⟩
  · exact ⟨_, _, exec_hello _ _ _ _ _⟩
  · exact ⟨_, _, exec_statusReport _ _ _ _⟩
  · exact ⟨_, _, exec_presenceReport _ _⟩

/-! ### A frame from an enabled station -/

/-- Station a of part q was heard in a frame that found the part as s, and is answered unless the line is DEAD. -/
def FrameHeard (s : Part) (a : Nat) (q : Part) : Prop :=
  let n := q.station a
  n.state = .present ∧ n.silence = some s.dl.timeout ∧ n.noAnswers = 0 ∧ n.lastResult = some .accepted ∧
    n.cfg = (s.station a).cfg ∧ q.dl.errors = s.dl.errors ∧
    q.dl.line = (if s.dl.line = .ready then .busy else s.dl.line) ∧
    (s.dl.line ≠ .dead →
      let o := (q.formedOutputs a).byte
      n.lastFormed = q.formedOutputs a ∧ q.dl.answering = some { address := a, bytes := [o, crc8 [o]] })

/-- As FrameHeard, of a frame with a door byte. -/
def DoorFrameHeard (s : Part) (a : Nat) (door : Byte) (early : List Early) (q : Part) : Prop :=
  let st := s.station a
  FrameHeard s a q ∧ DoorByteTaken st q a door ∧
    (early = [] →
      (st.door ≠ doorOf door ∨ st.docked ≠ dockedOf door →
        .evaluate st.cfg.zone ∈ q.due ∧ .demand (s.zone st.cfg.zone).cfg.group ∈ q.due) ∧
      (∀ b, 1 ≤ b → b ≤ 48 → b ≠ a → q.station b = s.station b) ∧
      ChangesOnly [.doorLine, .notices, .handed] s q)

section
variable {s p : Part} {a : Nat}

theorem Part.MetBy.heard (met : s.MetBy p) (f : StationFrame) (early : List Early) (low : 1 ≤ a) (high : a ≤ 48) :
    FrameHeard s a (p.acceptFrame a f early).close := by
  obtain ⟨record, errors, line, answer⟩ := p.acceptFrame_accepted f early low high
  obtain ⟨answering, l, rfl⟩ := met.frame
  refine ⟨record.state, record.silence, record.noAnswers, record.lastResult, record.cfg, errors, line.trans met.line,
    fun alive => answer ?_⟩
  rw [met.line]
  split
  · simp
  · exact alive

theorem doorHanded_of_change {st : Station} {door : DoorState} {docked : Bool} (record : s.station a = st)
    (change : st.door ≠ door ∨ st.docked ≠ docked) :
    .evaluate st.cfg.zone ∈ doorHanded s a door docked ∧
      .demand (s.zone st.cfg.zone).cfg.group ∈ doorHanded s a door docked := by
  subst record
  simp [doorHanded, change]

theorem Part.MetBy.reportTold (met : s.MetBy p) (a : Nat) (door : Byte) :
    Machine.reportTold p a door = Machine.reportTold s a door := by
  obtain ⟨_, _, rfl⟩ := met.frame
  rfl

/-- What ReportsDoor says of the part handed the frame, when it has been answered. -/
theorem Part.MetBy.doorHeard (met : s.MetBy p) {door : Byte} {f : StationFrame} {n : Station} {ws : List Posting}
    (early : List Early) (low : 1 ≤ a) (high : a ≤ 48)
    (reports : p.ReportsDoor a door n ws ((p.accepted a).handFrame a f)) :
    let q := (p.acceptFrame a f early).close
    DoorFrameHeard s a door early q ∧ n.SameButOutputs (q.station a) ∧ (early = [] → Posts ws s q) := by
  intro q
  have moved : n.SameButOutputs (q.station a) := by
    have records := (p.acceptFrame_moves a f early).records a
    rwa [reports.holds.record] at records
  have heard := met.heard f early low high
  obtain ⟨answering, l, rfl⟩ := met.frame
  obtain ⟨holds, record, -, due, posts, moves⟩ := reports
  have last (none : early = []) :=
    none ▸ Part.acceptFrame_nil { s with dl := { s.dl with answering := answering, line := l } } f low
  refine ⟨⟨heard, ?_, fun none => ?_⟩, moved, fun none => ?_⟩
  · rw [Station.SameButOutputs] at moved
    unfold DoorByteTaken
    dsimp only
    rw [moved]
    exact ⟨record.reported, record.doorHeard, record.dockedHeard, record.opens, record.starts, record.stops⟩
  · obtain ⟨others, dl, same⟩ := last none
    have dueSame : q.due = s.due ++ doorHanded s a (doorOf door) (dockedOf door) := by
      simp only [q, same]
      exact due
    refine ⟨fun change => ?_, fun b low' _ other => (others b low' other).trans (holds.others b low' other), ?_⟩
    · obtain ⟨evaluates, demands⟩ := doorHanded_of_change (s := s) rfl change
      rw [dueSame]
      exact ⟨List.mem_append_right _ evaluates, List.mem_append_right _ demands⟩
    · simp only [q, same]
      exact (((ChangesOnly.of_dl s _).trans (moves.trans (.of_dl _ dl))).mono (by simp)).closed
  · obtain ⟨-, dl, same⟩ := last none
    simp only [q, same]
    exact Posts.closed (.of_unsent rfl rfl (Posts.of_link rfl posts))

/-- A record written leaves the open doors of every zone, where it keeps its zone, its door and whether it is enabled. -/
theorem Part.anyDoorOpen_of_written {x : Part} {n : Station} (dl : x.dl = s.dl.setStation a n)
    (enabled : n.enabled = (s.station a).enabled) (cfg : n.cfg = (s.station a).cfg) (door : n.door = (s.station a).door)
    (z : Nat) : x.anyDoorOpen z = s.anyDoorOpen z := by
  have keeps : s.dl.Moves (fun y m => m.enabled = y.enabled ∧ m.cfg = y.cfg ∧ m.door = y.door) x.dl := by
    rw [dl]
    exact .setStation (fun _ => ⟨rfl, rfl, rfl⟩) s.dl ⟨enabled, cfg, door⟩
  unfold Part.anyDoorOpen
  rw [Tab.list_eq, Tab.list_eq, List.any_map, List.any_map]
  refine congrArg (List.any _) (funext fun k => ?_)
  obtain ⟨enabled, cfg, door⟩ := keeps.records (k + 1)
  simp only [DoorLine.station, Nat.add_sub_cancel] at enabled cfg door
  simp only [Function.comp_apply, enabled, cfg, door]

/-- The end of an event and a new door line leave the zones and the events handed on. -/
theorem Part.close_withDl (y : Part) (dl : DoorLine) :
    (∀ z, (Part.close { y with dl := dl }).zone z = y.zone z) ∧ (Part.close { y with dl := dl }).due = y.due :=
  ⟨fun _ => rfl, rfl⟩

/-- A PRESENCE_REPORT of an enabled station, told to its zone (R102, R136, R137). -/
theorem Part.MetBy.presenceHeard (met : s.MetBy p) (motion : Byte) (low : 1 ≤ a) (high : a ≤ 48)
    (enabled : (s.station a).state ≠ .disabled) {z : Nat} (serves : (s.station a).cfg.zone = z) (hz : z < 12) :
    let q := (p.acceptFrame a (.presence motion) []).close
    FrameHeard s a q ∧ (q.station a).motion = min 65535 ((s.station a).motion + motion.toNat) ∧
      (q.station a).door = (s.station a).door ∧
      (q.zone z).presence = some (s.cal.running.header.presenceHold * 60) ∧
      (q.zone z).evaluated = (s.zone z).evaluated ∧ (q.zone z).lightGuard = true ∧ LightFollows s q z true ∧
      (∀ y < 12, y ≠ z → q.zone y = s.zone y) ∧ (∀ b, 1 ≤ b → b ≤ 48 → b ≠ a → q.station b = s.station b) ∧
      Posts (stationTold a (s.station a).state .present .frame (some .accepted)) s q ∧
      ChangesOnly [.doorLine, .conditioner, .notices, .handed] s q := by
  intro q
  have heard := met.heard (.presence motion) [] low high
  have moved := (p.acceptFrame_moves a (.presence motion) []).records a
  obtain ⟨others, dl, same⟩ := p.acceptFrame_nil (.presence motion) low
  obtain ⟨x, handed, written, due, zc, lb, cal, posts, -⟩ := p.handFrame_presence motion low high
  obtain ⟨clock', cal', mu', zc', air', lb', link', due', running', doors'⟩ := met.keeps
  have record : x.station a = (p.station a).sensed p.dl.timeout motion := Part.station_of_written written low high
  have doors : x.anyDoorOpen z = p.anyDoorOpen z := by
    refine Part.anyDoorOpen_of_written written ?_ rfl rfl z
    simp [Station.enabled, Station.sensed, Station.heardAt, met.station, enabled]
  have zoneBefore (y : Nat) : x.zone y = s.zone y := by rw [Part.zone, zc, zc', Part.zone]
  rw [met.station a] at record handed posts
  rw [serves] at handed
  rw [handed] at moved others same
  have told : (x.takePresence z).dl = x.dl := by simp
  have station : (q.station a).motion = min 65535 ((s.station a).motion + motion.toNat) ∧
      (q.station a).door = (s.station a).door := by
    change Station.SameButOutputs _ (q.station a) at moved
    rw [told, show x.dl.station a = _ from record, Station.SameButOutputs] at moved
    rw [moved]
    exact ⟨rfl, rfl⟩
  obtain ⟨presence, evaluated, guard, light, zones⟩ := x.takePresence_follows hz
  have ended : q = Part.close { x.takePresence z with dl := dl } := congrArg Part.close same
  have zoneSame (y : Nat) : q.zone y = (x.takePresence z).zone y := by rw [ended, (Part.close_withDl _ dl).1]
  have follows : LightFollows s (x.takePresence z) z true :=
    LightFollows.of_before light (cal.trans cal') (lb.trans lb') (doors.trans (doors' z)) (by rw [zoneBefore])
      fun r listed => by rwa [due, due'] at listed
  have dueSame : q.due = (x.takePresence z).due := by rw [ended, (Part.close_withDl _ dl).2]
  refine ⟨heard, station.1, station.2, ?_, ?_, ?_, LightFollows.of_after follows (zoneSame z) dueSame,
    fun y _ other => ?_, fun b low' _ other => ?_, ?_, ?_⟩
  · rw [zoneSame, presence, cal, cal']
  · rw [zoneSame, evaluated, zoneBefore]
  · rw [zoneSame, guard]
  · rw [zoneSame, zones y other, zoneBefore]
  · refine (others b low' other).trans ?_
    rw [Part.station, told, written, ← met.station b]
    exact DoorLine.station_setStation_other _ _ low low' other
  · rw [ended]
    exact Posts.closed (.of_unsent (q := x) (by simp) (by simp) (.of_link link' posts))
  · have lbSame : (p.acceptFrame a (.presence motion) []).lb = x.lb := by
      rw [same]
      simp
    exact ChangesOnly.closed (ChangesOnly.of_doorWork (by simp [clock']) (by simp [cal']) (by simp [mu']) (by simp [air'])
      (by rw [lbSame, lb, lb']) (by simp [running']) (by simp [link']))

end

end Sys2Proof.Machine
end

section
/-! SUPPORT. A frame that is counted, and one that comes while one of the controller's is in flight (R71, R72, R75, R95). -/

namespace Sys2Proof.Machine

/-! ### A frame from any other address (R72) -/

/-- It is counted, and the answer that was going is dropped. -/
theorem Part.MetBy.counted {s p : Part} (met : s.MetBy p) (a : Nat) :
    let q := Part.close { p with dl := p.dl.recordResult (some a) .notAccepted }
    q.dl.errors = min 65535 (s.dl.errors + 1) ∧ (s.dl.line ≠ .dead → q.dl.answering = none) ∧
      (1 ≤ a → a ≤ 48 → q.station a = { s.station a with lastResult := some .notAccepted }) ∧
      (∀ b, 1 ≤ b → b ≤ 48 → b ≠ a → q.station b = s.station b) ∧ q.dl.queue = s.dl.queue ∧
      ChangesOnly [.doorLine] s q := by
  intro q
  obtain ⟨errors, queue, own, others⟩ := p.dl.recordResult_rejected (some a) (r := .notAccepted) (by simp)
  have answering : (p.dl.recordResult (some a) .notAccepted).answering = p.dl.answering := by
    unfold DoorLine.recordResult
    dsimp only
    split <;> rfl
  have dropped := met.answering
  obtain ⟨_, _, rfl⟩ := met.frame
  exact ⟨errors, fun alive => answering.trans (dropped alive), fun low high => own a low high rfl,
    fun b low high other => others b low high fun same => other (Option.some.inj same).symm, queue,
    (((ChangesOnly.of_dl s _).trans (.of_dl _ _)).mono (by simp)).closed⟩

/-! ### A frame that comes while one of the controller's is in flight (R75, R95) -/

/-- The missing answer comes first, and the frame then finds nothing in flight. -/
theorem Part.receiveFrame_noAnswer {s : Part} (address : Byte) (f : StationFrame) (early : List Early)
    (stuck : s.dl.line ≠ .stuck) (dead : s.dl.line ≠ .dead) (flies : s.dl.flying.isSome = true) :
    s.noAnswer.receiveFrame address f early = s.receiveFrame address f early := by
  have line : s.noAnswer.dl.line = s.dl.line := s.noAnswer_settings.line
  have arrives : s.noAnswer.frameArrives = s.frameArrives := by
    unfold Part.frameArrives
    rw [line, if_neg dead, if_neg dead, Part.noAnswer_of_grounded (Part.noAnswer_ends flies).1]
  unfold Part.receiveFrame
  rw [line, if_neg stuck, if_neg stuck, arrives]

theorem exec_frame_noAnswer {s t : State} {i : Instr} {address : Byte} {f : StationFrame} {early : List Early}
    (acts : ∀ s, exec i s = s.act fun p => p.receiveFrame address f early) (runs : s.part.running = true)
    (stuck : s.part.dl.line ≠ .stuck) (dead : s.part.dl.line ≠ .dead) (flies : s.part.dl.flying.isSome = true)
    (sends : s.part.link.transmitter ≠ .idle) (next : exec .noAnswer s = .next t) : exec i s = exec i t := by
  have kept : s.part.noAnswer.link.transmitter = s.part.link.transmitter :=
    Link.transmitter_of_still (by simp)
  have closed : s.part.noAnswer.close = s.part.noAnswer := by
    rw [Part.close, Link.kick_of_sending _ (kept ▸ sends)]
  rw [exec_noAnswer, State.act_runs s _ runs, closed] at next
  cases next
  rw [acts, acts, State.act_runs s _ runs, State.act_runs _ _ (by simp [runs])]
  dsimp only
  rw [Part.receiveFrame_noAnswer address f early stuck dead flies]

/-- After the missing answer the frame is taken as any other (R71, R73, R95). -/
theorem Part.receiveFrame_flying {s : Part} {address : Byte} (f : StationFrame) (early : List Early)
    (stuck : s.dl.line ≠ .stuck) (dead : s.dl.line ≠ .dead) (flies : s.dl.flying.isSome = true) (low : 1 ≤ address.toNat)
    (high : address.toNat ≤ 48) (enabled : (s.station address.toNat).state ≠ .disabled) :
    let q := (s.receiveFrame address f early).close
    let n := q.station address.toNat
    let o := (q.formedOutputs address.toNat).byte
    n.state = .present ∧ n.silence = some s.dl.timeout ∧ n.noAnswers = 0 ∧ n.lastResult = some .accepted ∧
      n.cfg = (s.station address.toNat).cfg ∧ (∀ x ∈ q.dl.queue, x.inFlight = false) ∧ q.dl.sending = none ∧
      q.dl.answering = some { address := address.toNat, bytes := [o, crc8 [o]] } := by
  have settings := s.noAnswer_settings
  have arrives : s.frameArrives =
      { s.noAnswer with dl := { s.noAnswer.dl with answering := none, line := s.noAnswer.dl.line.driven } } := by
    unfold Part.frameArrives
    rw [if_neg dead]
  have alive : s.frameArrives.dl.line ≠ .dead := by
    rw [arrives, LineState.driven_eq, settings.line]
    split
    · simp
    · exact dead
  obtain ⟨cfg, disabled⟩ := settings.records address.toNat
  have record : s.frameArrives.station address.toNat = s.noAnswer.station address.toNat := by rw [arrives]; rfl
  have timeout : s.frameArrives.dl.timeout = s.dl.timeout := by rw [arrives]; exact settings.timeout
  obtain ⟨flying, sending⟩ := Part.noAnswer_ends flies
  rw [Part.receiveFrame_enabled f early stuck low high (by rw [record]; exact fun off => enabled (disabled.1 off))]
  have stays := s.frameArrives.acceptFrame_stays address.toNat f early
  obtain ⟨accepts, -, -, answer⟩ := s.frameArrives.acceptFrame_accepted f early low high
  rw [timeout, record] at accepts
  have ended : (s.frameArrives.acceptFrame address.toNat f early).dl.flying = none := by
    have before : s.frameArrives.dl.flying = none := by rw [arrives]; exact flying
    simpa [before] using stays.flying
  refine ⟨accepts.state, accepts.silence, accepts.noAnswers, accepts.lastResult, accepts.cfg.trans cfg,
    (DoorLine.flying_eq_none_iff _).1 ended, stays.sending.trans ?_, (answer alive).2⟩
  rw [arrives]
  exact sending

end Sys2Proof.Machine
end

section
/-! SUPPORT. The row of each frame by the part that meets it. Settles O51. -/

namespace Sys2Proof.Machine

/-- A SameButOutputs record holds the condition, the type and the revision that were stored. -/
theorem Station.SameButOutputs.stored {x y : Station} (same : x.SameButOutputs y) :
    y.condition = x.condition ∧ y.stationType = x.stationType ∧ y.revision = x.revision := by
  rw [Station.SameButOutputs] at same
  rw [same]
  exact ⟨rfl, rfl, rfl⟩

section
variable {s : State} {address : Byte} (runs : s.part.running = true) (stuck : s.part.dl.line ≠ .stuck)
  (none : s.part.dl.flying = none) (low : 1 ≤ address.toNat) (high : address.toNat ≤ 48)
  (enabled : (s.part.station address.toNat).state ≠ .disabled)
include runs stuck none low high enabled

/-- A frame of an enabled station with nothing in flight, by the part that meets it. -/
theorem Ends.of_enabledFrame {i : Instr} {f : StationFrame} {early : List Early} {after : Part → Prop}
    (acts : exec i s = s.act fun p => p.receiveFrame address f early)
    (taken : ∀ p, s.part.MetBy p → after (p.acceptFrame address.toNat f early).close) : Ends i s after := by
  have met := Part.metBy_frameArrives none
  refine .of_act acts runs ?_
  rw [Part.receiveFrame_enabled f early stuck low high (by rw [met.station]; exact enabled)]
  exact taken _ met

theorem Ends.of_doorReport (door : Byte) (early : List Early) :
    Ends (.doorReport address door early) s fun q => DoorFrameHeard s.part address.toNat door early q ∧
      (q.station address.toNat).condition = (s.part.station address.toNat).condition ∧
      (early = [] → Posts (reportTold s.part address.toNat door) s.part q) := by
  refine .of_enabledFrame runs stuck none low high enabled (exec_doorReport address door early s) fun p met => ?_
  obtain ⟨n, reports, condition⟩ := p.handFrame_doorReport door low high
  obtain ⟨taken, moved, posts⟩ := met.doorHeard early low high reports
  rw [met.reportTold] at posts
  exact ⟨taken, moved.stored.1.trans (condition.trans (by rw [met.station])), posts⟩

theorem Ends.of_hello (kind revision door : Byte) (early : List Early) :
    Ends (.hello address kind revision door early) s fun q => DoorFrameHeard s.part address.toNat door early q ∧
      (q.station address.toNat).stationType = some kind ∧ (q.station address.toNat).revision = some revision ∧
      (early = [] → Posts (keptTold ((s.part.station address.toNat).state = .present) address.toNat .hello kind ++
        reportTold s.part address.toNat door) s.part q) := by
  refine .of_enabledFrame runs stuck none low high enabled (exec_hello address kind revision door early s) fun p met => ?_
  obtain ⟨n, reports, type, revised⟩ := p.handFrame_hello kind revision door low high
  obtain ⟨taken, moved, posts⟩ := met.doorHeard early low high reports
  obtain ⟨-, typeSame, revisionSame⟩ := moved.stored
  simp only [met.reportTold, met.station] at posts
  exact ⟨taken, typeSame.trans type, revisionSame.trans revised, posts⟩

theorem Ends.of_statusReport (door condition : Byte) (early : List Early) :
    Ends (.statusReport address door condition early) s fun q => DoorFrameHeard s.part address.toNat door early q ∧
      (q.station address.toNat).condition = some condition ∧
      (early = [] → Posts (reportTold s.part address.toNat door ++
        keptTold ((s.part.station address.toNat).condition ≠ Option.none ∧
          (s.part.station address.toNat).condition ≠ some condition) address.toNat .condition condition) s.part q) := by
  refine .of_enabledFrame runs stuck none low high enabled (exec_statusReport address door condition early s) fun p met => ?_
  obtain ⟨n, reports, held⟩ := p.handFrame_status door condition low high
  obtain ⟨taken, moved, posts⟩ := met.doorHeard early low high reports
  simp only [met.reportTold, met.station] at posts
  exact ⟨taken, moved.stored.1.trans held, posts⟩

end

/-- Settles O51: the commanded outputs by their cases; each frame of an enabled station through the part it is handed to, from
which an answer moves the outputs alone; any other address counted; and a frame in flight ended by its missing answer first. -/
theorem stationFramesAreTakenAndAnswered : Obligations.StationFramesAreTakenAndAnswered := by
  unfold Obligations.StationFramesAreTakenAndAnswered
  refine ⟨fun p a _ _ => p.formedOutputs_cases a, fun s address door condition kind revision motion early runs => ?_⟩
  intro a st dl frames
  refine ⟨fun stuck i listed => ?_, fun stuck none low high enabled => ?_, fun stuck none other i listed => ?_,
    fun stuck dead flies => ⟨fun i listed t sends next => ?_, fun low high enabled i listed => ?_⟩⟩
  · obtain ⟨f, early', acts⟩ := exec_of_stationFrames listed
    exact Becomes.of_act (acts s) runs (if_pos stuck)
  · intro heard doorFrame doorTold present kept
    have hello := Ends.of_hello runs stuck none low high enabled kind revision door early
    simp only [reportTold, ← List.append_assoc] at hello
    exact ⟨.of_doorReport runs stuck none low high enabled door early, hello,
      .of_statusReport runs stuck none low high enabled door condition early, fun zone =>
      .of_enabledFrame runs stuck none low high enabled (exec_presenceReport address motion s) fun p met =>
        met.presenceHeard motion low high enabled rfl zone⟩
  · obtain ⟨f, early', acts⟩ := exec_of_stationFrames listed
    have met := Part.metBy_frameArrives none
    refine .of_act (acts s) runs ?_
    rw [Part.receiveFrame_rejected f early' stuck (by rw [met.station]; exact other)]
    exact met.counted a
  · obtain ⟨f, early', acts⟩ := exec_of_stationFrames listed
    exact exec_frame_noAnswer acts runs stuck dead flies sends next
  · obtain ⟨f, early', acts⟩ := exec_of_stationFrames listed
    exact .of_act (acts s) runs (Part.receiveFrame_flying f early' stuck dead flies low high enabled)

end Sys2Proof.Machine
end

section
/-! SUPPORT. Stations disabled (R88, R94, R109): the record, the queue and the curtain demand of one, and those of a list. -/

namespace Sys2Proof.Machine

/-! ### The record of a DISABLED station -/

theorem Part.changeDoor_of_disabled {s : Part} {a : Nat} (door : DoorState) (docked : Bool) (low : 1 ≤ a) (high : a ≤ 48)
    (disabled : (s.station a).state = .disabled) :
    ∃ n, (s.changeDoor a door docked).dl = s.dl.setStation a n ∧ (s.station a).DoorMoves n door docked ∧
      n.pending = (s.station a).pending := by
  obtain ⟨sent, o, ⟨rfl, rfl, stays⟩ | takes⟩ := s.changeDoor_takes door docked low high
  · exact ⟨s.station a, by rw [stays]; exact (s.dl.setStation_self a).symm, .refl _, rfl⟩
  · have pending : ((s.station a).moveDoor door docked s.clock.openedAt).pending = (s.station a).pending := by
      simp only [Station.moveDoor, Station.countOpening]
      split <;> rfl
    have state : ((s.station a).moveDoor door docked s.clock.openedAt).state = (s.station a).state := by
      simp only [Station.moveDoor, Station.countOpening]
      split <;> rfl
    refine ⟨_, takes.of_disabled low high (state.trans disabled), ?_, pending⟩
    exact .moveDoor (s.station a) door docked s.clock.openedAt sent o _

/-- The record n of a station with record st that was disabled (R94). -/
structure Station.SwitchedOff (st n : Station) : Prop where
  state : n.state = .disabled
  cfg : n.cfg = { st.cfg with enabled := false }
  door : n.door = .unknown
  docked : n.docked = false
  demand : n.demand = 0
  silence : n.silence = none
  noAnswers : n.noAnswers = 0
  stationType : n.stationType = none
  revision : n.revision = none
  reported : n.reported = none
  condition : n.condition = none
  pending : n.pending = false

/-- A disabled record, its door UNKNOWN and its curtain demand ended. -/
theorem Station.SwitchedOff.of_moves {st n : Station} (moves : st.disabled.DoorMoves n .unknown false)
    (pending : n.pending = false) (o : Outputs) : st.SwitchedOff { n with demand := 0, commanded := o } := by
  obtain ⟨rest, door, docked, -⟩ := moves
  exact ⟨by rw [rest]; rfl, by rw [rest]; rfl, door, docked, rfl, by rw [rest]; rfl, by rw [rest]; rfl, by rw [rest]; rfl,
    by rw [rest]; rfl, by rw [rest]; rfl, by rw [rest]; rfl, pending⟩

/-! ### The outbound queue (R88) -/

/-- The queue with the entry in flight of station a marked. -/
def DoorLine.orphaned (d : DoorLine) (a : Nat) : List OutEntry :=
  d.queue.map fun e => if e.address = a ∧ e.inFlight then { e with orphan := true } else e

theorem DoorLine.mem_orphaned {d : DoorLine} {a : Nat} {x : OutEntry} (listed : x ∈ d.orphaned a) :
    (x.address = a → x.inFlight = true → x.orphan = true) ∧ (x.address ≠ a → x ∈ d.queue) := by
  obtain ⟨e, member, rfl⟩ := List.mem_map.1 listed
  split
  · rename_i both
    exact ⟨fun _ _ => rfl, fun other => absurd both.1 other⟩
  · rename_i other
    exact ⟨fun own flies => absurd ⟨own, flies⟩ other, fun _ => member⟩

/-- A station that wants nothing loses its waiting entry; of another the record keeps all but the pending flag, and one that
wants nothing keeps it and gains no entry. -/
theorem DoorLine.disableEntry_leaves (d : DoorLine) {a : Nat} (low : 1 ≤ a) (calm : ¬ d.Wants a) :
    (d.disableEntry a).station a = d.station a ∧
      (∀ e ∈ (d.disableEntry a).queue, e.address = a → e.inFlight = true ∧ e.orphan = true) ∧
      (∀ b, 1 ≤ b → SameButPending (d.station b) ((d.disableEntry a).station b)) ∧
      ∀ b, 1 ≤ b → ¬ d.Wants b → (d.disableEntry a).station b = d.station b ∧
        ∀ e ∈ (d.disableEntry a).queue, e.address = b → b ≠ a → e ∈ d.queue := by
  have stays {e : OutEntry} (own : e.address = a) (kept : (decide (e.address = a) && !e.inFlight) = false) :
      e.inFlight = true := by
    simp only [own, decide_true, Bool.true_and, Bool.not_eq_false'] at kept
    exact kept
  have entries {e : OutEntry} (listed : e ∈ d.orphaned a) (kept : (decide (e.address = a) && !e.inFlight) = false)
      (own : e.address = a) : e.inFlight = true ∧ e.orphan = true :=
    ⟨stays own kept, (DoorLine.mem_orphaned listed).1 own (stays own kept)⟩
  unfold DoorLine.disableEntry DoorLine.leave
  split
  · set left : DoorLine := { d with
      queue := (d.orphaned a).filter fun e => !(decide (e.address = a) && !e.inFlight) } with left_eq
    have same (b : Nat) : left.station b = d.station b := rfl
    have quiet (b : Nat) (low' : 1 ≤ b) (calm' : ¬ d.Wants b) := left.refill_quiet low' calm'
    refine ⟨(quiet a low calm).1, fun e listed own => ?_, fun b low' => left.refill_station low', fun b low' calm' =>
      ⟨(quiet b low' calm').1, fun e listed own other => ?_⟩⟩
    · obtain ⟨member, kept⟩ := List.mem_filter.1 ((quiet a low calm).2 e listed own)
      exact entries member (by simpa only [Bool.not_eq_true'] using kept) own
    · obtain ⟨member, -⟩ := List.mem_filter.1 ((quiet b low' calm').2 e listed own)
      exact (DoorLine.mem_orphaned member).2 (own ▸ other)
  · rename_i none
    refine ⟨rfl, fun e listed own => entries listed ?_ own, fun b _ => ⟨_, rfl⟩, fun b _ _ => ⟨rfl, fun e listed own other =>
      (DoorLine.mem_orphaned listed).2 (own ▸ other)⟩⟩
    exact Bool.eq_false_iff.2 fun waits => none (List.any_eq_true.2 ⟨e, listed, waits⟩)

/-! ### One station disabled (R94) -/

/-- The part with station a DISABLED and told so, before its door goes UNKNOWN and its curtain demand ends. -/
def Part.switchedOff (s : Part) (a : Nat) : Part :=
  let off := s.setStation a (s.station a).disabled
  let left : Part := { off with dl := off.dl.disableEntry a }
  if (s.station a).state = .present then left.postStationMove a .present .disabled else left

theorem Part.disableStation_eq (s : Part) (a : Nat) : s.disableStation a = ((s.switchedOff a).loseDoor a).zeroDemand a := rfl

theorem Part.switchedOff_keeps (s : Part) (a : Nat) :
    (s.switchedOff a).dl = (s.dl.setStation a (s.station a).disabled).disableEntry a ∧ (s.switchedOff a).lb = s.lb ∧
      (s.switchedOff a).zc = s.zc ∧ (s.switchedOff a).due = s.due ∧ (s.switchedOff a).clock = s.clock ∧
      (s.switchedOff a).link.still = s.link.still := by
  unfold Part.switchedOff
  dsimp only
  split <;> simp [Part.setStation]

section
variable (s : Part) {a : Nat} (low : 1 ≤ a) (high : a ≤ 48)
include low high

theorem Part.switchedOff_leaves :
    (s.switchedOff a).station a = (s.station a).disabled ∧
      (∀ e ∈ (s.switchedOff a).dl.queue, e.address = a → e.inFlight = true ∧ e.orphan = true) ∧
      (∀ b, 1 ≤ b → b ≠ a → SameButPending (s.station b) ((s.switchedOff a).station b)) ∧
      ∀ b, 1 ≤ b → b ≠ a → ¬ s.dl.Wants b → (s.switchedOff a).station b = s.station b ∧
        ∀ e ∈ (s.switchedOff a).dl.queue, e.address = b → e ∈ s.dl.queue := by
  have record : (s.dl.setStation a (s.station a).disabled).station a = (s.station a).disabled :=
    s.dl.station_setStation_same _ low high
  have calm : ¬ (s.dl.setStation a (s.station a).disabled).Wants a := by
    rintro ⟨pending, -⟩
    rw [record] at pending
    exact Bool.false_ne_true pending
  have other {b : Nat} (low' : 1 ≤ b) (apart : b ≠ a) :
      (s.dl.setStation a (s.station a).disabled).station b = s.dl.station b :=
    s.dl.station_setStation_other _ low low' apart
  obtain ⟨own, entries, others, quiet⟩ := (s.dl.setStation a (s.station a).disabled).disableEntry_leaves low calm
  have line := (s.switchedOff_keeps a).1
  unfold Part.station
  rw [line]
  refine ⟨own.trans record, entries, fun b low' apart => other low' apart ▸ others b low', fun b low' apart calm' => ?_⟩
  have calm' : ¬ (s.dl.setStation a (s.station a).disabled).Wants b := by
    unfold DoorLine.Wants
    rwa [other low' apart]
  obtain ⟨same, stays⟩ := quiet b low' calm'
  exact ⟨same.trans (other low' apart), fun e listed own => stays e listed own apart⟩

/-- A station that is disabled posts STATION where it was PRESENT (R110). -/
theorem Part.switchedOff_posts :
    Posts (stationTold a (s.station a).state .disabled .disabled (s.station a).lastResult) s (s.switchedOff a) := by
  have record := (s.switchedOff_leaves low high).1
  by_cases present : (s.station a).state = .present
  · rw [present]
    let off := s.setStation a (s.station a).disabled
    let left : Part := { off with dl := off.dl.disableEntry a }
    have told : s.switchedOff a = left.postStationMove a .present .disabled := if_pos present
    have same : (s.switchedOff a).station a = left.station a := Part.station_of_dl (by rw [told]; simp) a
    rw [told]
    exact .of_link (p' := left) rfl
      (Part.postStationMove_posts .present .disabled (same.symm.trans record) (.inl ⟨rfl, nofun⟩))
  · rw [stationTold_stays present (by simp), Part.switchedOff, if_neg present]
    exact .nothing rfl

/-- The door line of a disabled station: its record beside those that its entry leaves. -/
theorem Part.disableStation_dl :
    ∃ n, (s.disableStation a).dl = (s.switchedOff a).dl.setStation a n ∧ (s.station a).SwitchedOff n := by
  have record := (s.switchedOff_leaves low high).1
  obtain ⟨n, lost, moves, pending⟩ := (s.switchedOff a).changeDoor_of_disabled .unknown false low high (by rw [record]; rfl)
  rw [record] at moves pending
  have found : ((s.switchedOff a).loseDoor a).station a = n := Part.station_of_written lost low high
  have disabled : n.state = .disabled := by rw [moves.rest]; rfl
  obtain ⟨o, takes⟩ := ((s.switchedOff a).loseDoor a).setDemand_takes 0 none low high
  refine ⟨{ n with demand := 0, commanded := o }, ?_, .of_moves moves pending o⟩
  rw [found] at takes
  have written := takes.of_disabled low high disabled
  rw [show ((s.switchedOff a).loseDoor a).dl = _ from lost, DoorLine.setStation_setStation] at written
  exact written

/-- What a disabled station hands on (R104, R109). -/
theorem Part.disableStation_due : (s.disableStation a).due = s.due ++ leaveHanded s a := by
  have record := (s.switchedOff_leaves low high).1
  obtain ⟨-, lb, zc, due, -, -⟩ := s.switchedOff_keeps a
  have handed : ((s.switchedOff a).loseDoor a).curtainHanded a = s.curtainHanded a :=
    congrArg (fun c : Conditioner => Tab.get c.curtainHanded (a - 1)) (((s.switchedOff a).loseDoor_keeps a).2.2.2.1.trans zc)
  have loads : ((s.switchedOff a).loseDoor a).lb = s.lb := ((s.switchedOff a).loseDoor_keeps a).2.2.2.2.2.1.trans lb
  have doors : doorHanded (s.switchedOff a) a .unknown false = doorHanded s a .unknown false := by
    rw [doorHanded, record, Part.zone, zc]
    rfl
  rw [Part.disableStation_eq, Part.zeroDemand_due _ _ ⟨low, high⟩, handed, loads, Part.loseDoor, Part.changeDoor_hands, due,
    doors, leaveHanded, List.append_assoc]

theorem Part.disableStation_zc :
    (s.disableStation a).zc =
      { s.zc with
        runOns := Tab.put s.zc.runOns (a - 1) none
        curtainHanded :=
          if s.lb.count .curtain a = 0 then s.zc.curtainHanded else Tab.put s.zc.curtainHanded (a - 1) false } := by
  obtain ⟨-, lb, zc, -, -, -⟩ := s.switchedOff_keeps a
  rw [Part.disableStation_eq, Part.zeroDemand_zc _ low high, ((s.switchedOff a).loseDoor_keeps a).2.2.2.1, zc,
    ((s.switchedOff a).loseDoor_keeps a).2.2.2.2.2.1, lb]

/-- STATION, then DOOR where the door changes (R104, R110). -/
theorem Part.disableStation_posts : Posts (leaveTold a (s.station a) .disabled .disabled) s (s.disableStation a) := by
  have record := (s.switchedOff_leaves low high).1
  obtain ⟨-, -, -, -, clock, still⟩ := s.switchedOff_keeps a
  have lost := (s.switchedOff a).changeDoor_posts .unknown false low high
  rw [record, doorTold_unknown] at lost
  have both := (s.switchedOff_posts low high).append lost (Link.mask_of_still still) (by simp)
    (Link.transmitter_of_still still)
  rw [Part.disableStation_eq]
  exact Posts.of_unsent (q := (s.switchedOff a).loseDoor a) (by simp) (by simp) both

end

/-! ### The stations of a list disabled (R91) -/

/-- What disabling makes of the stations of a list, one after another. -/
structure StationsDisabled (l : List Nat) (p q : Part) : Prop where
  gone : ∀ a ∈ l, StationDisabled q a ∧ (q.station a).cfg.zone = (p.station a).cfg.zone
  others : ∀ b, 1 ≤ b → b ≤ 48 → b ∉ l → SameButPending (p.station b) (q.station b)
  stay : ∀ b, 1 ≤ b → b ≤ 48 → b ∉ l → StationDisabled p b → StationDisabled q b
  due : q.due = p.due ++ l.flatMap (leaveHanded p)
  zc : q.zc = { p.zc with runOns := q.zc.runOns, curtainHanded := q.zc.curtainHanded }
  runOn : ∀ a, 1 ≤ a → a ≤ 48 → q.runOn a = if a ∈ l then none else p.runOn a
  curtain : ∀ a, 1 ≤ a → a ≤ 48 →
    q.curtainHanded a = if a ∈ l ∧ p.lb.count .curtain a ≠ 0 then false else p.curtainHanded a
  lb : q.lb = p.lb
  clock : q.clock = p.clock
  still : q.link.still = p.link.still
  posts : Posts (l.flatMap fun a => leaveTold a (p.station a) .disabled .disabled) p q

theorem StationsDisabled.one (s : Part) {a : Nat} (low : 1 ≤ a) (high : a ≤ 48) :
    StationsDisabled [a] s (s.disableStation a) := by
  obtain ⟨own, entries, others, quiet⟩ := s.switchedOff_leaves low high
  obtain ⟨n, dl, off⟩ := s.disableStation_dl low high
  have unit := s.disableStation_zc low high
  have record : (s.disableStation a).station a = n := Part.station_of_written dl low high
  have queue : (s.disableStation a).dl.queue = (s.switchedOff a).dl.queue := (congrArg DoorLine.queue dl :)
  have other {b : Nat} (low' : 1 ≤ b) (apart : b ≠ a) : (s.disableStation a).station b = (s.switchedOff a).station b :=
    (congrArg (DoorLine.station · b) dl).trans (DoorLine.station_setStation_other _ n low low' apart)
  have runOns : (s.disableStation a).zc.runOns = Tab.put s.zc.runOns (a - 1) none := by rw [unit]
  have runOnOther {b : Nat} (low' : 1 ≤ b) (apart : b ≠ a) : (s.disableStation a).runOn b = s.runOn b := by
    unfold Part.runOn
    rw [runOns]
    exact Tab.get_put_other _ _ _ _ (by omega)
  have runOnOwn : (s.disableStation a).runOn a = none := by
    unfold Part.runOn
    rw [runOns]
    exact Tab.get_put_same _ _ _ (by omega)
  constructor
  case gone =>
    intro b member
    obtain rfl := List.mem_singleton.1 member
    rw [StationDisabled, record, queue]
    exact ⟨⟨off.state, by rw [off.cfg], off.door, off.docked, off.demand, off.silence, off.noAnswers, off.stationType,
      off.revision, off.reported, off.condition, off.pending, runOnOwn, entries⟩, by rw [off.cfg]⟩
  case others =>
    intro b low' _ apart
    rw [List.mem_singleton] at apart
    rw [other low' apart]
    exact others b low' apart
  case stay =>
    intro b low' _ apart disabled
    rw [List.mem_singleton] at apart
    have calm : ¬ s.dl.Wants b := by
      rintro ⟨-, present⟩
      exact nomatch disabled.1.symm.trans present
    obtain ⟨same, stays⟩ := quiet b low' apart calm
    unfold StationDisabled at disabled ⊢
    rw [other low' apart, same, runOnOther low' apart, queue]
    obtain ⟨state, enabled, door, docked, demand, silence, noAnswers, type, revision, reported, condition, pending, runOn,
      leaves⟩ := disabled
    exact ⟨state, enabled, door, docked, demand, silence, noAnswers, type, revision, reported, condition, pending, runOn,
      fun e listed mine => leaves e (stays e listed mine) mine⟩
  case due => simpa using s.disableStation_due low high
  case zc => rw [unit]
  case runOn =>
    intro b low' _
    by_cases same : b = a
    · subst same
      rw [if_pos (List.mem_singleton_self b), runOnOwn]
    · rw [if_neg (by simpa using same), runOnOther low' same]
  case curtain =>
    intro b low' _
    have handed : (s.disableStation a).zc.curtainHanded =
        if s.lb.count .curtain a = 0 then s.zc.curtainHanded else Tab.put s.zc.curtainHanded (a - 1) false := by rw [unit]
    unfold Part.curtainHanded
    rw [handed]
    by_cases count : s.lb.count .curtain a = 0
    · have none : ¬ (b ∈ [a] ∧ s.lb.count .curtain b ≠ 0) := by
        rintro ⟨member, some⟩
        exact some (List.mem_singleton.1 member ▸ count)
      rw [if_pos count, if_neg none]
    · rw [if_neg count]
      by_cases same : b = a
      · subst same
        rw [if_pos ⟨List.mem_singleton_self b, count⟩]
        exact Tab.get_put_same _ _ _ (by omega)
      · rw [if_neg fun member => same (List.mem_singleton.1 member.1)]
        exact Tab.get_put_other _ _ _ _ (by omega)
  case lb => simp
  case clock => simp
  case still => simp
  case posts => simpa using s.disableStation_posts low high

/-- What a station that leaves hands on and posts turns on no pending flag. -/
theorem SameButPending.leaves {p q : Part} {a : Nat} (same : SameButPending (p.station a) (q.station a)) (zc : q.zone = p.zone)
    (lb : q.lb = p.lb) (curtain : q.curtainHanded a = p.curtainHanded a) :
    leaveHanded q a = leaveHanded p a ∧
      leaveTold a (q.station a) .disabled .disabled = leaveTold a (p.station a) .disabled .disabled := by
  obtain ⟨flag, record⟩ := same
  rw [leaveHanded, doorHanded, record, zc, lb, curtain]
  exact ⟨rfl, rfl⟩

theorem SameButPending.trans {x y z : Station} (first : SameButPending x y) (second : SameButPending y z) :
    SameButPending x z := by
  obtain ⟨_, rfl⟩ := first
  obtain ⟨flag, rfl⟩ := second
  exact ⟨flag, rfl⟩

theorem SameButPending.zone {x y : Station} (same : SameButPending x y) : y.cfg.zone = x.cfg.zone := by
  obtain ⟨_, rfl⟩ := same
  rfl

theorem StationsDisabled.append {l m : List Nat} {p q r : Part} (first : StationsDisabled l p q)
    (second : StationsDisabled m q r) (range : ∀ a ∈ l ++ m, 1 ≤ a ∧ a ≤ 48) (apart : ∀ a ∈ m, a ∉ l) :
    StationsDisabled (l ++ m) p r := by
  have zone : q.zone = p.zone := funext fun z => by
    unfold Part.zone
    rw [first.zc]
  have leaves (a : Nat) (member : a ∈ m) := by
    obtain ⟨low, high⟩ := range a (List.mem_append_right l member)
    exact SameButPending.leaves (first.others a low high (apart a member)) zone first.lb
      ((first.curtain a low high).trans (if_neg fun both => apart a member both.1))
  constructor
  case gone =>
    intro a member
    obtain ⟨low, high⟩ := range a member
    by_cases later : a ∈ m
    · obtain ⟨disabled, same⟩ := second.gone a later
      exact ⟨disabled, same.trans (SameButPending.zone (first.others a low high (apart a later)))⟩
    · obtain ⟨disabled, same⟩ := first.gone a ((List.mem_append.1 member).resolve_right later)
      exact ⟨second.stay a low high later disabled, (SameButPending.zone (second.others a low high later)).trans same⟩
  case others =>
    intro b low high neither
    rw [List.mem_append, not_or] at neither
    exact SameButPending.trans (first.others b low high neither.1) (second.others b low high neither.2)
  case stay =>
    intro b low high neither disabled
    rw [List.mem_append, not_or] at neither
    exact second.stay b low high neither.2 (first.stay b low high neither.1 disabled)
  case due =>
    rw [second.due, first.due, List.flatMap_append, List.append_assoc,
      List.flatMap_congr fun a member => (leaves a member).1]
  case zc => rw [second.zc, first.zc]
  case runOn =>
    intro a low high
    rw [second.runOn a low high, first.runOn a low high]
    by_cases later : a ∈ m <;> simp [later]
  case curtain =>
    intro a low high
    rw [second.curtain a low high, first.curtain a low high, first.lb]
    by_cases later : a ∈ m
    · simp [later, apart a later]
    · simp [later]
  case lb => rw [second.lb, first.lb]
  case clock => rw [second.clock, first.clock]
  case still => rw [second.still, first.still]
  case posts =>
    rw [List.flatMap_append]
    refine first.posts.append ?_ (Link.mask_of_still first.still) second.clock.symm (Link.transmitter_of_still first.still)
    rw [← List.flatMap_congr fun a member => (leaves a member).2]
    exact second.posts

theorem StationsDisabled.forEach (l : List Nat) (s : Part) (range : ∀ a ∈ l, 1 ≤ a ∧ a ≤ 48) (once : l.Nodup) :
    StationsDisabled l s (s.forEach l Part.disableStation) := by
  induction l generalizing s with
  | nil =>
    exact ⟨fun _ member => absurd member List.not_mem_nil, fun _ _ _ _ => ⟨_, rfl⟩, fun _ _ _ _ disabled => disabled,
      (List.append_nil _).symm, rfl, fun _ _ _ => (if_neg List.not_mem_nil).symm,
      fun _ _ _ => (if_neg fun member => absurd member.1 List.not_mem_nil).symm, rfl, rfl, rfl, .nothing rfl⟩
  | cons a rest ih =>
    obtain ⟨low, high⟩ := range a List.mem_cons_self
    obtain ⟨new, once⟩ := List.nodup_cons.1 once
    have later := ih (s.disableStation a) (fun b member => range b (List.mem_cons_of_mem a member)) once
    refine StationsDisabled.append (StationsDisabled.one s low high) later range fun b member same => new ?_
    rwa [← List.mem_singleton.1 same]

theorem StationsDisabled.demands {l : List Nat} {p q : Part} (disabled : StationsDisabled l p q) :
    DemandsEnd p q (· ∈ l) := by
  refine ⟨disabled.zc, fun a low high => ?_⟩
  rw [disabled.runOn a low high, disabled.curtain a low high]
  exact ⟨fun leaves => ⟨if_pos leaves, fun some => if_pos ⟨leaves, some⟩, fun none => if_neg fun both => both.2 none⟩,
    fun stays => ⟨if_neg stays, if_neg fun both => stays both.1⟩⟩

end Sys2Proof.Machine
end

section
/-! SUPPORT. Stations enabled (R93) and moved (R90), and the requests that do it answered. -/

namespace Sys2Proof.Machine

/-! ### Stations enabled (R93) -/

/-- A QUERY requested for an enabled station: its address stands in the queue, which only grows, unless that is full. -/
theorem DoorLine.requestQuery_queues {d : DoorLine} {a : Nat} (enabled : (d.station a).state ≠ .disabled) :
    ∃ more, (d.requestQuery a).1 = { d with queue := d.queue ++ more } ∧
      ((∃ e ∈ d.queue ++ more, e.address = a) ∨ 16 ≤ (d.queue ++ more).length) := by
  rw [DoorLine.requestQuery_of_enabled enabled]
  cases entry : d.entryOf a with
  | some e =>
    have listed : e ∈ d.queue ∧ e.address = a := by
      simpa [DoorLine.entryOf] using List.mem_filter.1 (DoorLine.entryOf_mem entry)
    exact ⟨[], by simp, .inl ⟨e, by simpa using listed.1, listed.2⟩⟩
  | none =>
    dsimp only
    split
    · exact ⟨[queryOf a], rfl, .inl ⟨queryOf a, by simp, rfl⟩⟩
    · rename_i full
      exact ⟨[], by simp, .inr (by simpa using full)⟩

/-- What enabling makes of the stations of a list, one after another. -/
structure StationsEnabled (l : List Nat) (p q : Part) : Prop where
  frame : ∃ dl, q = { p with dl := dl }
  enabled : ∀ a ∈ l, StationEnabled q a ∧ (q.station a).cfg.zone = (p.station a).cfg.zone
  others : ∀ b, 1 ≤ b → b ∉ l → q.station b = p.station b
  grows : ∃ more, q.dl.queue = p.dl.queue ++ more

theorem StationsEnabled.one (s : Part) {a : Nat} (low : 1 ≤ a) (high : a ≤ 48) : StationsEnabled [a] s (s.enableStation a) := by
  let n : Station := { s.station a with cfg := { (s.station a).cfg with enabled := true }, state := .absent }
  have record : (s.dl.setStation a n).station a = n := s.dl.station_setStation_same n low high
  obtain ⟨more, asked, listed⟩ := DoorLine.requestQuery_queues (d := s.dl.setStation a n) (a := a) (by rw [record]; simp [n])
  have line : (s.enableStation a).dl = { s.dl.setStation a n with queue := s.dl.queue ++ more } := asked
  have station (b : Nat) : (s.enableStation a).station b = (s.dl.setStation a n).station b := by
    unfold Part.station
    rw [line]
    rfl
  have queue : (s.enableStation a).dl.queue = s.dl.queue ++ more := by rw [line]
  refine ⟨⟨_, rfl⟩, fun b member => ?_, fun b low' apart => ?_, more, queue⟩
  · obtain rfl := List.mem_singleton.1 member
    unfold StationEnabled
    rw [station, record, queue]
    exact ⟨⟨rfl, rfl, listed⟩, rfl⟩
  · rw [station]
    exact s.dl.station_setStation_other n low low' (by simpa using apart)

theorem StationsEnabled.append {l m : List Nat} {p q r : Part} (first : StationsEnabled l p q) (second : StationsEnabled m q r)
    (low : ∀ a ∈ l ++ m, 1 ≤ a) (apart : ∀ a ∈ m, a ∉ l) : StationsEnabled (l ++ m) p r := by
  obtain ⟨dl, rfl⟩ := first.frame
  obtain ⟨dl', rfl⟩ := second.frame
  obtain ⟨more, queue⟩ := first.grows
  obtain ⟨more', queue'⟩ := second.grows
  refine ⟨⟨dl', rfl⟩, fun a member => ?_, fun b low' neither => ?_, more ++ more', by rw [queue', queue, List.append_assoc]⟩
  · by_cases later : a ∈ m
    · obtain ⟨enabled, zone⟩ := second.enabled a later
      exact ⟨enabled, by rw [zone, first.others a (low a member) (apart a later)]⟩
    · obtain ⟨⟨state, enabled, listed⟩, zone⟩ := first.enabled a ((List.mem_append.1 member).resolve_right later)
      unfold StationEnabled
      rw [second.others a (low a member) later, queue']
      refine ⟨⟨state, enabled, listed.imp ?_ fun full => ?_⟩, zone⟩
      · rintro ⟨e, listed, own⟩
        exact ⟨e, List.mem_append_left _ listed, own⟩
      · rw [List.length_append]
        omega
  · rw [List.mem_append, not_or] at neither
    exact (second.others b low' neither.2).trans (first.others b low' neither.1)

theorem StationsEnabled.forEach (l : List Nat) (s : Part) (range : ∀ a ∈ l, 1 ≤ a ∧ a ≤ 48) (once : l.Nodup) :
    StationsEnabled l s (s.forEach l Part.enableStation) := by
  induction l generalizing s with
  | nil => exact ⟨⟨s.dl, rfl⟩, fun _ member => absurd member List.not_mem_nil, fun _ _ _ => rfl, [], (List.append_nil _).symm⟩
  | cons a rest ih =>
    obtain ⟨low, high⟩ := range a List.mem_cons_self
    obtain ⟨new, once⟩ := List.nodup_cons.1 once
    have later := ih (s.enableStation a) (fun b member => range b (List.mem_cons_of_mem a member)) once
    refine StationsEnabled.append (StationsEnabled.one s low high) later (fun b member => (range b member).1)
      fun b member same => new ?_
    rwa [← List.mem_singleton.1 same]

/-! ### A station moved (R90) -/

/-- The demands that a move between groups g and h makes due, ascending, one where they are the same (R114). -/
def groupsOwed (g h : Nat) : List Due := if g = h then [.demand g] else [.demand (min g h), .demand (max g h)]

theorem Part.oweGroups_eq (s : Part) (g h : Nat) : s.oweGroups g h = { s with due := s.due ++ groupsOwed g h } := by
  unfold Part.oweGroups groupsOwed
  split <;> simp [Part.owe]

/-- A station moved: its record serves the other zone, its watch is judged there, and the evaluations and demands are due. -/
theorem Part.moveStation_moves (s : Part) {a : Nat} (z : Nat) (low : 1 ≤ a) (high : a ≤ 48) :
    let st := s.station a
    let q := s.moveStation a z
    (∃ sent, q.dl = s.dl.setStation a { st with cfg := { st.cfg with zone := z }, limitSent := sent }) ∧
      q.due = s.due ++ [.evaluate st.cfg.zone, .evaluate z] ++ groupsOwed (s.zone st.cfg.zone).cfg.group (s.zone z).cfg.group ∧
      Posts (longTold a st.watch st.limitSent z (s.dl.limit z)) s q := by
  intro st q
  let moved : Station := { st with cfg := { st.cfg with zone := z } }
  let owed : Part := { s.setStation a moved with
    due := s.due ++ [.evaluate st.cfg.zone, .evaluate z] ++ groupsOwed (s.zone st.cfg.zone).cfg.group (s.zone z).cfg.group }
  have judges : q = owed.judgeWatch a := by
    simp only [q, Part.moveStation, Part.oweGroups_eq, owed, moved, st, Part.owe, List.append_assoc, Part.setStation]
    rfl
  have record : owed.station a = moved := s.station_setStation_same moved low high
  have ⟨_, _, _, _, _, _, due, _⟩ := owed.judgeWatch_keeps a
  rw [judges]
  refine ⟨⟨(moved.judged (owed.dl.limit moved.cfg.zone)).limitSent, ?_⟩, due, ?_⟩
  · rw [owed.judgeWatch_judges a, record]
    exact s.dl.setStation_setStation a moved _
  · exact .of_link rfl (owed.judgeWatch_posts a record)

/-! ### Answers -/

/-- A STATION_WRITE that its owner accepts: what the owner makes of the stations, hands on and posts; the settings are then
unsaved. -/
theorem Answers.of_stationWrite {i : Instr} {s : State} {tag : Byte} {data : List Byte} {q : Part} {pieces : List Piece}
    {after : Part → Prop} (catalogue : inCatalogue i = true) (hasTag : bodyTag (encodeRequest i) = tag)
    (hasKind : bodyKind (encodeRequest i) = 0x17) (w : s.Writable)
    (work : Part.serve i (s.part.taken tag 0x17) = (q.markUnsaved, .done 0 data))
    (still : q.link.still = (s.part.taken tag 0x17).link.still) (moved : ChangesOnly pieces (s.part.taken tag 0x17) q)
    (closed : ∀ t : Part, t.dl = q.dl → t.zc = q.zc → t.due = q.due → t.link.unsaved = true →
      (∀ ws, Posts ws (s.part.taken tag 0x17) q → Posts ws s.part t) →
      ChangesOnly (.replies :: (pieces ++ [.settings])) s.part t → after t) :
    Answers i s tag 0x17 (.done 0 data) after := by
  have order : q.link.waiting ≠ [] → q.link.replies ≠ [] := w.ready.order still
  let reply := (Verdict.done 0 data).reply tag 0x17 true
  have unsaved : (q.markUnsaved.answered reply).link.unsaved = true :=
    (congrArg (·.unsaved) (Link.ready_kick_aside q.markUnsaved.link reply order) :)
  exact .of_serve_closed catalogue hasTag hasKind w.ready (by simp) work (Link.outgoing_of_still still :)
    (closed (q.markUnsaved.answered reply) rfl rfl rfl unsaved (fun _ posts => Posts.answered (q := q.markUnsaved) reply posts)
      ((moved.trans (.markUnsaved q)).answered (q := q.markUnsaved) reply order))

/-- The checks of STATION_WRITE ONE, in order (R90). -/
def stationChecks (address enabled zone : Byte) : List (Bool × Code × Nat) :=
  [(!isAddress address.toNat, .index, 2), (notFlag enabled, .range, 3), (decide (11 < zone.toNat), .index, 4)]

section
variable (p : Part) (saves : p.link.saving = none) {address enabled zone : Byte}
include saves

theorem Part.doStationWriteOne_done (low : 1 ≤ address.toNat) (high : address.toNat ≤ 48) (flag : enabled.toNat ≤ 1)
    (within : zone.toNat ≤ 11) :
    Part.doStationWriteOne address enabled zone p =
      ((p.writeStation address.toNat (flagOf enabled) zone.toNat).markUnsaved, .done 0 []) := by
  have pass : checks (stationChecks address enabled zone) () 0 = .accept () 0 :=
    checks_accept _ _ _ (by simp [stationChecks, isAddress_of low high, notFlag_of_flag flag, within])
  exact Part.configWrite_done saves (Part.outcome_accept p _ _ pass)

theorem Part.doStationWriteOne_refused {before after : List (Bool × Code × Nat)} {bad : Bool} {code : Code} {field : Nat}
    (split : stationChecks address enabled zone = before ++ (bad, code, field) :: after) (pass : ∀ x ∈ before, x.1 = false)
    (fails : bad = true) : Part.doStationWriteOne address enabled zone p = (p, .refused code field) := by
  have refuses : checks (stationChecks address enabled zone) () 0 = .refuse code field :=
    split ▸ checks_refuse_at before pass fails
  exact Part.configWrite_refused saves (Part.outcome_refuse p _ _ refuses)

end

/-- STATION_WRITE ONE refused at the first check that fails. -/
theorem AnswersWith.of_stationRefused {s : State} (w : s.Writable) (tag : Byte) {address enabled zone : Byte}
    {before after : List (Bool × Code × Nat)} {bad : Bool} {code : Code} {field : Nat}
    (split : stationChecks address enabled zone = before ++ (bad, code, field) :: after) (pass : ∀ x ∈ before, x.1 = false)
    (fails : bad = true) :
    AnswersWith (.stationWriteOne tag address enabled zone) s tag 0x17 (.refused code field) s.part :=
  .of_refused rfl rfl rfl w.ready ((s.part.taken tag 0x17).doStationWriteOne_refused w.noSave split pass fails)

/-! ### The stations of a mask (R91) -/

theorem Part.maskStations_eq (s : Part) (mask : BitVec 48) :
    s.maskStations mask true = ((List.range 48).filter fun k =>
        mask.getLsbD k && decide ((s.station (k + 1)).state = .disabled)).map (· + 1) ∧
      s.maskStations mask false = ((List.range 48).filter fun k =>
        mask.getLsbD k && !decide ((s.station (k + 1)).state = .disabled)).map (· + 1) := by
  simp [Part.maskStations, addresses, List.filter_map, Function.comp_def, Station.enabled]

theorem maskAddresses {l : List Nat} {p : Nat → Bool} (listed : l = ((List.range 48).filter p).map (· + 1)) :
    (∀ a ∈ l, 1 ≤ a ∧ a ≤ 48) ∧ l.Nodup := by
  subst listed
  refine ⟨fun a member => ?_, (List.nodup_range.filter p).map fun _ _ same => Nat.succ.inj same⟩
  obtain ⟨k, listed, rfl⟩ := List.mem_map.1 member
  have below := List.mem_range.1 (List.mem_filter.1 listed).1
  omega

theorem succ_mem_map {l : List Nat} (k : Nat) : k + 1 ∈ l.map (· + 1) ↔ k ∈ l := by simp

end Sys2Proof.Machine
end

section
/-! SUPPORT. STATION_WRITE ONE and MASK answered, by what each makes of the stations (R90, R91). Settles O50. -/

namespace Sys2Proof.Machine

/-- Station a's record with another zone. -/
def Part.storeZone (s : Part) (a z : Nat) : Part :=
  s.setStation a { s.station a with cfg := { (s.station a).cfg with zone := z } }

/-- STATION_WRITE ONE by the state of the station and the flag (R90). -/
theorem Part.writeStation_cases (p : Part) (a z : Nat) :
    ((p.station a).state ≠ .disabled →
      ((p.station a).cfg.zone = z → p.writeStation a true z = p) ∧
      ((p.station a).cfg.zone ≠ z → p.writeStation a true z = p.moveStation a z) ∧
      p.writeStation a false z = (p.disableStation a).storeZone a z) ∧
    ((p.station a).state = .disabled →
      p.writeStation a true z = (p.storeZone a z).enableStation a ∧ p.writeStation a false z = p.storeZone a z) := by
  refine ⟨fun on => ?_, fun off => ?_⟩
  · have enabled : (p.station a).enabled = true := decide_eq_true on
    refine ⟨fun same => ?_, fun moves => ?_, ?_⟩
    · simp [Part.writeStation, enabled, same]
    · simp [Part.writeStation, enabled, moves]
    · simp [Part.writeStation, enabled, Part.storeZone]
  · have disabled : (p.station a).enabled = false := decide_eq_false (fun on => on off)
    exact ⟨by simp [Part.writeStation, disabled, Part.storeZone], by simp [Part.writeStation, disabled, Part.storeZone]⟩

theorem StationDisabled.storeZone {x : Part} {a : Nat} (disabled : StationDisabled x a) (z : Nat) (low : 1 ≤ a)
    (high : a ≤ 48) : StationDisabled (x.storeZone a z) a := by
  have record := x.station_setStation_same { x.station a with cfg := { (x.station a).cfg with zone := z } } low high
  unfold StationDisabled at disabled ⊢
  rw [show (x.storeZone a z).station a = _ from record]
  exact disabled

theorem StationDisabled.of_eq {q t : Part} {a : Nat} (disabled : StationDisabled q a) (dl : t.dl = q.dl) (zc : t.zc = q.zc) :
    StationDisabled t a := by
  unfold StationDisabled Part.runOn at *
  rwa [Part.station_of_dl dl, dl, zc]

theorem StationEnabled.of_eq {q t : Part} {a : Nat} (enabled : StationEnabled q a) (dl : t.dl = q.dl) : StationEnabled t a := by
  unfold StationEnabled at *
  rwa [Part.station_of_dl dl, dl]

theorem DemandsEnd.of_eq {p q t : Part} {left : Nat → Prop} (ends : DemandsEnd p q left) (zc : t.zc = q.zc) :
    DemandsEnd p t left := by
  unfold DemandsEnd Part.runOn Part.curtainHanded at *
  rwa [zc]

/-- What STATION_WRITE ONE makes of the other stations, the zone of its own and the settings. -/
def StationWritten (s : Part) (a zone : Nat) (q : Part) : Prop :=
  (∀ b, 1 ≤ b → b ≤ 48 → b ≠ a → SameButPending (s.station b) (q.station b)) ∧ (q.station a).cfg.zone = zone ∧
    q.link.unsaved = true ∧ ChangesOnly [.doorLine, .conditioner, .settings, .replies, .notices, .handed] s q

section
variable {s : State} (w : s.Writable) (tag : Byte) {address enabled zone : Byte} (low : 1 ≤ address.toNat)
  (high : address.toNat ≤ 48) (within : zone.toNat ≤ 11)
include w low high within

theorem AnswersWith.of_stationKept (on : (s.part.station address.toNat).state ≠ .disabled) (enables : enabled = 1)
    (same : (s.part.station address.toNat).cfg.zone = zone.toNat) :
    AnswersWith (.stationWriteOne tag address enabled zone) s tag 0x17 (.done 0 [])
      { s.part with link := { s.part.link with unsaved := true } } := by
  subst enables
  have kept : (s.part.taken tag 0x17).writeStation address.toNat (flagOf 1) zone.toNat = s.part.taken tag 0x17 :=
    (((s.part.taken tag 0x17).writeStation_cases address.toNat zone.toNat).1 on).1 same
  have work := (s.part.taken tag 0x17).doStationWriteOne_done w.noSave low high (enabled := 1) (by decide) within
  rw [kept] at work
  exact .of_serve rfl rfl rfl w.ready (by simp) work ⟨rfl, rfl, rfl⟩

theorem Answers.of_stationMoved (on : (s.part.station address.toNat).state ≠ .disabled) (enables : enabled = 1)
    (moves : (s.part.station address.toNat).cfg.zone ≠ zone.toNat) :
    let a := address.toNat
    let st := s.part.station a
    Answers (.stationWriteOne tag address enabled zone) s tag 0x17 (.done 0 []) fun q =>
      (q.station a).state = st.state ∧ (q.station a).door = st.door ∧ q.zc = s.part.zc ∧
        q.due = s.part.due ++ [.evaluate st.cfg.zone, .evaluate zone.toNat] ++
          groupsOwed (s.part.zone st.cfg.zone).cfg.group (s.part.zone zone.toNat).cfg.group ∧
        Posts (longTold a st.watch st.limitSent zone.toNat (s.part.dl.limit zone.toNat)) s.part q ∧
        StationWritten s.part a zone.toNat q := by
  intro a st
  subst enables
  let p := s.part.taken tag 0x17
  have moved : p.writeStation a (flagOf 1) zone.toNat = p.moveStation a zone.toNat :=
    ((p.writeStation_cases a zone.toNat).1 on).2.1 moves
  have work := (s.part.taken tag 0x17).doStationWriteOne_done w.noSave low high (enabled := 1) (by decide) within
  rw [show (s.part.taken tag 0x17).writeStation address.toNat _ _ = _ from moved] at work
  obtain ⟨⟨sent, line⟩, due, posts⟩ := p.moveStation_moves zone.toNat low high
  have ⟨clock, cal, mu, zc, air, lb, running, still, _⟩ := p.moveStation_keeps a zone.toNat
  have own := Part.station_of_written line low high
  refine .of_stationWrite rfl rfl rfl w work still (.of_records clock cal mu zc air lb running still)
    fun t dl unit handed unsaved told moves' => ?_
  have station (b : Nat) : t.station b = (p.moveStation a zone.toNat).station b := Part.station_of_dl dl b
  refine ⟨?_, ?_, unit.trans zc, handed.trans due, told _ posts, fun b low' _ other => ⟨(s.part.station b).pending, ?_⟩, ?_,
    unsaved, moves'.mono (by simp)⟩
  · rw [station, own]
    rfl
  · rw [station, own]
    rfl
  · rw [station, Part.station, line]
    exact p.dl.station_setStation_other _ low low' other
  · rw [station, own]

theorem Answers.of_stationOff (on : (s.part.station address.toNat).state ≠ .disabled) (disables : enabled = 0) :
    let a := address.toNat
    Answers (.stationWriteOne tag address enabled zone) s tag 0x17 (.done 0 []) fun q =>
      StationDisabled q a ∧ Posts (leaveTold a (s.part.station a) .disabled .disabled) s.part q ∧
        q.due = s.part.due ++ leaveHanded s.part a ∧ DemandsEnd s.part q (· = a) ∧ StationWritten s.part a zone.toNat q := by
  intro a
  subst disables
  let p := s.part.taken tag 0x17
  have wrote : p.writeStation a (flagOf 0) zone.toNat = (p.disableStation a).storeZone a zone.toNat :=
    ((p.writeStation_cases a zone.toNat).1 on).2.2
  have work := p.doStationWriteOne_done w.noSave low high (enabled := 0) (by decide) within
  rw [show p.writeStation address.toNat _ _ = _ from wrote] at work
  have off := StationsDisabled.one p low high
  have demands := off.demands
  simp only [List.mem_singleton] at demands
  have gone := StationDisabled.storeZone (off.gone a (List.mem_singleton_self a)).1 zone.toNat low high
  have ⟨clock, cal, mu, air, lb, running, still, _⟩ := p.disableStation_keeps a
  have moves : ChangesOnly [.doorLine, .conditioner, .notices, .handed] p ((p.disableStation a).storeZone a zone.toNat) :=
    .of_doorWork clock cal mu air lb running still
  refine .of_stationWrite rfl rfl rfl w work still moves fun t dl unit handed unsaved told moves' => ?_
  have station := Part.station_of_dl dl
  refine ⟨StationDisabled.of_eq gone dl unit, told _ (.of_unsent rfl rfl (p.disableStation_posts low high)),
    handed.trans (p.disableStation_due low high), DemandsEnd.of_eq demands unit,
    fun b low' high' other => ?_, ?_, unsaved, moves'.mono (by simp)⟩
  · rw [station, show ((p.disableStation a).storeZone a zone.toNat).station b = (p.disableStation a).station b from
      DoorLine.station_setStation_other _ _ low low' other]
    exact off.others b low' high' (by simpa using other)
  · rw [station, show ((p.disableStation a).storeZone a zone.toNat).station a = _ from
      Part.station_setStation_same _ _ low high]

theorem Answers.of_stationStored (off : (s.part.station address.toNat).state = .disabled) (disables : enabled = 0) :
    let a := address.toNat
    let st := s.part.station a
    Answers (.stationWriteOne tag address enabled zone) s tag 0x17 (.done 0 []) fun q =>
      q.station a = { st with cfg := { st.cfg with zone := zone.toNat } } ∧ q.zc = s.part.zc ∧ q.due = s.part.due ∧
        Posts [] s.part q ∧ StationWritten s.part a zone.toNat q := by
  intro a st
  subst disables
  let p := s.part.taken tag 0x17
  have wrote : p.writeStation a (flagOf 0) zone.toNat = p.storeZone a zone.toNat :=
    ((p.writeStation_cases a zone.toNat).2 off).2
  have work := p.doStationWriteOne_done w.noSave low high (enabled := 0) (by decide) within
  rw [show p.writeStation address.toNat _ _ = _ from wrote] at work
  refine .of_stationWrite rfl rfl rfl w work rfl (.of_dl p _) fun t dl unit handed unsaved told moves => ?_
  have station := Part.station_of_dl dl
  have record : t.station a = { st with cfg := { st.cfg with zone := zone.toNat } } :=
    (station a).trans (p.station_setStation_same _ low high)
  refine ⟨record, unit, handed, told _ (.nothing rfl), fun b low' _ other => ⟨(s.part.station b).pending, ?_⟩, by rw [record],
    unsaved, moves.mono (by simp)⟩
  exact (station b).trans (p.dl.station_setStation_other _ low low' other)

theorem Answers.of_stationOn (off : (s.part.station address.toNat).state = .disabled) (enables : enabled = 1) :
    let a := address.toNat
    Answers (.stationWriteOne tag address enabled zone) s tag 0x17 (.done 0 []) fun q =>
      StationEnabled q a ∧ q.zc = s.part.zc ∧ q.due = s.part.due ∧ Posts [] s.part q ∧
        StationWritten s.part a zone.toNat q := by
  intro a
  subst enables
  let p := s.part.taken tag 0x17
  have wrote : p.writeStation a (flagOf 1) zone.toNat = (p.storeZone a zone.toNat).enableStation a :=
    ((p.writeStation_cases a zone.toNat).2 off).1
  have work := p.doStationWriteOne_done w.noSave low high (enabled := 1) (by decide) within
  rw [show p.writeStation address.toNat _ _ = _ from wrote] at work
  obtain ⟨⟨line, same⟩, on, others, -⟩ := StationsEnabled.one (p.storeZone a zone.toNat) low high
  obtain ⟨enabled, kept⟩ := on a (List.mem_singleton_self a)
  have zoneIs : ((p.storeZone a zone.toNat).station a).cfg.zone = zone.toNat := by
    rw [show (p.storeZone a zone.toNat).station a = _ from p.station_setStation_same _ low high]
  have moves : ChangesOnly [.doorLine] p ((p.storeZone a zone.toNat).enableStation a) := by
    rw [same]
    exact ((ChangesOnly.of_dl p _).trans (.of_dl _ line)).mono (by simp)
  refine .of_stationWrite rfl rfl rfl w work (by rw [same]; rfl) moves fun t dl unit handed unsaved told moves' => ?_
  have station := Part.station_of_dl dl
  refine ⟨StationEnabled.of_eq enabled dl, unit.trans (by rw [same]; rfl), handed.trans (by rw [same]; rfl),
    told _ (.nothing (by rw [same]; rfl)), fun b low' _ other => ⟨(s.part.station b).pending, ?_⟩, ?_, unsaved,
    moves'.mono (by simp)⟩
  · rw [station, others b low' (by simpa using other)]
    exact p.dl.station_setStation_other _ low low' other
  · rw [station, kept, zoneIs]

end

/-! ### STATION_WRITE MASK (R91) -/

theorem Part.doStationMask_done (p : Part) (saves : p.link.saving = none) (mask : BitVec 48) (l : List Nat) :
    (p.maskStations mask true = l.map (· + 1) → p.doStationMaskEnable mask =
      ((p.forEach (l.map (· + 1)) Part.enableStation).markUnsaved, .done 0 [BitVec.ofNat 8 l.length])) ∧
    (p.maskStations mask false = l.map (· + 1) → p.doStationMaskDisable mask =
      ((p.forEach (l.map (· + 1)) Part.disableStation).markUnsaved, .done 0 [BitVec.ofNat 8 l.length])) := by
  refine ⟨fun listed => Part.configWrite_done saves ?_, fun listed => Part.configWrite_done saves ?_⟩ <;>
  · dsimp only
    rw [listed, List.length_map]
    rfl

section
variable {s : State} (w : s.Writable) (tag : Byte) (mask : BitVec 48)
include w

theorem Answers.of_maskEnabled :
    let toEnable := (List.range 48).filter fun k => mask.getLsbD k && decide ((s.part.station (k + 1)).state = .disabled)
    Answers (.stationWriteMaskEnable tag mask) s tag 0x17 (.done 0 [BitVec.ofNat 8 toEnable.length]) fun q =>
      (∀ k < 48, k ∈ toEnable → StationEnabled q (k + 1)) ∧
      (∀ k < 48, k ∉ toEnable → q.station (k + 1) = s.part.station (k + 1)) ∧ q.link.unsaved = true ∧
      ChangesOnly [.doorLine, .settings, .replies] s.part q := by
  intro toEnable
  let p := s.part.taken tag 0x17
  have listed : p.maskStations mask true = toEnable.map (· + 1) := (p.maskStations_eq mask).1
  have work := (p.doStationMask_done w.noSave mask toEnable).1 listed
  obtain ⟨range, once⟩ := maskAddresses (l := toEnable.map (· + 1)) rfl
  obtain ⟨⟨line, same⟩, on, others, -⟩ := StationsEnabled.forEach (toEnable.map (· + 1)) p range once
  have moves : ChangesOnly [.doorLine] p (p.forEach (toEnable.map (· + 1)) Part.enableStation) := by
    rw [same]
    exact .of_dl p line
  refine .of_stationWrite rfl rfl rfl w work (by rw [same]) moves fun t dl _ _ unsaved _ moves' => ?_
  refine ⟨fun k _ member => StationEnabled.of_eq (on _ ((succ_mem_map k).2 member)).1 dl, fun k _ stays => ?_, unsaved,
    moves'.mono (by simp)⟩
  exact (Part.station_of_dl dl _).trans (others _ (by omega) fun member => stays ((succ_mem_map k).1 member))

theorem Answers.of_maskDisabled :
    let toDisable := (List.range 48).filter fun k => mask.getLsbD k && !decide ((s.part.station (k + 1)).state = .disabled)
    Answers (.stationWriteMaskDisable tag mask) s tag 0x17 (.done 0 [BitVec.ofNat 8 toDisable.length]) fun q =>
      (∀ k < 48, k ∈ toDisable → StationDisabled q (k + 1)) ∧
      (∀ k < 48, k ∉ toDisable → SameButPending (s.part.station (k + 1)) (q.station (k + 1))) ∧ q.link.unsaved = true ∧
      Posts (toDisable.flatMap fun k => leaveTold (k + 1) (s.part.station (k + 1)) .disabled .disabled) s.part q ∧
      q.due = s.part.due ++ toDisable.flatMap (fun k => leaveHanded s.part (k + 1)) ∧
      DemandsEnd s.part q (fun b => b - 1 ∈ toDisable) ∧
      ChangesOnly [.doorLine, .conditioner, .settings, .replies, .notices, .handed] s.part q := by
  intro toDisable
  let p := s.part.taken tag 0x17
  have listed : p.maskStations mask false = toDisable.map (· + 1) := (p.maskStations_eq mask).2
  have work := (p.doStationMask_done w.noSave mask toDisable).2 listed
  obtain ⟨range, once⟩ := maskAddresses (l := toDisable.map (· + 1)) rfl
  have off := StationsDisabled.forEach (toDisable.map (· + 1)) p range once
  have moves : ChangesOnly [.doorLine, .conditioner, .notices, .handed] p
      (p.forEach (toDisable.map (· + 1)) Part.disableStation) :=
    .of_doorWork off.clock (by simp) (by simp) (by simp) off.lb (by simp) off.still
  generalize p.forEach (toDisable.map (· + 1)) Part.disableStation = q at work off moves
  have demands : DemandsEnd p q fun b => b - 1 ∈ toDisable := by
    refine ⟨off.demands.1, fun b low high => ?_⟩
    have member : b ∈ toDisable.map (· + 1) ↔ b - 1 ∈ toDisable := by
      rw [← succ_mem_map (l := toDisable), Nat.sub_add_cancel low]
    dsimp only
    rw [← member]
    exact off.demands.2 b low high
  have posts := off.posts
  have due := off.due
  rw [List.flatMap_map] at posts due
  refine .of_stationWrite rfl rfl rfl w work off.still moves fun t dl unit handed unsaved told moves' => ?_
  refine ⟨fun k _ member => StationDisabled.of_eq (off.gone _ ((succ_mem_map k).2 member)).1 dl unit, fun k below stays => ?_,
    unsaved, told _ posts, handed.trans due, DemandsEnd.of_eq demands unit, moves'.mono (by simp)⟩
  rw [Part.station_of_dl dl]
  exact off.others _ (by omega) (by omega) fun member => stays ((succ_mem_map k).1 member)

end

/-- Settles O50: STATION_WRITE ONE by the state of the station and its operands, its refusals by the first check that fails, and
STATION_WRITE MASK by what it makes of its stations one after another. -/
theorem stationsAreWrittenOneByOneOrByMask : Obligations.StationsAreWrittenOneByOneOrByMask := by
  unfold Obligations.StationsAreWrittenOneByOneOrByMask
  intro s tag address enabled zone mask w a st one disabled toEnable toDisable others
  refine ⟨fun low high within => ⟨.of_stationKept w tag low high within, .of_stationMoved w tag low high within,
      .of_stationOff w tag low high within, .of_stationOn w tag low high within, .of_stationStored w tag low high within⟩,
    fun index => ?_, fun low high beyond => ?_, fun low high flag beyond => ?_, .of_maskEnabled w tag mask,
    .of_maskDisabled w tag mask⟩
  · have none : isAddress address.toNat = false := by
      simp only [isAddress, Bool.and_eq_false_iff, decide_eq_false_iff_not]
      omega
    exact .of_stationRefused w tag (before := []) rfl (by simp) (by rw [none]; rfl)
  · have valid : isAddress address.toNat = true := isAddress_of low high
    exact .of_stationRefused w tag (before := [_]) rfl (by simp [valid]) (notFlag_of_beyond beyond)
  · have valid : isAddress address.toNat = true := isAddress_of low high
    exact .of_stationRefused w tag (before := [_, _]) rfl (by simp [valid, notFlag_of_flag flag]) (decide_eq_true beyond)

end Sys2Proof.Machine
end

section
/-! SUPPORT. The heat arithmetic of an evaluation on the zone's record alone (R119 to R129), with the figures it reads (R105,
R162). -/

namespace Sys2Proof.Machine

/-! ### Figures read -/

theorem foldl_filter_add {α : Type} (keep : α → Bool) (figure : α → Nat) (l : List α) (n : Nat) :
    (l.filter keep).foldl (fun n x => n + figure x) n = n + (l.map fun x => if keep x then figure x else 0).sum := by
  induction l generalizing n with
  | nil => simp
  | cons x rest ih => cases kept : keep x <;> simp [kept, ih, Nat.add_assoc]

/-- The door quarters of a zone, station by station (R105). -/
theorem Part.doorQuarters_eq (p : Part) (z : Nat) :
    p.doorQuarters z = ((List.range 48).map fun k =>
      let st := p.station (k + 1)
      if st.state ≠ .disabled ∧ st.cfg.zone = z ∧ st.door = .opened then (if st.docked = true then 1 else 4) else 0).sum := by
  rw [Part.doorQuarters, foldl_filter_add, Nat.zero_add, Tab.list_eq, List.map_map]
  refine congrArg List.sum (List.map_congr_left fun k _ => ?_)
  change (if decide ((p.station (k + 1)).cfg.zone = z) = true then (p.station (k + 1)).quarters else 0) = _
  unfold Station.quarters Station.enabled
  generalize p.station (k + 1) = st
  by_cases zone : st.cfg.zone = z <;> by_cases state : st.state = .disabled <;> simp [zone, state]

/-- The loads of a kind and owner that hold a grant are those whose grant is not none. -/
theorem Budget.grantedCount_eq (lb : Budget) (kind : LoadKind) (owner : Nat) :
    lb.grantedCount kind owner = ((lb.owned kind owner).filter fun i => decide ((lb.load i).grant ≠ .none)).length := by
  have held (g : Grant) : g.held = decide (g ≠ .none) := by cases g <;> rfl
  simp only [Budget.grantedCount, held]

/-! ### Heat mode and Tz (R119) -/

section
variable {ch : Channel} {hold : Nat}

theorem chooseHeat_of_valid (valid : ch.validity = .valid) : chooseHeat ch hold = (.normal, some ch.value) := by
  simp [chooseHeat, valid]

theorem chooseHeat_of_young {a : Nat} (doubtful : ch.validity = .suspect ∨ ch.validity = .fault) (age : ch.age = some a)
    (young : a < hold) : chooseHeat ch hold = (.holding, some ch.value) := by
  rcases doubtful with validity | validity <;> simp [chooseHeat, validity, age, young]

theorem chooseHeat_of_old
    (old : ch.validity = .unseen ∨ ch.validity ≠ .valid ∧ (∀ a, ch.age = some a → hold ≤ a)) :
    chooseHeat ch hold = (.lost, none) := by
  rcases old with unseen | ⟨invalid, old⟩
  · simp [chooseHeat, unseen]
  · cases validity : ch.validity with
    | valid => exact absurd validity invalid
    | unseen => simp [chooseHeat, validity]
    | _ =>
      cases age : ch.age with
      | none => simp [chooseHeat, validity, age]
      | some a => simp [chooseHeat, validity, age, old a age]

end

/-! ### Error, demand and stages (R121 to R126) -/

theorem heatError_bounds (sp : Nat) (tz : Int) (door vent : Nat) :
    -500 ≤ heatError sp tz door vent ∧ heatError sp tz door vent ≤ 500 := by
  unfold heatError clampZ
  omega

theorem proportional_bounds {kp : Nat} {e : Int} (within : -500 ≤ e ∧ e ≤ 500) (gain : kp ≤ 255) :
    -15937 ≤ proportional kp e ∧ proportional kp e ≤ 15937 := by
  have low : -127500 ≤ (kp : Int) * e := by nlinarith
  have high : (kp : Int) * e ≤ 127500 := by nlinarith
  exact ⟨Int.tdiv_le_tdiv (c := 8) (by decide) low, Int.tdiv_le_tdiv (c := 8) (by decide) high⟩

theorem integrate_of_held {i : Nat} {e : Int} {g s imax : Nat} (up : 0 < e) (short : g < s) : integrate i e g s imax = i :=
  if_pos ⟨up, short⟩

theorem integrate_of_free {i : Nat} {e : Int} {g s imax : Nat} (free : ¬ (0 < e ∧ g < s)) :
    (integrate i e g s imax : Int) = max 0 (min (imax : Int) (i + e)) := by
  rw [integrate, if_neg free, clampZ]
  omega

theorem integrate_le {i : Nat} (e : Int) (g s : Nat) {imax top : Nat} (before : i ≤ top) (cut : imax ≤ top) :
    integrate i e g s imax ≤ top := by
  by_cases held : 0 < e ∧ g < s
  · rwa [integrate_of_held held.1 held.2]
  · have free := integrate_of_free (i := i) (imax := imax) held
    omega

theorem integralTerm_le {ki i : Nat} (gain : ki ≤ 255) (within : i ≤ 30000) : ki * i / 256 ≤ 29882 :=
  Nat.le_trans (Nat.div_le_div_right (Nat.mul_le_mul gain within)) (by decide)

theorem heatDemand_eq (p : Int) (iterm : Nat) : (heatDemand p iterm : Int) = max 0 (min 1000 (p + iterm)) := by
  unfold heatDemand clampZ
  omega

/-- The stage count graded from the demand, by how many on-thresholds and off-thresholds it meets (R126). -/
theorem gradeHeat_eq (s n hyst d : Nat) :
    let on := ((List.range n).filter fun k => decide ((k + 1) * 1000 / (n + 1) ≤ d)).length
    let off := ((List.range n).filter fun k => decide ((k + 1) * 1000 / (n + 1) ≤ d + hyst)).length
    (n = 0 → gradeHeat s n hyst d = 0) ∧
      (0 < n → gradeHeat s n hyst d = if s < on then on else if off < s then off else s) := by
  intro on off
  refine ⟨fun none => if_pos none, fun some => ?_⟩
  have met (slack : Nat) : metCount d ((onThresholds n).map (· - (slack : Int))) =
      ((List.range n).filter fun k => decide ((k + 1) * 1000 / (n + 1) ≤ d + slack)).length := by
    rw [metCount, onThresholds, List.map_map, List.filter_map, List.length_map]
    refine congrArg List.length (List.filter_congr fun k _ => decide_eq_decide.2 ?_)
    simp only [Function.comp_apply]
    omega
  have plain := met 0
  simp only [Nat.cast_zero, sub_zero, List.map_id', Nat.add_zero] at plain
  rw [gradeHeat, if_neg some.ne', met, plain]
  rfl

/-! ### The record after steps 3 to 5 of an evaluation (R118) -/

section
variable (zone : Zone) (r : HeatReading)

theorem Zone.withReading_eq :
    ∃ sp door vent e, zone.withReading r =
        { zone with
          mode := r.mode, tz := r.tz, quarters := r.quarters, g := r.granted, gFan := r.fans, evaluated := true
          sp := sp, doorTerm := door, ventTerm := vent, e := e } ∧
      (∀ t, r.tz = some t → sp = r.setpoint ∧ door = zone.cfg.kd * r.quarters / 4 ∧ vent = r.fans * zone.cfg.kv ∧
        e = heatError r.setpoint t door vent) ∧
      (r.tz = none → door = 0 ∧ vent = 0 ∧ e = 0) := by
  cases tz : r.tz with
  | none => exact ⟨0, 0, 0, 0, by simp [Zone.withReading, tz], by simp, by simp⟩
  | some t =>
    exact ⟨r.setpoint, zone.cfg.kd * r.quarters / 4, r.fans * zone.cfg.kv,
      heatError r.setpoint t (zone.cfg.kd * r.quarters / 4) (r.fans * zone.cfg.kv), by simp only [Zone.withReading, tz],
      by simp, by simp⟩

theorem Zone.withReading_error : -500 ≤ (zone.withReading r).e ∧ (zone.withReading r).e ≤ 500 := by
  cases tz : r.tz with
  | none => simp [Zone.withReading, tz]
  | some t =>
    simp only [Zone.withReading, tz]
    exact heatError_bounds _ _ _ _

/-- Whatever forms the demand, an evaluation writes P, the I term, I, D and S alone after its reading. -/
theorem Zone.heat_eq :
    ∃ p iterm i d n, zone.heat r = { zone.withReading r with p := p, iterm := iterm, i := i, d := d, s := n } := by
  simp only [Zone.heat]
  split
  · exact ⟨_, _, _, _, _, rfl⟩
  · split <;> exact ⟨_, _, _, _, _, rfl⟩

/-- An evaluation keeps the fields that other events set, and marks the zone evaluated. -/
@[simp] theorem Zone.heat_keeps :
    (zone.heat r).cfg = zone.cfg ∧ (zone.heat r).guard = zone.guard ∧ (zone.heat r).presence = zone.presence ∧
      (zone.heat r).lightGuard = zone.lightGuard ∧ (zone.heat r).handed = zone.handed ∧
      (zone.heat r).handedLight = zone.handedLight ∧ (zone.heat r).evaluated = true ∧ (zone.heat r).mode = r.mode ∧
      (zone.heat r).tz = r.tz ∧ (zone.heat r).quarters = r.quarters ∧ (zone.heat r).g = r.granted ∧
      (zone.heat r).gFan = r.fans := by
  obtain ⟨p, iterm, i, d, n, heat⟩ := zone.heat_eq r
  obtain ⟨sp, door, vent, e, read, -⟩ := zone.withReading_eq r
  simp [heat, read]

theorem Zone.heat_terms {t : Int} (tz : r.tz = some t) :
    (zone.heat r).sp = r.setpoint ∧ (zone.heat r).quarters = r.quarters ∧
      (zone.heat r).doorTerm = zone.cfg.kd * r.quarters / 4 ∧ (zone.heat r).ventTerm = r.fans * zone.cfg.kv ∧
      (zone.heat r).e =
        max (-500) (min 500 ((r.setpoint : Int) - t + (zone.cfg.kd * r.quarters / 4 : Nat) + (r.fans * zone.cfg.kv : Nat))) := by
  obtain ⟨p, iterm, i, d, n, heat⟩ := zone.heat_eq r
  obtain ⟨sp, door, vent, e, read, terms, -⟩ := zone.withReading_eq r
  obtain ⟨rfl, rfl, rfl, rfl⟩ := terms t tz
  rw [heat, read]
  exact ⟨rfl, rfl, rfl, rfl, rfl⟩

theorem Zone.heat_noTerms (tz : r.tz = none) :
    (zone.heat r).doorTerm = 0 ∧ (zone.heat r).ventTerm = 0 ∧ (zone.heat r).e = 0 := by
  obtain ⟨p, iterm, i, d, n, heat⟩ := zone.heat_eq r
  obtain ⟨sp, door, vent, e, read, -, none⟩ := zone.withReading_eq r
  rw [heat, read]
  exact none tz

/-- The record that the demand is formed from keeps its gains, I and S through the reading. -/
theorem Zone.withReading_keeps :
    (zone.withReading r).cfg = zone.cfg ∧ (zone.withReading r).i = zone.i ∧ (zone.withReading r).s = zone.s := by
  obtain ⟨sp, door, vent, e, read, -⟩ := zone.withReading_eq r
  simp [read]

/-- The freeze guard's demand takes the place of the arithmetic (R128). -/
theorem Zone.heat_of_guard (guard : zone.guard = true) :
    (zone.heat r).p = 0 ∧ (zone.heat r).iterm = 0 ∧ (zone.heat r).d = 1000 ∧ (zone.heat r).s = r.stages ∧
      (zone.heat r).i = zone.i := by
  rw [show zone.heat r = (zone.withReading r).freezeDemand r from if_pos guard]
  exact ⟨rfl, rfl, rfl, rfl, (zone.withReading_keeps r).2.1⟩

/-- The fallback of a lost temperature takes the place of the arithmetic (R129). -/
theorem Zone.heat_of_lost (clear : zone.guard = false) (lost : r.mode = .lost) :
    (zone.heat r).p = 0 ∧ (zone.heat r).iterm = 0 ∧ (zone.heat r).i = 0 ∧ (zone.heat r).d = 500 ∧
      (zone.heat r).s = min zone.cfg.fallback r.stages := by
  have heat : zone.heat r = (zone.withReading r).fallbackDemand r := by simp [Zone.heat, clear, lost]
  rw [heat, ← (zone.withReading_keeps r).1]
  exact ⟨rfl, rfl, rfl, rfl, rfl⟩

/-- The proportional and integral parts, the demand and the stage count (R123 to R126). -/
theorem Zone.heat_of_arithmetic (clear : zone.guard = false) (found : r.mode ≠ .lost) :
    let n := zone.heat r
    n.p = proportional zone.cfg.kp n.e ∧ -500 ≤ n.e ∧ n.e ≤ 500 ∧
      n.i = integrate zone.i n.e r.granted zone.s zone.cfg.imax ∧ n.iterm = zone.cfg.ki * n.i / 256 ∧
      n.d = heatDemand n.p n.iterm ∧ n.s = gradeHeat zone.s r.stages zone.cfg.hyst n.d := by
  have heat : zone.heat r = (zone.withReading r).arithmetic r := by simp [Zone.heat, clear, found]
  obtain ⟨low, high⟩ := zone.withReading_error r
  obtain ⟨cfg, i, s⟩ := zone.withReading_keeps r
  rw [heat, ← cfg, ← i, ← s]
  exact ⟨rfl, low, high, rfl, rfl, rfl, rfl⟩

/-- An evaluation leaves I within Imax (R124). -/
theorem Zone.heat_i_le (cut : zone.i ≤ zone.cfg.imax) : (zone.heat r).i ≤ zone.cfg.imax := by
  cases guard : zone.guard with
  | true =>
    obtain ⟨-, -, -, -, i⟩ := zone.heat_of_guard r guard
    rwa [i]
  | false =>
    by_cases lost : r.mode = .lost
    · obtain ⟨-, -, i, -⟩ := zone.heat_of_lost r guard lost
      simp [i]
    · obtain ⟨-, -, -, i, -⟩ := zone.heat_of_arithmetic r guard lost
      rw [i]
      exact integrate_le _ _ _ cut (Nat.le_refl _)

end

end Sys2Proof.Machine
end

section
/-! SUPPORT. What work on the zones spares: the records of the other zones and of the stations that serve them, and all that an
evaluation reads of the other blocks; and the stage requests and the light of an evaluation (R131, R134, R135, R138). -/

namespace Sys2Proof.Machine

/-! ### Work on some of the zones -/

/-- Work on the zones that are touched, and on the stations that serve them: of p stay in q the other zones' records and their
stations, the blocks that an evaluation reads, and the events due, before those handed on. -/
structure Part.Spares (p q : Part) (touched : Nat → Prop) : Prop where
  cal : q.cal = p.cal
  mu : q.mu = p.mu
  lb : q.lb = p.lb
  interval : q.zc.interval = p.zc.interval
  hold : q.zc.hold = p.zc.hold
  outputs : p.OutputsMove q
  zones : ∀ y, ¬ touched y → q.zone y = p.zone y
  stations : ∀ a, 1 ≤ a → a ≤ 48 → ¬ touched (p.station a).cfg.zone → StationKept p q a
  due : p.due <+: q.due

theorem StationKept.trans {p q r : Part} {a : Nat} (first : StationKept p q a) (second : StationKept q r a) :
    StationKept p r a :=
  ⟨second.1.trans first.1, second.2.1.trans first.2.1, second.2.2.trans first.2.2⟩

/-- A station keeps its record, its run-on and its request where the door line stays, and the zone conditioner but for the zones'
records. -/
theorem StationKept.of_eq {p q : Part} (dl : q.dl = p.dl) (zones : Vector Zone 12)
    (zc : q.zc.withZones zones = p.zc.withZones zones) (a : Nat) : StationKept p q a :=
  ⟨Part.station_of_dl dl a, (congrArg (fun c : Conditioner => Tab.get c.runOns (a - 1)) zc :),
    (congrArg (fun c : Conditioner => Tab.get c.curtainHanded (a - 1)) zc :)⟩

namespace Part.Spares

variable {p q r : Part} {touched more : Nat → Prop}

/-- A station's record keeps all but its outputs, whatever zone it serves. -/
theorem record (spares : p.Spares q touched) (a : Nat) : (p.station a).SameButOutputs (q.station a) :=
  spares.outputs.records a

theorem serves (spares : p.Spares q touched) (a : Nat) : (q.station a).cfg = (p.station a).cfg :=
  (spares.record a).setting.1

theorem trans (first : p.Spares q touched) (second : q.Spares r touched) : p.Spares r touched where
  cal := second.cal.trans first.cal
  mu := second.mu.trans first.mu
  lb := second.lb.trans first.lb
  interval := second.interval.trans first.interval
  hold := second.hold.trans first.hold
  outputs := first.outputs.trans second.outputs
  zones y spared := (second.zones y spared).trans (first.zones y spared)
  stations a low high spared :=
    StationKept.trans (first.stations a low high spared) (second.stations a low high (first.serves a ▸ spared))
  due := first.due.trans second.due

theorem mono (spares : p.Spares q touched) (sub : ∀ y, touched y → more y) : p.Spares q more :=
  { spares with
    zones := fun y spared => spares.zones y fun member => spared (sub y member)
    stations := fun a low high spared => spares.stations a low high fun member => spared (sub _ member) }

/-- Work that leaves the blocks an evaluation reads and the door line, and the zone conditioner but for some zones' records. -/
theorem of_zones {zones : Vector Zone 12} (cal : q.cal = p.cal) (mu : q.mu = p.mu) (lb : q.lb = p.lb) (dl : q.dl = p.dl)
    (zc : q.zc = { p.zc with zones := zones }) (kept : ∀ y, ¬ touched y → q.zone y = p.zone y) (due : p.due <+: q.due) :
    p.Spares q touched where
  cal := cal
  mu := mu
  lb := lb
  interval := by rw [zc]
  hold := by rw [zc]
  outputs := .of_eq dl
  zones := kept
  stations a _ _ _ := StationKept.of_eq dl zones (by rw [zc]; rfl) a
  due := due

/-- Work outside the door line and the zone conditioner, and outside the blocks an evaluation reads. -/
theorem of_eq (cal : q.cal = p.cal) (mu : q.mu = p.mu) (lb : q.lb = p.lb) (dl : q.dl = p.dl) (zc : q.zc = p.zc)
    (due : p.due <+: q.due) : p.Spares q touched :=
  .of_zones (zones := p.zc.zones) cal mu lb dl zc (fun y _ => congrArg (fun c : Conditioner => Tab.get c.zones y) zc) due

theorem refl (p : Part) (touched : Nat → Prop) : p.Spares p touched := .of_eq rfl rfl rfl rfl rfl ⟨[], List.append_nil _⟩

theorem hand (p : Part) (c : Change) (touched : Nat → Prop) : p.Spares (p.hand c) touched :=
  .of_eq rfl rfl rfl rfl rfl ⟨_, rfl⟩

theorem setZone (p : Part) (z : Nat) (zone : Zone) : p.Spares (p.setZone z zone) (· = z) :=
  .of_zones (zones := Tab.put p.zc.zones z zone) rfl rfl rfl rfl rfl (fun y other => p.zone_setZone_other z y zone other)
    ⟨[], List.append_nil _⟩

/-- The same zone's record set before and after the work. -/
theorem setZone_both (spares : p.Spares q touched) {z : Nat} (zone : Zone) (hz : z < 12) :
    (p.setZone z zone).Spares (q.setZone z zone) touched :=
  { spares with
    outputs := spares.outputs
    zones := fun y spared => by
      by_cases which : y = z
      · rw [which, q.zone_setZone z zone hz, p.zone_setZone z zone hz]
      · rw [q.zone_setZone_other z y zone which, p.zone_setZone_other z y zone which, spares.zones y spared]
    stations := spares.stations }

/-- An operation on each number of a list. -/
theorem forEach {f : Part → Nat → Part} (l : List Nat) (s : Part)
    (each : ∀ t, s.Spares t touched → ∀ n ∈ l, t.Spares (f t n) touched) : s.Spares (s.forEach l f) touched := by
  induction l generalizing s with
  | nil => exact .refl s touched
  | cons n rest ih =>
    have first := each s (.refl s touched) n List.mem_cons_self
    exact first.trans (ih (f s n) fun t spares m member => each t (first.trans spares) m (List.mem_cons_of_mem n member))

end Part.Spares

/-! ### The stage requests (R131) -/

/-- What the hand-off of heater stage k + 1 makes of the zone's record, and what it leaves to be taken. -/
theorem Part.handHeatStage_hands (s : Part) {z : Nat} (k : Nat) (hz : z < 12) :
    (Part.handHeatStage z s k).zone z =
        { s.zone z with handed := Tab.put (s.zone z).handed k ((s.zone z).heatRequest k) } ∧
      (Part.handHeatStage z s k).due = s.due ++
        (if Tab.get (s.zone z).handed k = (s.zone z).heatRequest k then []
          else [.budget (.heat z (k + 1) ((s.zone z).heatRequest k))]) ∧
      s.Spares (Part.handHeatStage z s k) (· = z) := by
  unfold Part.handHeatStage
  dsimp only
  split
  · rename_i same
    rw [← same, Tab.put_get]
    exact ⟨rfl, (List.append_nil _).symm, .refl s _⟩
  · exact ⟨Part.zone_setZone _ _ _ hz, rfl, (Part.Spares.setZone s z _).trans (.hand _ _ _)⟩

/-- Of the requests of the first n heater stages in q each is that of the record formed, handed where it differs from the one
last handed in p (R131). -/
structure Part.StagesHanded (p q : Part) (z n : Nat) (handed : Vector StageRequest 3) : Prop where
  zone : q.zone z = { p.zone z with handed := handed }
  formed : ∀ k < 3, k < n → Tab.get handed k = (p.zone z).heatRequest k
  told : ∀ k < 3, k < n → Tab.get (p.zone z).handed k ≠ Tab.get handed k →
    Due.budget (.heat z (k + 1) (Tab.get handed k)) ∈ q.due
  kept : ∀ k, n ≤ k → Tab.get handed k = Tab.get (p.zone z).handed k
  spares : p.Spares q (· = z)

/-- One more stage handed, after those below it. -/
theorem Part.StagesHanded.next {p q : Part} {z n : Nat} {handed : Vector StageRequest 3} (below : p.StagesHanded q z n handed)
    (hz : z < 12) : ∃ handed, p.StagesHanded (Part.handHeatStage z q n) z (n + 1) handed := by
  obtain ⟨record, due, spares⟩ := q.handHeatStage_hands n hz
  have request : (q.zone z).heatRequest n = (p.zone z).heatRequest n := by
    rw [below.zone]
    rfl
  have before : (q.zone z).handed = handed := by rw [below.zone]
  rw [request, before] at record due
  refine ⟨Tab.put handed n ((p.zone z).heatRequest n), ?_, fun k small upTo => ?_, fun k small upTo moved => ?_,
    fun k beyond => ?_, below.spares.trans spares⟩
  · rw [record, below.zone]
  · by_cases last : k = n
    · rw [last, Tab.get_put_same _ _ _ (last ▸ small)]
    · rw [Tab.get_put_other _ _ _ _ (Ne.symm last)]
      exact below.formed k small (by omega)
  · rw [due]
    by_cases last : k = n
    · subst last
      rw [Tab.get_put_same _ _ _ small] at moved ⊢
      rw [← below.kept k (Nat.le_refl k)] at moved
      rw [if_neg moved]
      exact List.mem_append_right _ List.mem_cons_self
    · rw [Tab.get_put_other _ _ _ _ (Ne.symm last)] at moved ⊢
      exact List.mem_append_left _ (below.told k small (by omega) moved)
  · rw [Tab.get_put_other _ _ _ _ (by omega)]
    exact below.kept k (by omega)

theorem Part.handHeat_hands (s : Part) {z : Nat} (hz : z < 12) :
    ∃ handed, s.StagesHanded (s.handHeat z) z (s.lb.count .heat z) handed := by
  unfold Part.handHeat
  generalize s.lb.count .heat z = n
  induction n with
  | zero =>
    exact ⟨(s.zone z).handed, rfl, fun _ _ below => absurd below (Nat.not_lt_zero _),
      fun _ _ below => absurd below (Nat.not_lt_zero _), fun _ _ => rfl, .refl s _⟩
  | succ n ih =>
    obtain ⟨handed, below⟩ := ih
    rw [List.range_succ, Part.forEach, List.foldl_append]
    exact below.next hz

/-- The stage requests move the zones' records alone in the zone conditioner. -/
theorem Part.handHeat_conditioner (s : Part) (z : Nat) (zones : Vector Zone 12) :
    (s.handHeat z).zc.withZones zones = s.zc.withZones zones := by
  refine foldl_keeps (fun p : Part => p.zc.withZones zones) (Part.handHeatStage z) (fun p k => ?_) _ s
  unfold Part.handHeatStage
  dsimp only
  split <;> rfl

/-! ### The light (R134, R135) -/

theorem Part.computeLight_conditioner (s : Part) (z : Nat) (zones : Vector Zone 12) :
    (s.computeLight z).zc.withZones zones = s.zc.withZones zones := by
  unfold Part.computeLight
  dsimp only
  (repeat' split) <;> rfl

theorem Part.computeLight_spares (s : Part) (z : Nat) : s.Spares (s.computeLight z) (· = z) := by
  unfold Part.computeLight
  dsimp only
  split
  · exact .setZone s z _
  · split
    · exact .setZone s z _
    · exact (Part.Spares.setZone s z _).trans (.hand _ _ _)

/-- Some enabled station of the zone has its door OPEN, whatever the outputs (R134). -/
theorem Part.Spares.anyDoorOpen {p q : Part} {touched : Nat → Prop} (spares : p.Spares q touched) (z : Nat) :
    q.anyDoorOpen z = p.anyDoorOpen z := by
  unfold Part.anyDoorOpen
  rw [Tab.list_eq, Tab.list_eq, List.any_map, List.any_map]
  refine List.any_congr rfl fun k => ?_
  have same : (p.station (k + 1)).SameButOutputs (q.station (k + 1)) := spares.record (k + 1)
  change ((q.station (k + 1)).enabled && decide ((q.station (k + 1)).cfg.zone = z) && decide ((q.station (k + 1)).door = .opened))
    = ((p.station (k + 1)).enabled && decide ((p.station (k + 1)).cfg.zone = z) && decide ((p.station (k + 1)).door = .opened))
  rw [Station.SameButOutputs] at same
  rw [same]
  rfl

/-- The door quarters read no outputs (R105). -/
theorem Part.Spares.doorQuarters {p q : Part} {touched : Nat → Prop} (spares : p.Spares q touched) (z : Nat) :
    q.doorQuarters z = p.doorQuarters z := by
  rw [p.doorQuarters_eq, q.doorQuarters_eq]
  refine congrArg List.sum (List.map_congr_left fun k _ => ?_)
  have same := spares.record (k + 1)
  rw [Station.SameButOutputs] at same
  dsimp only
  rw [same]

end Sys2Proof.Machine
end

section
/-! SUPPORT. The curtains of an evaluation: the demand of each enabled station of the zone, its run-on, its heat request and its
commanded outputs (R140 to R145). -/

namespace Sys2Proof.Machine

/-! ### One demand set (R143, R145) -/

/-- The commanded outputs read the demand, the door and the loads alone (R144). -/
theorem Part.formedOutputs_congr {p q : Part} {a : Nat} (demand : (q.station a).demand = (p.station a).demand)
    (door : (q.station a).door = (p.station a).door) (lb : q.lb = p.lb) : q.formedOutputs a = p.formedOutputs a := by
  unfold Part.formedOutputs
  dsimp only
  rw [demand, door, lb]

/-- Outputs formed afresh are held in the station's record, whether they differ or not. -/
theorem Part.formOutputs_holds (s : Part) {a : Nat} (low : 1 ≤ a) (high : a ≤ 48) :
    ∃ flag, s.dl.Holds a { s.station a with commanded := s.formedOutputs a, pending := flag } (s.formOutputs a).dl := by
  by_cases same : s.formedOutputs a = (s.station a).commanded
  · have stays : s.formOutputs a = s := if_pos (.inr same)
    rw [stays, same]
    exact ⟨(s.station a).pending, rfl, fun _ _ _ => rfl, rfl⟩
  · have moves : s.formOutputs a = { s with
        dl := ((s.dl.setStation a { s.station a with commanded := s.formedOutputs a }).requestOutputs a).1 } :=
      if_neg fun stays => stays.elim (fun none => absurd (isAddress_of low high) (none ▸ Bool.false_ne_true)) same
    have takes : s.dl.Takes a { s.station a with commanded := s.formedOutputs a } (s.formOutputs a).dl :=
      .inr (congrArg Part.dl moves)
    obtain ⟨flag, holds⟩ := takes.holds low high
    exact ⟨flag, holds⟩

theorem Part.handCurtain_due (s : Part) (a : Nat) :
    (s.handCurtain a).due = s.due ++
      if s.lb.count .curtain a ≠ 0 ∧ s.curtainHanded a ≠ s.curtainRequest a then
        [.budget (.curtain a (s.curtainRequest a))] else [] := by
  unfold Part.handCurtain
  by_cases none : s.lb.count .curtain a = 0
  · simp [none]
  · by_cases same : s.curtainHanded a = s.curtainRequest a
    · simp [same]
    · simp [none, same, Part.hand, Part.owe, Part.setCurtainHanded]

theorem Part.setDemand_zones (s : Part) (a demand : Nat) (runOn : Option Nat) :
    (s.setDemand a demand runOn).zc.zones = s.zc.zones := by
  rw [Part.setDemand, (Part.formOutputs_keeps _ a).2.2.2.1, Part.handCurtain_zc]
  split <;> rfl

/-- The part with the demand and the run-on set, before the request is handed and the outputs are formed. -/
def Part.demanded (s : Part) (a demand : Nat) (runOn : Option Nat) : Part :=
  (s.setStation a { s.station a with demand := demand }).setRunOn a runOn

section
variable (s : Part) {a : Nat} (demand : Nat) (runOn : Option Nat) (low : 1 ≤ a) (high : a ≤ 48)

theorem Part.setDemand_eq : s.setDemand a demand runOn = ((s.demanded a demand runOn).handCurtain a).formOutputs a := rfl

include low high

theorem Part.demanded_station : (s.demanded a demand runOn).station a = { s.station a with demand := demand } :=
  s.station_setStation_same _ low high

theorem Part.demanded_request : (s.demanded a demand runOn).curtainRequest a = decide (demand = 2) := by
  rw [Part.curtainRequest, s.demanded_station demand runOn low high]

theorem Part.setDemand_zc :
    (s.setDemand a demand runOn).zc =
      { s.zc with
        runOns := Tab.put s.zc.runOns (a - 1) runOn
        curtainHanded :=
          if s.lb.count .curtain a = 0 then s.zc.curtainHanded
          else Tab.put s.zc.curtainHanded (a - 1) (decide (demand = 2)) } := by
  rw [Part.setDemand_eq, (Part.formOutputs_keeps _ a).2.2.2.1, Part.handCurtain_zc, s.demanded_request demand runOn low high,
    show (s.demanded a demand runOn).lb = s.lb from rfl]
  by_cases none : s.lb.count .curtain a = 0
  · rw [if_pos none, if_pos none]
    rfl
  · rw [if_neg none, if_neg none]
    rfl

theorem Part.setDemand_due :
    (s.setDemand a demand runOn).due = s.due ++
      if s.lb.count .curtain a ≠ 0 ∧ s.curtainHanded a ≠ decide (demand = 2) then
        [.budget (.curtain a (decide (demand = 2)))] else [] := by
  rw [Part.setDemand_eq, (Part.formOutputs_keeps _ a).2.2.2.2.2.2.2.1, Part.handCurtain_due,
    s.demanded_request demand runOn low high]
  rfl

theorem Part.setDemand_holds :
    ∃ flag, s.dl.Holds a
      { s.station a with
        demand := demand, commanded := (s.setDemand a demand runOn).formedOutputs a, pending := flag }
      (s.setDemand a demand runOn).dl := by
  let before := (s.demanded a demand runOn).handCurtain a
  have dl : before.dl = s.dl.setStation a { s.station a with demand := demand } :=
    (Part.handCurtain_keeps _ a).2.2.2.1
  have record : before.station a = { s.station a with demand := demand } :=
    (Part.station_of_dl (Part.handCurtain_keeps _ a).2.2.2.1 a).trans (s.demanded_station demand runOn low high)
  obtain ⟨flag, holds⟩ := before.formOutputs_holds low high
  have formed : (before.formOutputs a).formedOutputs a = before.formedOutputs a := by
    have after : (before.formOutputs a).station a = _ := holds.record
    exact Part.formedOutputs_congr (by rw [after]) (by rw [after]) (Part.formOutputs_keeps before a).2.2.2.2.2.1
  refine ⟨flag, ?_⟩
  rw [Part.setDemand_eq, formed]
  rw [dl, record] at holds
  exact holds.again low

/-- A demand set moves no other station. -/
theorem Part.setDemand_alone {b : Nat} (low' : 1 ≤ b) (other : b ≠ a) : StationKept s (s.setDemand a demand runOn) b := by
  have zc := s.setDemand_zc demand runOn low high
  obtain ⟨flag, holds⟩ := s.setDemand_holds demand runOn low high
  refine ⟨holds.others b low' other, ?_, ?_⟩
  · rw [Part.runOn, zc]
    exact Tab.get_put_other _ _ _ _ (by omega)
  · rw [Part.curtainHanded, zc]
    dsimp only
    split
    · rfl
    · exact Tab.get_put_other _ _ _ _ (by omega)

/-- A demand set touches the station's zone alone, and no zone's record. -/
theorem Part.setDemand_spares {touched : Nat → Prop} (own : touched (s.station a).cfg.zone) :
    s.Spares (s.setDemand a demand runOn) touched := by
  have zc := s.setDemand_zc demand runOn low high
  refine { cal := by simp, mu := by simp, lb := by simp, interval := by rw [zc], hold := by rw [zc],
           outputs := s.setDemand_moves a demand runOn, zones := fun y _ => ?_, due := ?_,
           stations := fun b low' _ spared =>
            s.setDemand_alone demand runOn low high low' fun same => spared (same ▸ own) }
  · rw [Part.zone, s.setDemand_zones]
    rfl
  · rw [s.setDemand_due demand runOn low high]
    exact ⟨_, rfl⟩

end

/-! ### One station (R140 to R142) -/

/-- The curtain demand of station a and its run-on are computed from p (R140 to R142); its outputs are formed of them (R145), and
its heat request is handed where the station has a CURTAIN load (R143). -/
structure Part.CurtainComputed (p q : Part) (a : Nat) : Prop where
  demand : ((q.station a).demand, q.runOn a) =
    curtainDemand (p.station a) (p.runOn a) p.curtainCold p.cal.running.header.runOn
  record : ∃ flag, q.station a =
    { p.station a with demand := (q.station a).demand, commanded := q.formedOutputs a, pending := flag }
  handed : p.lb.count .curtain a ≠ 0 →
    q.curtainHanded a = decide ((q.station a).demand = 2) ∧
      (p.curtainHanded a ≠ q.curtainHanded a → Due.budget (.curtain a (q.curtainHanded a)) ∈ q.due)

theorem Part.computeCurtain_computes (s : Part) {a : Nat} (low : 1 ≤ a) (high : a ≤ 48) :
    s.CurtainComputed (s.computeCurtain a) a := by
  unfold Part.computeCurtain
  dsimp only
  generalize computed : curtainDemand (s.station a) (s.runOn a) s.curtainCold s.cal.running.header.runOn = r
  obtain ⟨demand, runOn⟩ := r
  have zc := s.setDemand_zc demand runOn low high
  have due := s.setDemand_due demand runOn low high
  obtain ⟨flag, holds⟩ := s.setDemand_holds demand runOn low high
  have record : (s.setDemand a demand runOn).station a = _ := holds.record
  have demands : ((s.setDemand a demand runOn).station a).demand = demand := by rw [record]
  refine ⟨?_, ⟨flag, by rw [demands, record]⟩, fun some => ?_⟩
  · rw [computed, demands, Part.runOn, zc]
    exact congrArg _ (Tab.get_put_same _ _ _ (by omega))
  · have handed : (s.setDemand a demand runOn).curtainHanded a = decide (demand = 2) := by
      rw [Part.curtainHanded, zc]
      dsimp only
      rw [if_neg some]
      exact Tab.get_put_same _ _ _ (by omega)
    rw [handed, demands, due]
    exact ⟨rfl, fun moved => by simp [some, moved]⟩

/-- The demand of a curtain reads the station, its run-on and the outdoor channel alone. -/
theorem Part.Spares.curtainCold {p q : Part} {touched : Nat → Prop} (spares : p.Spares q touched) :
    q.curtainCold = p.curtainCold := by
  unfold Part.curtainCold Part.outdoorReading Part.channel
  rw [spares.cal, spares.mu]

theorem Part.Spares.formedOutputs {p q : Part} {touched : Nat → Prop} (spares : p.Spares q touched) {a : Nat}
    (kept : StationKept p q a) : q.formedOutputs a = p.formedOutputs a := by
  obtain ⟨station, -⟩ := kept
  exact Part.formedOutputs_congr (by rw [station]) (by rw [station]) spares.lb

/-- Work before that spares the station is no matter to what is computed of it. -/
theorem Part.CurtainComputed.before {p p' q : Part} {touched : Nat → Prop} {a : Nat} (computed : p'.CurtainComputed q a)
    (spares : p.Spares p' touched) (kept : StationKept p p' a) : p.CurtainComputed q a := by
  obtain ⟨demand, record, handed⟩ := computed
  obtain ⟨station, runOn, request⟩ := kept
  rw [station, runOn, spares.curtainCold, spares.cal] at demand
  rw [station] at record
  rw [spares.lb, request] at handed
  exact ⟨demand, record, handed⟩

/-- Work after that spares the station leaves what was computed of it. -/
theorem Part.CurtainComputed.after {p q q' : Part} {touched : Nat → Prop} {a : Nat} (computed : p.CurtainComputed q a)
    (spares : q.Spares q' touched) (kept : StationKept q q' a) : p.CurtainComputed q' a := by
  obtain ⟨demand, record, handed⟩ := computed
  have formed := spares.formedOutputs kept
  obtain ⟨station, runOn, request⟩ := kept
  rw [← station, ← runOn] at demand
  rw [← station, ← formed] at record
  rw [← station, ← request] at handed
  exact ⟨demand, record, fun some => ⟨(handed some).1, fun moved => spares.due.subset ((handed some).2 moved)⟩⟩

/-! ### The stations of a zone -/

theorem Part.mem_stationsOf {s : Part} {z a : Nat} :
    a ∈ s.stationsOf z ↔ (1 ≤ a ∧ a ≤ 48) ∧ (s.station a).state ≠ .disabled ∧ (s.station a).cfg.zone = z := by
  simp [Part.stationsOf, mem_addresses, Station.enabled]

/-- Stations of zone z computed one after another, each once. -/
theorem Part.computeCurtains_compute {z : Nat} (l : List Nat) (s : Part) (range : ∀ a ∈ l, 1 ≤ a ∧ a ≤ 48) (once : l.Nodup)
    (own : ∀ a ∈ l, (s.station a).cfg.zone = z) :
    let q := s.forEach l Part.computeCurtain
    (∀ a ∈ l, s.CurtainComputed q a) ∧ (∀ a, 1 ≤ a → a ≤ 48 → a ∉ l → StationKept s q a) ∧ s.Spares q (· = z) := by
  induction l generalizing s with
  | nil => exact ⟨fun _ member => absurd member List.not_mem_nil, fun _ _ _ _ => ⟨rfl, rfl, rfl⟩, .refl s _⟩
  | cons a rest ih =>
    obtain ⟨low, high⟩ := range a List.mem_cons_self
    obtain ⟨fresh, once⟩ := List.nodup_cons.1 once
    have here := s.computeCurtain_computes low high
    have spares : s.Spares (s.computeCurtain a) (· = z) := s.setDemand_spares _ _ low high (own a List.mem_cons_self)
    have alone (b : Nat) (low' : 1 ≤ b) (other : b ≠ a) : StationKept s (s.computeCurtain a) b :=
      s.setDemand_alone _ _ low high low' other
    obtain ⟨computed, kept, later⟩ := ih (s.computeCurtain a) (fun b member => range b (List.mem_cons_of_mem a member)) once
      fun b member => spares.serves b ▸ own b (List.mem_cons_of_mem a member)
    refine ⟨fun b member => ?_, fun b low' high' away => ?_, spares.trans later⟩
    · rcases List.mem_cons.1 member with rfl | member
      · exact here.after later (kept b low high fresh)
      · obtain ⟨low', high'⟩ := range b (List.mem_cons_of_mem a member)
        exact (computed b member).before spares (alone b low' fun same => fresh (same ▸ member))
    · simp only [List.mem_cons, not_or] at away
      exact StationKept.trans (alone b low' away.1) (kept b low' high' away.2)

/-! ### Curtain demands as the statements say them -/

section
variable {st : Station} {runOn : Option Nat} {cold : Bool} {seconds : Nat}

theorem curtainDemand_of_undocked (present : st.state = .present) (opened : st.door = .opened) (undocked : st.docked = false) :
    curtainDemand st runOn cold seconds = (if cold then 2 else 1, none) := by
  simp [curtainDemand, present, opened, undocked]

theorem curtainDemand_of_docked (present : st.state = .present) (opened : st.door = .opened) (docked : st.docked = true) :
    curtainDemand st runOn cold seconds = (0, none) := by
  simp [curtainDemand, present, opened, docked]

theorem curtainDemand_of_running (present : st.state = .present) (closed : st.door = .closed) (runs : runOn.isSome = true) :
    curtainDemand st runOn cold seconds = (1, runOn) := by
  simp [curtainDemand, present, closed, runs]

theorem curtainDemand_of_ended (present : st.state = .present) (closed : st.door = .closed) (ended : runOn = none)
    (idle : st.demand = 0 ∨ seconds = 0) : curtainDemand st runOn cold seconds = (0, none) := by
  rcases idle with idle | idle <;> simp [curtainDemand, present, closed, ended, idle]

theorem curtainDemand_of_closing (present : st.state = .present) (closed : st.door = .closed) (ended : runOn = none)
    (ran : st.demand ≠ 0) (some : seconds ≠ 0) : curtainDemand st runOn cold seconds = (1, Option.some seconds) := by
  simp [curtainDemand, present, closed, ended, ran, some]

theorem curtainDemand_of_unheard (unheard : st.state ≠ .present ∨ st.door = .unknown) :
    curtainDemand st runOn cold seconds = (st.demand, runOn) := by
  unfold curtainDemand
  split
  · simp_all
  · simp_all
  · rfl

end

theorem Part.curtainCold_iff (p : Part) :
    p.curtainCold = true ↔ (p.channel p.cal.running.header.outdoor).known = false ∨
      (p.channel p.cal.running.header.outdoor).value < p.cal.running.header.curtainThreshold := by
  unfold Part.curtainCold Part.outdoorReading
  cases known : (p.channel p.cal.running.header.outdoor).known <;> simp [known]

/-- What a zone's curtains follow, from its enabled stations computed and its DISABLED ones kept. -/
theorem CurtainsFollow.of_computed {p q : Part} {z : Nat}
    (enabled : ∀ a, 1 ≤ a → a ≤ 48 → (p.station a).cfg.zone = z → (p.station a).state ≠ .disabled → p.CurtainComputed q a)
    (disabled : ∀ a, 1 ≤ a → a ≤ 48 → (p.station a).state = .disabled → StationKept p q a) : CurtainsFollow p q z := by
  intro a low high zone st n
  by_cases off : st.state = .disabled
  · obtain ⟨station, runOn, -⟩ := disabled a low high off
    have absent : st.state ≠ .present := by simp [off]
    refine ⟨fun present => absurd present absent, fun present => absurd present absent, fun present => absurd present absent,
      fun present => absurd present absent, fun present => absurd present absent,
      fun _ => ⟨congrArg Station.demand station, runOn⟩, ⟨st.pending, ?_⟩, fun enabled => absurd off enabled⟩
    rw [show n = st from station]
  · obtain ⟨demand, ⟨flag, record⟩, handed⟩ := enabled a low high zone off
    have commanded : n.commanded = q.formedOutputs a := (congrArg Station.commanded record :)
    have gives {r : Nat × Option Nat}
        (is : curtainDemand (p.station a) (p.runOn a) p.curtainCold p.cal.running.header.runOn = r) :
        n.demand = r.1 ∧ q.runOn a = r.2 := Prod.mk.inj (demand.trans is)
    refine ⟨fun present opened undocked => ?_, fun present opened docked => gives (curtainDemand_of_docked present opened docked),
      fun present closed runs => gives (curtainDemand_of_running present closed runs),
      fun present closed ended idle => ?_, fun present closed ended ran some => ?_,
      fun unheard => gives (curtainDemand_of_unheard unheard), ⟨flag, ?_⟩, fun _ => ⟨commanded, handed⟩⟩
    · obtain ⟨demands, runOn⟩ := gives (curtainDemand_of_undocked present opened undocked)
      rw [demands, runOn, ← p.curtainCold_iff]
      cases p.curtainCold <;> simp
    · exact gives (curtainDemand_of_ended present closed ended idle)
    · exact gives (curtainDemand_of_closing present closed ended ran some)
    · rw [commanded]
      exact record

end Sys2Proof.Machine
end

section
/-! SUPPORT. The evaluation of a zone, step by step, and what it makes of the zone's record, of its stations and of the notices
(R118 to R131, R134, R140). -/

namespace Sys2Proof.Machine

/-! ### The steps of an evaluation -/

/-- The part after steps 1 to 5 of an evaluation of zone z: SENSOR_LOST posted, the heat computed. -/
def Part.heated (s : Part) (z : Nat) : Part :=
  (s.postLost z (s.zone z) (s.heatReading z)).setZone z ((s.zone z).heat (s.heatReading z))

/-- The part with the stage requests of zone z handed, and its light computed. -/
def Part.lit (s : Part) (z : Nat) : Part := ((s.heated z).handHeat z).computeLight z

/-- The part with the curtain demands of the enabled stations of zone z computed. -/
def Part.curtained (s : Part) (z : Nat) : Part := (s.lit z).forEach ((s.lit z).stationsOf z) Part.computeCurtain

theorem Part.evaluate_eq (s : Part) (z : Nat) :
    s.evaluate z = (s.curtained z).setZone z { (s.curtained z).zone z with timer := (s.curtained z).zc.interval } := by
  simp only [Part.evaluate, Part.curtained, Part.lit, Part.heated]

/-- The timer restarted, last, moves no station and no other zone. -/
theorem Part.evaluate_restarts (s : Part) (z : Nat) :
    (s.curtained z).Spares (s.evaluate z) (· = z) ∧ ∀ a, StationKept (s.curtained z) (s.evaluate z) a := by
  rw [s.evaluate_eq]
  generalize s.curtained z = p
  exact ⟨.setZone p z _, StationKept.of_eq rfl p.zc.zones rfl⟩

theorem Part.heated_spares (s : Part) (z : Nat) : s.Spares (s.heated z) (· = z) := by
  have posted : s.Spares (s.postLost z (s.zone z) (s.heatReading z)) (· = z) :=
    .of_eq (by simp) (by simp) (by simp) (by simp) (by simp) (by simp)
  exact posted.trans (.setZone _ z _)

theorem Part.lit_spares (s : Part) {z : Nat} (hz : z < 12) : s.Spares (s.lit z) (· = z) := by
  obtain ⟨handed, stages⟩ := (s.heated z).handHeat_hands hz
  exact ((s.heated_spares z).trans stages.spares).trans (Part.computeLight_spares _ z)

/-- Before the curtains an evaluation moves no station. -/
theorem Part.lit_kept (s : Part) (z a : Nat) : StationKept s (s.lit z) a := by
  refine StationKept.of_eq (by simp [Part.lit, Part.heated]) s.zc.zones ?_ a
  rw [Part.lit, Part.computeLight_conditioner, Part.handHeat_conditioner, Part.heated, Part.setZone_withZones]
  simp

theorem Part.curtained_computes (s : Part) {z : Nat} (hz : z < 12) :
    (∀ a, 1 ≤ a → a ≤ 48 → (s.station a).cfg.zone = z → (s.station a).state ≠ .disabled →
      s.CurtainComputed (s.curtained z) a) ∧
    (∀ a, 1 ≤ a → a ≤ 48 → (s.station a).state = .disabled → StationKept s (s.curtained z) a) ∧
    (s.lit z).Spares (s.curtained z) (· = z) := by
  obtain ⟨computed, kept, spares⟩ := Part.computeCurtains_compute ((s.lit z).stationsOf z) (s.lit z)
    (fun a member => (Part.mem_stationsOf.1 member).1) (addresses_nodup.filter _)
    fun a member => (Part.mem_stationsOf.1 member).2.2
  have same (a : Nat) : (s.lit z).station a = s.station a := (s.lit_kept z a).1
  refine ⟨fun a low high own enabled => ?_, fun a low high disabled => ?_, spares⟩
  · have member : a ∈ (s.lit z).stationsOf z := Part.mem_stationsOf.2 ⟨⟨low, high⟩, by rwa [same], by rwa [same]⟩
    exact (computed a member).before (s.lit_spares hz) (s.lit_kept z a)
  · have away : a ∉ (s.lit z).stationsOf z := fun member => (Part.mem_stationsOf.1 member).2.1 (by rwa [same])
    exact StationKept.trans (s.lit_kept z a) (kept a low high away)

theorem Part.curtained_zone (s : Part) (z y : Nat) : (s.curtained z).zone y = (s.lit z).zone y := by
  unfold Part.curtained Part.forEach
  generalize (s.lit z).stationsOf z = l
  generalize s.lit z = p
  have zones : (l.foldl Part.computeCurtain p).zc.zones = p.zc.zones :=
    foldl_keeps (fun p : Part => p.zc.zones) Part.computeCurtain (fun p a => p.setDemand_zones a _ _) l p
  rw [Part.zone, zones, Part.zone]

theorem Part.evaluate_spares (s : Part) {z : Nat} (hz : z < 12) : s.Spares (s.evaluate z) (· = z) := by
  obtain ⟨-, -, curtains⟩ := s.curtained_computes hz
  exact ((s.lit_spares hz).trans curtains).trans (s.evaluate_restarts z).1

/-! ### The zone's record -/

/-- What an evaluation makes of the zone's record: the heat, with the stage requests handed, the light and the timer. -/
theorem Part.evaluate_zone (s : Part) {z : Nat} (hz : z < 12) :
    ∃ handed lr source direct light,
      (s.evaluate z).zone z =
        { (s.zone z).heat (s.heatReading z) with
          handed := handed, lr := lr, lightSource := source, direct := direct, handedLight := light
          timer := s.zc.interval } ∧
      (∀ k < 3, k < s.lb.count .heat z →
        Tab.get handed k = ((s.zone z).heat (s.heatReading z)).heatRequest k ∧
          (Tab.get (s.zone z).handed k ≠ Tab.get handed k →
            Due.budget (.heat z (k + 1) (Tab.get handed k)) ∈ (s.evaluate z).due)) ∧
      (∀ k, s.lb.count .heat z ≤ k → Tab.get handed k = Tab.get (s.zone z).handed k) := by
  obtain ⟨handed, stages⟩ := (s.heated z).handHeat_hands hz
  obtain ⟨direct, light, lit, -⟩ := ((s.heated z).handHeat z).computeLight_zone hz
  obtain ⟨-, -, curtains⟩ := s.curtained_computes hz
  have later : ((s.heated z).handHeat z).Spares (s.evaluate z) (· = z) :=
    ((Part.computeLight_spares _ z).trans curtains).trans (s.evaluate_restarts z).1
  have interval : (s.curtained z).zc.interval = s.zc.interval := curtains.interval.trans (s.lit_spares hz).interval
  have heated : (s.heated z).zone z = (s.zone z).heat (s.heatReading z) := Part.zone_setZone _ _ _ hz
  have count : (s.heated z).lb.count .heat z = s.lb.count .heat z := by rw [(s.heated_spares z).lb]
  have before : ((s.zone z).heat (s.heatReading z)).handed = (s.zone z).handed := by simp
  obtain ⟨record, formed, told, kept, -⟩ := stages
  rw [heated] at record formed told kept
  rw [count] at formed told kept
  rw [before] at told kept
  generalize ((s.heated z).handHeat z).lightOf z = level at lit
  refine ⟨handed, level.2, level.1, direct, light, ?_, fun k small below => ⟨formed k small below, fun moved => ?_⟩, kept⟩
  · rw [s.evaluate_eq, Part.zone_setZone _ _ _ hz, s.curtained_zone, interval]
    change { ((s.heated z).handHeat z).computeLight z |>.zone z with timer := s.zc.interval } = _
    rw [lit, record]
  · exact later.due.subset (told k small below moved)

theorem Part.evaluate_heat (s : Part) {z : Nat} (hz : z < 12) : HeatFollows s (s.evaluate z) z := by
  obtain ⟨handed, lr, source, direct, light, record, stages, kept⟩ := s.evaluate_zone hz
  obtain ⟨cfg, guard, presence, lightGuard, -, -, evaluated, mode, tz, -, g, gFan⟩ := (s.zone z).heat_keeps (s.heatReading z)
  have choice {chosen : HeatMode × Option Int} (is : chooseHeat (s.channel (s.zone z).cfg.channel) s.zc.hold = chosen) :
      ((s.zone z).heat (s.heatReading z)).mode = chosen.1 ∧ ((s.zone z).heat (s.heatReading z)).tz = chosen.2 :=
    ⟨mode.trans (congrArg Prod.fst is), tz.trans (congrArg Prod.snd is)⟩
  unfold HeatFollows
  rw [record]
  refine ⟨cfg, guard, presence, lightGuard, evaluated, rfl, g, gFan, fun valid => choice (chooseHeat_of_valid valid),
    fun a doubtful age young => choice (chooseHeat_of_young doubtful age young), fun old => choice (chooseHeat_of_old old),
    fun t found => (s.zone z).heat_terms _ (tz.symm.trans found), fun none => (s.zone z).heat_noTerms _ (tz.symm.trans none),
    fun stands => (s.zone z).heat_of_guard _ stands,
    fun clear lost => (s.zone z).heat_of_lost _ clear (mode.symm.trans lost), fun clear found => ?_, stages,
    fun k _ beyond => kept k beyond⟩
  obtain ⟨p, low, high, i, iterm, d, n⟩ := (s.zone z).heat_of_arithmetic _ clear fun lost => found (mode.trans lost)
  dsimp only at p low high i iterm d n ⊢
  refine ⟨p, fun gain => p ▸ proportional_bounds ⟨low, high⟩ gain, fun up short => i.trans (integrate_of_held up short),
    fun free => i ▸ integrate_of_free free, fun gain top within => ?_, iterm, d ▸ heatDemand_eq _ _, n ▸ gradeHeat_eq _ _ _ _⟩
  rw [iterm]
  exact integralTerm_le gain (i ▸ integrate_le _ _ _ within top)

/-! ### Light and curtains -/

/-- What a zone's light follows reads of the part before only the calendar, the doors, the loads and the request last handed, and
of an evaluated zone's record after not the timer. -/
theorem LightFollows.of_evaluated {p p' q q' : Part} {z : Nat} {present : Bool} {timer : Nat}
    (follows : LightFollows p' q z present) (evaluated : (q.zone z).evaluated = true) (cal : p'.cal = p.cal)
    (lb : p'.lb = p.lb) (doors : p'.anyDoorOpen z = p.anyDoorOpen z)
    (handed : (p'.zone z).handedLight = (p.zone z).handedLight) (record : q'.zone z = { q.zone z with timer := timer })
    (due : q.due ⊆ q'.due) : LightFollows p q' z present := by
  unfold LightFollows Part.calZone at *
  rw [cal, lb, doors, handed] at follows
  rw [record]
  obtain ⟨override, largest, drives, owned, hands, -⟩ := follows
  exact ⟨override, largest, drives, owned,
    fun some first => ⟨(hands some first).1, fun moved => due ((hands some first).2 moved)⟩,
    fun fresh => absurd evaluated (fresh ▸ Bool.false_ne_true)⟩

theorem Part.evaluate_light (s : Part) {z : Nat} (hz : z < 12) :
    LightFollows s (s.evaluate z) z (s.zone z).presence.isSome := by
  obtain ⟨handed, stages⟩ := (s.heated z).handHeat_hands hz
  obtain ⟨direct, light, lit, -⟩ := ((s.heated z).handHeat z).computeLight_zone hz
  have follows := ((s.heated z).handHeat z).computeLight_follows hz
  obtain ⟨-, -, curtains⟩ := s.curtained_computes hz
  have before : s.Spares ((s.heated z).handHeat z) (· = z) := (s.heated_spares z).trans stages.spares
  have heated : (s.heated z).zone z = (s.zone z).heat (s.heatReading z) := Part.zone_setZone _ _ _ hz
  have record := stages.zone
  rw [heated] at record
  rw [record, show ((s.zone z).heat (s.heatReading z)).presence = (s.zone z).presence by simp] at follows
  refine LightFollows.of_evaluated (timer := (s.curtained z).zc.interval) follows ?_ before.cal before.lb
    (before.anyDoorOpen z) (by simp [record]) ?_ (curtains.trans (s.evaluate_restarts z).1).due.subset
  · rw [lit, record]
    simp
  · rw [s.evaluate_eq, Part.zone_setZone _ _ _ hz, s.curtained_zone]
    rfl

theorem Part.evaluate_curtains (s : Part) {z : Nat} (hz : z < 12) : CurtainsFollow s (s.evaluate z) z := by
  obtain ⟨enabled, disabled, -⟩ := s.curtained_computes hz
  obtain ⟨spares, kept⟩ := s.evaluate_restarts z
  exact CurtainsFollow.of_computed (fun a low high own on => (enabled a low high own on).after spares (kept a))
    fun a low high off => StationKept.trans (disabled a low high off) (kept a)

theorem Part.evaluate_evaluates (s : Part) {z : Nat} (hz : z < 12) : ZoneEvaluated s (s.evaluate z) z :=
  ⟨s.evaluate_heat hz, s.evaluate_light hz, s.evaluate_curtains hz⟩

/-! ### The notice (R120) -/

/-- An evaluation posts SENSOR_LOST where it enters LOST, and nothing else. -/
theorem Part.evaluate_posts (s : Part) {z : Nat} (hz : z < 12) : Posts (lostTold s (s.evaluate z) z) s (s.evaluate z) := by
  obtain ⟨handed, lr, source, direct, light, record, -⟩ := s.evaluate_zone hz
  have enters : (s.zone z).entersLost (s.heatReading z) = true ↔
      (s.heatReading z).mode = .lost ∧ ((s.zone z).mode ≠ .lost ∨ (s.zone z).evaluated = false) := by
    simp [Zone.entersLost, or_comm]
  have tells : lostTold s (s.evaluate z) z = told ((s.zone z).entersLost (s.heatReading z) = true) .sensorLost z
      (u8 (s.zone z).cfg.channel ++ u8 (s.channel (s.zone z).cfg.channel).validity.code ++ u8 (s.zone z).mode.code ++
        u8 (min (s.zone z).cfg.fallback (s.lb.count .heat z))) := by
    unfold lostTold told
    simp only [record, enters, Zone.heat_keeps, Part.evaluate_keeps]
  have link : (s.evaluate z).link = (s.postLost z (s.zone z) (s.heatReading z)).link := by simp [Part.evaluate]
  rw [tells]
  exact .of_unsent (q := s.postLost z (s.zone z) (s.heatReading z)) (congrArg Link.unsent link) (by simp)
    (Posts.of_told _ s .sensorLost z _)

/-- An evaluation moves the zone conditioner and the door line, posts and hands on. -/
theorem ChangesOnly.evaluate (s : Part) (z : Nat) :
    ChangesOnly [.doorLine, .conditioner, .notices, .handed] s (s.evaluate z) := by
  obtain ⟨clock, cal, mu, air, lb, running, still, -⟩ := s.evaluate_keeps z
  exact .of_doorWork clock cal mu air lb running still

end Sys2Proof.Machine
end

section
/-! SUPPORT. Evaluations of several zones, one after another: what is said of one stands through the evaluations of the others,
and through what is taken, handed or answered beside them. -/

namespace Sys2Proof.Machine

section
variable {p p' q q' : Part} {touched : Nat → Prop} {z : Nat} {due : List Due}

/-! ### What is read before -/

theorem HeatFollows.before (follows : HeatFollows p' q z) (spares : p.Spares p' touched) (spared : ¬ touched z) :
    HeatFollows p q z := by
  unfold HeatFollows Part.channel Part.calZone at *
  rw [spares.zones z spared, spares.mu, spares.lb, spares.cal, spares.interval, spares.hold, spares.doorQuarters] at follows
  exact follows

theorem CurtainsFollow.before (follows : CurtainsFollow p' q z) (spares : p.Spares p' touched) (spared : ¬ touched z) :
    CurtainsFollow p q z := by
  intro a low high own
  obtain ⟨station, runOn, handed⟩ := spares.stations a low high (own ▸ spared)
  have said := follows a low high ((congrArg StationConfig.zone (spares.serves a)).trans own)
  unfold Part.channel at said
  rw [station, runOn, handed, spares.cal, spares.mu, spares.lb] at said
  exact said

/-- The configuration and the guard that an evaluation keeps, its mark, and its timer restarted. -/
theorem HeatFollows.record (follows : HeatFollows p q z) :
    (q.zone z).cfg = (p.zone z).cfg ∧ (q.zone z).guard = (p.zone z).guard ∧ (q.zone z).evaluated = true ∧
      (q.zone z).timer = p.zc.interval := by
  obtain ⟨cfg, guard, -, -, evaluated, timer, -⟩ := follows
  exact ⟨cfg, guard, evaluated, timer⟩

theorem HeatFollows.evaluated (follows : HeatFollows p q z) : (q.zone z).evaluated = true :=
  (HeatFollows.record follows).2.2.1

/-- Work before that spares the zone is no matter to its evaluation. -/
theorem ZoneEvaluated.before (evaluated : ZoneEvaluated p' q z) (spares : p.Spares p' touched) (spared : ¬ touched z) :
    ZoneEvaluated p q z := by
  obtain ⟨heat, light, curtains⟩ := evaluated
  have zone := spares.zones z spared
  rw [zone] at light
  exact ⟨HeatFollows.before heat spares spared,
    LightFollows.of_evaluated (timer := (q.zone z).timer) light (HeatFollows.evaluated heat) spares.cal spares.lb
      (spares.anyDoorOpen z) (by rw [zone]) rfl (List.Subset.refl _),
    CurtainsFollow.before curtains spares spared⟩

/-- The events due before an evaluation are no matter to it. -/
theorem ZoneEvaluated.of_due (evaluated : ZoneEvaluated { p with due := due } q z) : ZoneEvaluated p q z := by
  obtain ⟨heat, light, curtains⟩ := evaluated
  exact ⟨heat, LightFollows.of_evaluated (timer := (q.zone z).timer) light (HeatFollows.evaluated heat) rfl rfl rfl rfl rfl
    (List.Subset.refl _), curtains⟩

/-! ### What stands after -/

theorem HeatFollows.after (follows : HeatFollows p q z) (spares : q.Spares q' touched) (spared : ¬ touched z) :
    HeatFollows p q' z := by
  unfold HeatFollows at *
  rw [spares.zones z spared]
  obtain ⟨cfg, guard, presence, lightGuard, evaluated, timer, g, gFan, normal, holding, lost, terms, noTerms, guarded,
    fallback, arithmetic, stages, beyond⟩ := follows
  exact ⟨cfg, guard, presence, lightGuard, evaluated, timer, g, gFan, normal, holding, lost, terms, noTerms, guarded,
    fallback, arithmetic, fun k small below =>
      ⟨(stages k small below).1, fun moved => spares.due.subset ((stages k small below).2 moved)⟩, beyond⟩

theorem CurtainsFollow.after (follows : CurtainsFollow p q z) (spares : q.Spares q' touched) (spared : ¬ touched z) :
    CurtainsFollow p q' z := by
  intro a low high own
  have said := follows a low high own
  dsimp only at said ⊢
  obtain ⟨undocked, docked, running, ended, closing, unheard, ⟨flag, record⟩, enabled⟩ := said
  have serves : (q.station a).cfg.zone = z := by
    rw [record]
    exact own
  have kept := spares.stations a low high (serves ▸ spared)
  rw [spares.formedOutputs kept]
  obtain ⟨station, runOn, handed⟩ := kept
  rw [station, runOn, handed]
  exact ⟨undocked, docked, running, ended, closing, unheard, ⟨flag, record⟩, fun on => ⟨(enabled on).1, fun some =>
    ⟨((enabled on).2 some).1, fun moved => spares.due.subset (((enabled on).2 some).2 moved)⟩⟩⟩

/-- Work after that spares the zone leaves its evaluation. -/
theorem ZoneEvaluated.after (evaluated : ZoneEvaluated p q z) (spares : q.Spares q' touched) (spared : ¬ touched z) :
    ZoneEvaluated p q' z := by
  obtain ⟨heat, light, curtains⟩ := evaluated
  exact ⟨HeatFollows.after heat spares spared,
    LightFollows.of_evaluated (timer := (q.zone z).timer) light (HeatFollows.evaluated heat) rfl rfl rfl rfl
      (by rw [spares.zones z spared]) spares.due.subset,
    CurtainsFollow.after curtains spares spared⟩

/-! ### The notice of a zone -/

/-- SENSOR_LOST reads of the zone before its mode and whether it was evaluated, and after the record and its stages. -/
theorem lostTold_congr (mode : (p'.zone z).mode = (p.zone z).mode) (evaluated : (p'.zone z).evaluated = (p.zone z).evaluated)
    (mu : p'.mu = p.mu) (zone : q'.zone z = q.zone z) (lb : q'.lb = q.lb) : lostTold p' q' z = lostTold p q z := by
  unfold lostTold Part.channel
  dsimp only
  rw [mode, evaluated, mu, zone, lb]

end

/-! ### The freeze guard (R127) -/

theorem Part.setZone_self (s : Part) (z : Nat) : s.setZone z (s.zone z) = s := by
  rw [Part.setZone, Part.zone, Tab.put_get]

/-- A freeze guard set: but for what is handed, the record with the guard stored. -/
theorem Part.setFreezeGuard_stores (s : Part) (z : Nat) (stands : Bool) :
    (s.setZone z { s.zone z with guard := stands }).Spares (s.setFreezeGuard z stands) (fun _ => False) ∧
      ((s.zone z).guard ≠ stands → Due.budget (.freezeGuard z stands) ∈ (s.setFreezeGuard z stands).due) := by
  unfold Part.setFreezeGuard
  split
  · rename_i same
    rw [← same, s.setZone_self]
    exact ⟨.refl s _, fun moved => absurd rfl moved⟩
  · exact ⟨.hand _ _ _, fun _ => List.mem_append_right _ List.mem_cons_self⟩

/-- From p to q the zones that l lists have taken a guard and been evaluated, and no other zone has been touched. -/
structure Part.EdgeTaken (l : List Nat) (alarm : Bool) (p q : Part) : Prop where
  evaluated : ∀ z ∈ l, ZoneEvaluated (p.setZone z { p.zone z with guard := alarm }) q z
  told : ∀ z ∈ l, (p.zone z).guard ≠ alarm → Due.budget (.freezeGuard z alarm) ∈ q.due
  spares : p.Spares q (· ∈ l)
  posts : Posts (l.flatMap (lostTold p q)) p q

/-- One zone takes its guard and is evaluated. -/
theorem Part.EdgeTaken.one (s : Part) {z : Nat} (alarm : Bool) (hz : z < 12) :
    EdgeTaken [z] alarm s ((s.setFreezeGuard z alarm).evaluate z) := by
  obtain ⟨stored, told⟩ := s.setFreezeGuard_stores z alarm
  have spares := (s.setFreezeGuard z alarm).evaluate_spares hz
  have sets : s.Spares (s.setFreezeGuard z alarm) (· = z) :=
    (Part.Spares.setZone s z _).trans (stored.mono fun _ none => none.elim)
  have record : (s.setFreezeGuard z alarm).zone z = { s.zone z with guard := alarm } :=
    (stored.zones z not_false).trans (s.zone_setZone z _ hz)
  refine ⟨fun y member => ?_, fun y member moved => ?_, (sets.trans spares).mono fun y same => List.mem_singleton.2 same, ?_⟩
  · rw [List.mem_singleton.1 member]
    exact ZoneEvaluated.before ((s.setFreezeGuard z alarm).evaluate_evaluates hz) stored not_false
  · obtain rfl := List.mem_singleton.1 member
    exact spares.due.subset (told moved)
  · have posts := (s.setFreezeGuard z alarm).evaluate_posts hz
    rw [lostTold_congr (p := s) (by rw [record]) (by rw [record]) sets.mu rfl rfl] at posts
    rw [List.flatMap_singleton]
    exact posts.of_link (by simp)

/-- Zones that take their guards, one after another. -/
theorem Part.EdgeTaken.cons {z : Nat} {rest : List Nat} {alarm : Bool} {p q r : Part} (first : EdgeTaken [z] alarm p q)
    (later : EdgeTaken rest alarm q r) (fresh : z ∉ rest) (within : ∀ y ∈ rest, y < 12)
    (still : q.link.still = p.link.still) (clock : r.clock = q.clock) : EdgeTaken (z :: rest) alarm p r := by
  have apart {y : Nat} (member : y ∈ rest) : y ∉ [z] := fun same => fresh (List.mem_singleton.1 same ▸ member)
  refine ⟨fun y member => ?_, fun y member moved => ?_, ?_, ?_⟩
  · rcases List.mem_cons.1 member with rfl | member
    · exact ZoneEvaluated.after (first.evaluated y (List.mem_singleton.2 rfl)) later.spares fresh
    · have evaluated := later.evaluated y member
      rw [first.spares.zones y (apart member)] at evaluated
      exact ZoneEvaluated.before evaluated (first.spares.setZone_both _ (within y member)) (apart member)
  · rcases List.mem_cons.1 member with rfl | member
    · exact later.spares.due.subset (first.told y (List.mem_singleton.2 rfl) moved)
    · exact later.told y member (by rwa [first.spares.zones y (apart member)])
  · exact (first.spares.mono fun y same => List.mem_cons.2 (.inl (List.mem_singleton.1 same))).trans
      (later.spares.mono fun y member => List.mem_cons_of_mem z member)
  · have here : lostTold p r z = lostTold p q z := lostTold_congr rfl rfl rfl (later.spares.zones z fresh) later.spares.lb
    have there : rest.flatMap (lostTold p r) = rest.flatMap (lostTold q r) := List.flatMap_congr fun y member => by
      have zone := first.spares.zones y (apart member)
      exact lostTold_congr (by rw [zone]) (by rw [zone]) first.spares.mu.symm rfl rfl
    rw [List.flatMap_cons, here, there]
    have posts := first.posts
    rw [List.flatMap_singleton] at posts
    exact posts.append later.posts (Link.mask_of_still still) clock.symm (Link.transmitter_of_still still)

theorem Part.EdgeTaken.forEach (alarm : Bool) (l : List Nat) (s : Part) (within : ∀ z ∈ l, z < 12) (once : l.Nodup) :
    EdgeTaken l alarm s (s.forEach l fun s z => (s.setFreezeGuard z alarm).evaluate z) := by
  induction l generalizing s with
  | nil =>
    exact ⟨fun _ member => absurd member List.not_mem_nil, fun _ member => absurd member List.not_mem_nil, .refl s _,
      .nothing rfl⟩
  | cons z rest ih =>
    obtain ⟨fresh, once⟩ := List.nodup_cons.1 once
    have rest' : ∀ y ∈ rest, y < 12 := fun y member => within y (List.mem_cons_of_mem z member)
    have first := EdgeTaken.one s alarm (within z List.mem_cons_self)
    have still : ((s.setFreezeGuard z alarm).evaluate z).link.still = s.link.still := by simp
    rw [Part.forEach, List.foldl_cons]
    generalize (s.setFreezeGuard z alarm).evaluate z = t at first still ⊢
    exact first.cons (ih t rest' once) fresh rest' still (Part.foldl_clock _ (fun s z => by simp) rest t)

end Sys2Proof.Machine
end

section
/-! SUPPORT. The evaluation of one zone as an event (R117, R118), and the edge of a freeze guard (R127). Settles O46. -/

namespace Sys2Proof.Machine

/-! ### Events due -/

/-- An event taken leaves the part but for the events due. -/
theorem Part.settleDue_eq (s : Part) (p : Due → Bool) : ∃ due, s.settleDue p = { s with due := due } := by
  unfold Part.settleDue
  split
  · exact ⟨_, rfl⟩
  · exact ⟨s.due, rfl⟩

section
variable {p q : Part} {z : Nat} {due : List Due}

/-- Heat follows of the part before whatever was due, to the end of the event. -/
theorem HeatFollows.closed (follows : HeatFollows { p with due := due } q z) : HeatFollows p q.close z := follows

theorem ZoneEvaluated.closed (evaluated : ZoneEvaluated p q z) : ZoneEvaluated p q.close z := evaluated

/-- What is posted is told by the records before, whatever was due. -/
theorem Posts.settled {ws : List Posting} (posts : Posts ws { p with due := due } q) : Posts ws p q.close :=
  (posts.of_link rfl).closed

/-- Work of the door line controller and the zone conditioner after an event was taken. -/
theorem ChangesOnly.settled (moved : ChangesOnly [.doorLine, .conditioner, .notices, .handed] { p with due := due } q) :
    ChangesOnly [.conditioner, .doorLine, .notices, .handed] p q.close :=
  (((ChangesOnly.of_due p due).trans moved).closed).mono (by decide)

end

/-! ### One evaluation -/

/-- An event that evaluates zone z, whatever it takes from the events due. -/
theorem Ends.of_evaluation {c : Instr} {s : State} {f : Part → Part} {z : Nat} {due : List Due} (acts : exec c s = s.act f)
    (runs : s.part.running = true) (hz : z < 12) (work : f s.part = Part.evaluate { s.part with due := due } z) :
    Ends c s fun q =>
      HeatFollows s.part q z ∧ (∀ y < 12, y ≠ z → q.zone y = s.part.zone y) ∧
        Posts (lostTold s.part q z) s.part q ∧ ChangesOnly [.conditioner, .doorLine, .notices, .handed] s.part q := by
  have heat := Part.evaluate_heat { s.part with due := due } hz
  have posts := Part.evaluate_posts { s.part with due := due } hz
  have moved := ChangesOnly.evaluate { s.part with due := due } z
  have zones := (Part.evaluate_spares { s.part with due := due } hz).zones
  refine .of_act acts runs ?_
  rw [work]
  generalize Part.evaluate { s.part with due := due } z = q at heat posts moved zones ⊢
  exact ⟨HeatFollows.closed heat, fun y _ other => zones y other, posts.settled, moved.settled⟩

/-- Settles O46: the figures that an evaluation reads, and what it makes of the zone whatever event asks for it
(`Ends.of_evaluation`). -/
theorem anEvaluationFollowsTheHeatArithmetic : Obligations.AnEvaluationFollowsTheHeatArithmetic := by
  refine ⟨Part.doorQuarters_eq, fun lb kind owner => ⟨rfl, lb.grantedCount_eq kind owner⟩, fun s z c form runs hz => ?_⟩
  rcases form with rfl | ⟨rfl, -⟩
  · exact .of_evaluation (due := s.part.due) (exec_evaluationTimerExpiry z s) runs hz (if_pos hz)
  · obtain ⟨due, settled⟩ := s.part.settleDue_eq fun d => decide (d = .evaluate z)
    exact .of_evaluation (due := due) (exec_zoneEvaluation z s) runs hz (by rw [if_pos hz, settled])

/-! ### The edge of a freeze guard (R127) -/

/-- The zones that read a channel. -/
theorem Part.readers_eq (p : Part) (c : Nat) :
    (Tab.where p.zc.zones fun _ z => decide (z.cfg.channel = c)) =
      (List.range 12).filter fun z => decide ((p.zone z).cfg.channel = c) := rfl

theorem Part.takeFreezeEdge_takes (s : Part) (c : Nat) (alarm : Bool) :
    EdgeTaken ((List.range 12).filter fun z => decide ((s.zone z).cfg.channel = c)) alarm s (s.takeFreezeEdge c alarm) := by
  rw [Part.takeFreezeEdge, s.readers_eq]
  exact .forEach alarm _ s (fun z member => List.mem_range.1 (List.mem_filter.1 member).1) (List.nodup_range.filter _)

theorem ChangesOnly.takeFreezeEdge (s : Part) (c : Nat) (alarm : Bool) :
    ChangesOnly [.doorLine, .conditioner, .notices, .handed] s (s.takeFreezeEdge c alarm) := by
  obtain ⟨clock, cal, mu, air, lb, running, still, -⟩ := s.takeFreezeEdge_keeps c alarm
  exact .of_doorWork clock cal mu air lb running still

end Sys2Proof.Machine
end

section
/-! SUPPORT. A zone's configuration written: its fields, the freeze guard and the group demands of what changes, and its
evaluation (R113, R114). Settles O45. -/

namespace Sys2Proof.Machine

/-! ### The operands (R113) -/

/-- The configuration that ZONE_WRITE ONE stores: its fields clamped. -/
def writtenConfig (f : ZoneFields) : ZoneConfig :=
  { channel := f.channel.toNat, group := f.group.toNat, kd := min 100 f.kd.toNat, kv := min 100 f.kv.toNat
    kp := f.kp.toNat, ki := f.ki.toNat, imax := min 30000 f.imax.toNat, hyst := min 200 f.hyst.toNat
    fallback := min 3 f.fallback.toNat, floor := min 100 f.floor.toNat
    dim := if f.dim = 0xFF then none else some f.dim.toNat }

/-- The field of ZONE_WRITE ONE first cut. -/
def writtenCut (f : ZoneFields) : Byte :=
  firstCut [(5, decide (100 < f.kd.toNat)), (6, decide (100 < f.kv.toNat)), (9, decide (30000 < f.imax.toNat)),
    (10, decide (200 < f.hyst.toNat)), (11, decide (3 < f.fallback.toNat)), (12, decide (100 < f.floor.toNat))]

/-- The checks of ZONE_WRITE ONE, in order. -/
def zoneChecks (zone : Byte) (f : ZoneFields) : List (Bool × Code × Nat) :=
  [(decide (11 < zone.toNat), .index, 2), (decide (19 < f.channel.toNat), .index, 3), (decide (5 < f.group.toNat), .index, 4),
    (decide (11 < f.dim.toNat) && decide (f.dim ≠ 0xFF), .index, 13)]

theorem zoneOperands_eq (zone : Byte) (f : ZoneFields) : zoneOperands zone f =
    checks (zoneChecks zone f) (writtenConfig f) (writtenCut f) := by
  simp only [zoneOperands, zoneChecks, writtenConfig, writtenCut, clampN_zero, outside_zero]

section
variable (p : Part) (saves : p.link.saving = none) {zone : Byte} {f : ZoneFields}
include saves

theorem Part.doZoneWriteOne_done (index : zone.toNat ≤ 11) (channel : f.channel.toNat ≤ 19) (group : f.group.toNat ≤ 5)
    (dim : f.dim.toNat ≤ 11 ∨ f.dim = 0xFF) :
    Part.doZoneWriteOne zone f p = ((p.writeZone zone.toNat (writtenConfig f)).markUnsaved, .done (writtenCut f) []) := by
  have bound : (decide (11 < f.dim.toNat) && decide (f.dim ≠ 0xFF)) = false := by
    rcases dim with low | none
    · simp [low]
    · simp [none]
  have pass : zoneOperands zone f = .accept (writtenConfig f) (writtenCut f) := by
    rw [zoneOperands_eq]
    refine checks_accept _ _ _ fun x member => ?_
    simp only [zoneChecks, bound, List.mem_cons, List.not_mem_nil, or_false] at member
    rcases member with rfl | rfl | rfl | rfl <;> simp [index, channel, group]
  exact Part.configWrite_done saves (Part.outcome_accept p _ _ pass)

theorem Part.doZoneWriteOne_refused {before after : List (Bool × Code × Nat)} {bad : Bool} {code : Code} {field : Nat}
    (split : zoneChecks zone f = before ++ (bad, code, field) :: after) (pass : ∀ x ∈ before, x.1 = false)
    (fails : bad = true) : Part.doZoneWriteOne zone f p = (p, .refused code field) := by
  have refuses : zoneOperands zone f = .refuse code field := by
    rw [zoneOperands_eq, split]
    exact checks_refuse_at before pass fails
  exact Part.configWrite_refused saves (Part.outcome_refuse p _ _ refuses)

end

/-- ZONE_WRITE ONE refused at the first check that fails. -/
theorem AnswersWith.of_zoneRefused {s : State} (w : s.Writable) (tag : Byte) {zone : Byte} {f : ZoneFields}
    {before after : List (Bool × Code × Nat)} {bad : Bool} {code : Code} {field : Nat}
    (split : zoneChecks zone f = before ++ (bad, code, field) :: after) (pass : ∀ x ∈ before, x.1 = false)
    (fails : bad = true) : AnswersWith (.zoneWriteOne tag zone f) s tag 0x0D (.refused code field) s.part :=
  .of_refused rfl rfl rfl w.ready ((s.part.taken tag 0x0D).doZoneWriteOne_refused w.noSave split pass fails)

/-! ### The zone written (R114) -/

/-- The freeze guard of zone z under a configuration: that of a new channel as its window stands, whatever its validity. -/
def Part.guardUnder (p : Part) (z : Nat) (cfg : ZoneConfig) : Bool :=
  if (p.zone z).cfg.channel = cfg.channel then (p.zone z).guard else decide ((p.channel cfg.channel).window = .low)

/-- The part with zone z's configuration and what follows of its channel stored, before anything is handed or evaluated. -/
def Part.zoneStored (p : Part) (z : Nat) (cfg : ZoneConfig) : Part :=
  p.setZone z { p.zone z with cfg := cfg, i := min (p.zone z).i cfg.imax, guard := p.guardUnder z cfg }

/-- The part with zone z's configuration stored and its guard handed. -/
def Part.zoneGuarded (p : Part) (z : Nat) (cfg : ZoneConfig) : Part :=
  let stored := p.setZone z ((p.zone z).withConfig cfg)
  if (p.zone z).cfg.channel = cfg.channel then stored
  else stored.setFreezeGuard z (decide ((stored.channel cfg.channel).window = .low))

/-- The part with the demands of the groups handed too, before the evaluation. -/
def Part.zoneWritten (p : Part) (z : Nat) (cfg : ZoneConfig) : Part :=
  if (p.zone z).cfg.group = cfg.group then p.zoneGuarded z cfg
  else (p.zoneGuarded z cfg).oweGroups (p.zone z).cfg.group cfg.group

theorem Part.writeZone_eq (p : Part) (z : Nat) (cfg : ZoneConfig) : p.writeZone z cfg = (p.zoneWritten z cfg).evaluate z := by
  simp only [Part.writeZone, Part.zoneWritten, Part.zoneGuarded]

theorem Part.setZone_setZone (p : Part) (z : Nat) (x y : Zone) : (p.setZone z x).setZone z y = p.setZone z y := by
  simp [Part.setZone, Tab.put]

/-- The guard of a new channel, but for its hand-off, stored with the fields. -/
theorem Part.zoneGuarded_stores (p : Part) {z : Nat} (cfg : ZoneConfig) (hz : z < 12) :
    (p.zoneStored z cfg).Spares (p.zoneGuarded z cfg) (fun _ => False) ∧
      ((p.zone z).guard ≠ p.guardUnder z cfg →
        Due.budget (.freezeGuard z (p.guardUnder z cfg)) ∈ (p.zoneGuarded z cfg).due) := by
  unfold Part.zoneStored Part.zoneGuarded Part.guardUnder
  dsimp only
  by_cases same : (p.zone z).cfg.channel = cfg.channel
  · simp only [if_pos same]
    exact ⟨.refl _ _, fun moved => absurd rfl moved⟩
  · simp only [if_neg same]
    have stores := (p.setZone z ((p.zone z).withConfig cfg)).setFreezeGuard_stores z
      (decide ((p.channel cfg.channel).window = .low))
    rw [Part.setZone_setZone, p.zone_setZone z _ hz] at stores
    exact stores

theorem mem_groupsOwed {g h : Nat} (differ : g ≠ h) : Due.demand g ∈ groupsOwed g h ∧ Due.demand h ∈ groupsOwed g h := by
  rw [groupsOwed, if_neg differ]
  rcases Nat.le_total g h with le | le <;> simp [le]

/-- A write of the zone, but for what it hands: the fields and the guard stored. -/
theorem Part.zoneWritten_stores (p : Part) {z : Nat} (cfg : ZoneConfig) (hz : z < 12) :
    (p.zoneStored z cfg).Spares (p.zoneWritten z cfg) (fun _ => False) ∧
      ((p.zone z).guard ≠ p.guardUnder z cfg →
        Due.budget (.freezeGuard z (p.guardUnder z cfg)) ∈ (p.zoneWritten z cfg).due) ∧
      ((p.zone z).cfg.group ≠ cfg.group →
        Due.demand (p.zone z).cfg.group ∈ (p.zoneWritten z cfg).due ∧ Due.demand cfg.group ∈ (p.zoneWritten z cfg).due) := by
  obtain ⟨stored, told⟩ := p.zoneGuarded_stores cfg hz
  unfold Part.zoneWritten
  by_cases same : (p.zone z).cfg.group = cfg.group
  · rw [if_pos same]
    exact ⟨stored, told, fun moved => absurd same moved⟩
  · obtain ⟨old, new⟩ := mem_groupsOwed same
    rw [if_neg same, Part.oweGroups_eq]
    exact ⟨stored.trans (.of_eq rfl rfl rfl rfl rfl ⟨_, rfl⟩),
      fun moved => List.mem_append_left _ (told moved),
      fun _ => ⟨List.mem_append_right _ old, List.mem_append_right _ new⟩⟩

theorem Part.zoneWritten_link (p : Part) (z : Nat) (cfg : ZoneConfig) : (p.zoneWritten z cfg).link = p.link := by
  simp only [Part.zoneWritten, Part.zoneGuarded]
  (repeat' split) <;> simp

/-- From p to q zone z has been written and evaluated, and no other zone touched. -/
structure Part.ZoneWrote (z : Nat) (cfg : ZoneConfig) (p q : Part) : Prop where
  evaluated : ZoneEvaluated (p.zoneStored z cfg) q z
  guardTold : (p.zone z).guard ≠ p.guardUnder z cfg → Due.budget (.freezeGuard z (p.guardUnder z cfg)) ∈ q.due
  groupsTold : (p.zone z).cfg.group ≠ cfg.group → Due.demand (p.zone z).cfg.group ∈ q.due ∧ Due.demand cfg.group ∈ q.due
  cut : (q.zone z).i ≤ cfg.imax
  spares : p.Spares q (· = z)
  posts : Posts (lostTold p q z) p q

theorem Part.writeZone_wrote (p : Part) {z : Nat} (cfg : ZoneConfig) (hz : z < 12) : ZoneWrote z cfg p (p.writeZone z cfg) := by
  obtain ⟨stored, guard, groups⟩ := p.zoneWritten_stores cfg hz
  have link := p.zoneWritten_link z cfg
  rw [p.writeZone_eq]
  generalize p.zoneWritten z cfg = w at stored guard groups link
  have spares := w.evaluate_spares hz
  have sets : p.Spares w (· = z) := (Part.Spares.setZone p z _).trans (stored.mono fun _ none => none.elim)
  have record : w.zone z = { p.zone z with cfg := cfg, i := min (p.zone z).i cfg.imax, guard := p.guardUnder z cfg } :=
    (stored.zones z not_false).trans (p.zone_setZone z _ hz)
  refine { evaluated := ZoneEvaluated.before (w.evaluate_evaluates hz) stored not_false,
           guardTold := fun moved => spares.due.subset (guard moved),
           groupsTold := fun moved => ⟨spares.due.subset (groups moved).1, spares.due.subset (groups moved).2⟩,
           spares := sets.trans spares, cut := ?_, posts := ?_ }
  · obtain ⟨handed, lr, source, direct, light, after, -⟩ := w.evaluate_zone hz
    have within := (w.zone z).heat_i_le (w.heatReading z) (by rw [record]; exact Nat.min_le_right _ _)
    rw [after]
    rw [show (w.zone z).cfg.imax = cfg.imax by rw [record]] at within
    exact within
  · have posts := w.evaluate_posts hz
    rw [lostTold_congr (p := p) (by rw [record]) (by rw [record]) sets.mu rfl rfl] at posts
    exact posts.of_link link

theorem ChangesOnly.writeZone (p : Part) (z : Nat) (cfg : ZoneConfig) :
    ChangesOnly [.doorLine, .conditioner, .notices, .handed] p (p.writeZone z cfg) := by
  obtain ⟨clock, cal, mu, air, lb, running, still, -⟩ := p.writeZone_keeps z cfg
  exact .of_doorWork clock cal mu air lb running still

/-- The zone stands as its owner wrote it when the request has been answered. -/
theorem Part.ZoneWrote.answered {z : Nat} {cfg : ZoneConfig} {p q : Part} {tag kind : Byte} (r : Reply)
    (wrote : ZoneWrote z cfg (p.taken tag kind) q) : ZoneWrote z cfg p (q.markUnsaved.answered r) where
  evaluated := wrote.evaluated
  guardTold := wrote.guardTold
  groupsTold := wrote.groupsTold
  cut := wrote.cut
  spares :=
    have taken : p.Spares (p.taken tag kind) (· = z) := .of_eq rfl rfl rfl rfl rfl ⟨[], List.append_nil _⟩
    have ends : q.Spares (q.markUnsaved.answered r) (· = z) := .of_eq rfl rfl rfl rfl rfl ⟨[], List.append_nil _⟩
    (taken.trans wrote.spares).trans ends
  posts := Posts.answered (q := q.markUnsaved) r wrote.posts

/-- ZONE_WRITE ONE accepted: the zone written, and the settings then unsaved. -/
theorem Answers.of_zoneWrite {s : State} (w : s.Writable) (tag : Byte) {n : Byte} {f : ZoneFields} (index : n.toNat ≤ 11)
    (channel : f.channel.toNat ≤ 19) (group : f.group.toNat ≤ 5) (dim : f.dim.toNat ≤ 11 ∨ f.dim = 0xFF) :
    Answers (.zoneWriteOne tag n f) s tag 0x0D (.done (writtenCut f) []) fun q =>
      Part.ZoneWrote n.toNat (writtenConfig f) s.part q ∧ q.link.unsaved = true ∧
        ChangesOnly [.conditioner, .doorLine, .settings, .replies, .notices, .handed] s.part q := by
  have wrote := (s.part.taken tag 0x0D).writeZone_wrote (writtenConfig f) (Nat.lt_succ_of_le index)
  have moved := ChangesOnly.writeZone (s.part.taken tag 0x0D) n.toNat (writtenConfig f)
  have still : ((s.part.taken tag 0x0D).writeZone n.toNat (writtenConfig f)).link.still =
      (s.part.taken tag 0x0D).link.still := by simp
  have work := (s.part.taken tag 0x0D).doZoneWriteOne_done w.noSave index channel group dim
  generalize (s.part.taken tag 0x0D).writeZone n.toNat (writtenConfig f) = q at wrote moved still work
  have order : q.link.waiting ≠ [] → q.link.replies ≠ [] := w.ready.order still
  refine .of_serve_closed rfl rfl rfl w.ready (by simp) work (Link.outgoing_of_still still :) ⟨wrote.answered _, ?_, ?_⟩
  · exact (congrArg (·.unsaved) (Link.ready_kick_aside q.markUnsaved.link _ order) :)
  · exact ((moved.trans (.markUnsaved q)).answered (q := q.markUnsaved) _ order).mono (by decide)

/-- Settles O45: the fields of the write and its refusals by the first check that fails, the zone written (`Part.ZoneWrote`), and
the zones that take their guards at an edge (`Part.EdgeTaken`). -/
theorem aWrittenZoneAndAFreezeEdgeAreEvaluated : Obligations.AWrittenZoneAndAFreezeEdgeAreEvaluated := by
  refine ⟨fun s tag n f w => ⟨fun index channel group dim => ?write, fun beyond => ?_, fun index beyond => ?_,
    fun index channel beyond => ?_, fun index channel group beyond some => ?_⟩, fun s c alarm runs hc => ?edge⟩
  case write =>
    obtain ⟨t, step, pending, reply, inHand, wrote, unsaved, moved⟩ := Answers.of_zoneWrite w tag index channel group dim
    obtain ⟨evaluated, guardTold, groupsTold, cut, spares, posts⟩ := wrote
    obtain ⟨cfg, guard, marked, timer⟩ := HeatFollows.record evaluated.1
    have hz : n.toNat < 12 := Nat.lt_succ_of_le index
    rw [Part.zoneStored, Part.zone_setZone _ _ _ hz] at cfg guard
    dsimp only at cfg guard
    refine ⟨t, step, pending, reply, inHand, cfg, evaluated, guardTold, spares.due, spares.stations, cut, marked, timer,
      unsaved, fun same => ?_, fun moved => ?_, groupsTold, fun y _ other => spares.zones y other, posts, moved⟩
    · rw [guard, Part.guardUnder]
      exact if_pos same
    · rw [guard, Part.guardUnder]
      exact if_neg moved
  case edge =>
    obtain ⟨due, settled⟩ := s.part.settleDue_eq fun d => decide (d = .freezeEdge c alarm)
    have taken := Part.takeFreezeEdge_takes { s.part with due := due } c alarm
    have moved := ChangesOnly.takeFreezeEdge { s.part with due := due } c alarm
    refine .of_act (exec_freezeGuardEdge c alarm s) runs ?_
    rw [if_pos hc, settled]
    generalize Part.takeFreezeEdge { s.part with due := due } c alarm = q at taken moved ⊢
    obtain ⟨evaluated, told, spares, posts⟩ := taken
    have reads {z : Nat} (hz : z < 12) (here : (s.part.zone z).cfg.channel = c) :
        z ∈ (List.range 12).filter fun z => decide ((s.part.zone z).cfg.channel = c) :=
      List.mem_filter.2 ⟨List.mem_range.2 hz, decide_eq_true here⟩
    have spared {z : Nat} (away : (s.part.zone z).cfg.channel ≠ c) :
        z ∉ (List.range 12).filter fun z => decide ((s.part.zone z).cfg.channel = c) := fun member =>
      away (of_decide_eq_true (List.mem_filter.1 member).2)
    refine ⟨fun z hz here => ?_, fun z hz away => ⟨spares.zones z (spared away), fun a low high own => ?_⟩, posts.settled,
      moved.settled⟩
    · have this := evaluated z (reads hz here)
      obtain ⟨-, guard, marked, timer⟩ := HeatFollows.record this.1
      rw [Part.zone_setZone _ _ _ hz] at guard
      exact ⟨ZoneEvaluated.of_due (due := due) this, guard, marked, timer, told z (reads hz here)⟩
    · exact spares.stations a low high (own ▸ spared away)
  · exact .of_zoneRefused w tag (before := []) rfl (by simp) (decide_eq_true beyond)
  · exact .of_zoneRefused w tag (before := [_]) rfl (by simp [index]) (decide_eq_true beyond)
  · exact .of_zoneRefused w tag (before := [_, _]) rfl (by simp [index, channel]) (decide_eq_true beyond)
  · exact .of_zoneRefused w tag (before := [_, _, _]) rfl (by simp [index, channel, group]) (by
      rw [decide_eq_true beyond, decide_eq_true some]
      rfl)

end Sys2Proof.Machine
end
